-- ==== Sys2Proof/Word.lean ====
section
/-! DEFINITION. The word types of the MSC-2048: 32-bit registers, bytes, 18-bit words and 42-bit accumulators (R55). -/

namespace Sys2Proof

/-- A register word of BAR0 or of a core. -/
abbrev Word := BitVec 32

/-- A byte of host memory, flash or a packet. -/
abbrev Byte := BitVec 8

/-- An 18-bit word of the data side (R55). -/
abbrev W18 := BitVec 18

/-- A tile accumulator (R113). -/
abbrev Acc := BitVec 42

/-- A 64-bit postmark or counter (R51). -/
abbrev Word64 := BitVec 64

end Sys2Proof
end

