-- ==== Sys2Proof/Syntax.lean ====
section
/-! DEFINITION. The commands of the MSC-2048: one constructor per row of spec/opcode_table.json, with the data that
each one brings to the card. A descriptor row carries the descriptor as it arrived (R310), with the host buffer data
that the operation reads; an event row carries what the outside world presents; a register row the word written. -/

namespace Sys2Proof

/-- A descriptor as fetched from SQ `sq` (R310). The opcode byte is the constructor. `area` is bytes 16 to 63, byte 16
in bits 7:0; `buf` is what the host buffer that the operation reads holds when it is read. -/
structure Desc where
  sq : Nat := 0
  flags : BitVec 8 := 0
  session : BitVec 16 := 0
  tag : BitVec 32 := 0
  rsvd : BitVec 64 := 0
  area : BitVec 384 := 0
  buf : List (BitVec 8) := []
deriving DecidableEq, Repr

/-- Conditions of the tile hardware that meet one instruction: corrected single-bit errors, a double-bit error of the
fetch or of an operand (R112), and the lane whose mod-3 residue check fails (R120 code 8). -/
structure TileHw where
  corrected : Nat := 0
  uncorrectable : Option Nat := none
  laneCheck : Option Nat := none
deriving DecidableEq, Repr

/-- One tile instruction at logical tile `tile`: the V, D, A and B fields of R115. The opcode is the constructor. -/
structure TileOp where
  tile : Nat := 0
  v : BitVec 3 := 0
  d : BitVec 9 := 0
  a : BitVec 9 := 0
  b : BitVec 9 := 0
  hw : TileHw := {}
deriving DecidableEq, Repr

/-- The dataset that an Announce message carries (R29, IEEE 1588-2019 data set comparison). -/
structure Announce where
  gm : BitVec 64 := 0
  priority1 : Nat := 128
  clockClass : Nat := 248
  accuracy : Nat := 254
  variance : Nat := 65535
  priority2 : Nat := 128
  stepsRemoved : Nat := 0
  senderPort : BitVec 80 := 0
  logInterval : Int := 0
  utcOffset : BitVec 16 := 0
  domain : Nat := 0
deriving DecidableEq, Repr

/-- A reading of one on-card sensor: `index` 0 to 3 die, 4 to 7 card (R285); `fault` is an open or a short. -/
structure Sensor where
  index : Nat
  code : BitVec 18
  fault : Bool := false
deriving DecidableEq, Repr

/-- A memory error that a scrubber meets in a frame: in word `addr` of physical tile `unit` (R112), or in recorder
region `unit` (R373). -/
structure EccEvent where
  recorder : Bool := false
  unit : Nat
  addr : Nat := 0
  uncorrectable : Bool
deriving DecidableEq, Repr

/-- One satellite's 3 bytes of a CENSUS packet (R87): ring position (0 unassigned), ID_CHECK, last accepted SEQ. -/
structure CensusEntry where
  pos : Nat
  idCheck : BitVec 8 := 0
  lastSeq : BitVec 8 := 0
deriving DecidableEq, Repr

/-- A plant datagram's envelope (R327) without its TYPE byte. `port` is the P2 port it came by, `udp` its UDP port. -/
structure Envelope where
  port : Nat := 0
  udp : Nat := 27000
  version : BitVec 8 := 1
  len : BitVec 16 := 0
  dest : BitVec 32 := 0
  src : BitVec 32 := 0
  seq : BitVec 32 := 0
  postmark : BitVec 64 := 0
  keyId : BitVec 16 := 0
  zero : BitVec 48 := 0
  body : List (BitVec 8) := []
  auth : List (BitVec 8) := []
deriving DecidableEq, Repr

/-- A CAN frame received (R402, R403). `stamp` is the CAN time counter at its validity (R406). -/
structure CanFrame where
  id : BitVec 29
  ide : Bool := false
  remote : Bool := false
  dlc : BitVec 4 := 0
  fdf : Bool := false
  brs : Bool := false
  esi : Bool := false
  data : List (BitVec 8) := []
  stamp : BitVec 32 := 0
deriving DecidableEq, Repr

/-- A DBG_CMD word without its command byte (R426), with the word that DBG_DATA held. -/
structure DbgCmd where
  arg : BitVec 8 := 0
  zero : BitVec 16 := 0
  addr : BitVec 32 := 0
  data : BitVec 32 := 0
deriving DecidableEq, Repr

/-- The commands. -/
inductive Instr where
  /-- COLD_RESET (R3). -/
  | coldReset (pins : BitVec 11) (failed : List Nat)
  /-- CARD_SEATED (R442). -/
  | cardSeated (pins : BitVec 11) (failed : List Nat)
  /-- BOOT_CNT_CLEAR (R352). -/
  | bootCntClear
  /-- WARM_RESTART_COMPLETE (R459). -/
  | warmRestartComplete (lane : Nat)
  /-- HOST_READY (R322). -/
  | hostReady
  /-- RESET_BUTTON (R451). -/
  | resetButton
  /-- FEED_LOST (R435). -/
  | feedLost (feed : Nat) (volts : Nat) (bank : Nat)
  /-- FEED_IN_RANGE (R436). -/
  | feedInRange (feed : Nat) (volts : Nat)
  /-- FEED_RETURN (R436). -/
  | feedReturn
  /-- HOLDUP_SPENT (R437). -/
  | holdupSpent
  /-- EJECTOR_LATCH_OPEN (R446). -/
  | ejectorLatchOpen
  /-- DRAIN_COMPLETE (R446). -/
  | drainComplete
  /-- CARD_UNSEATED (R449). -/
  | cardUnseated
  /-- SYNC_RECEIVED (R30). -/
  | syncReceived (port : Nat) (offset : Int)
  /-- ANNOUNCE_RECEIVED (R29). -/
  | announceReceived (port : Nat) (ann : Announce)
  /-- ANNOUNCE_TIMEOUT (R32). -/
  | announceTimeout (port : Nat)
  /-- PORT_LINK_LOSS (R29). -/
  | portLinkLoss (port : Nat)
  /-- HOLDOVER_LIMIT_EXPIRY (R32). -/
  | holdoverLimitExpiry
  /-- PLANT_TIME_STEP (R30). -/
  | plantTimeStep
  /-- DELAY_REQ_EGRESS (R34). -/
  | delayReqEgress (port : Nat) (seqId : Nat)
  /-- DELAY_RESP_RECEIVED (R34). -/
  | delayRespReceived (port : Nat) (seqId : Nat) (delay : Int)
  /-- FRAME_BOUNDARY (R35). -/
  | frameBoundary (overrun : Bool) (sensors : List Sensor) (ecc : List EccEvent)
  /-- SLOT_BOUNDARY (R37). -/
  | slotBoundary (overrun : Bool)
  /-- FRAME_PULSE_EDGE (R39). -/
  | framePulseEdge (delta : Int)
  /-- PULSE_LOST (R40). -/
  | pulseLost
  /-- TRIGGER_FIRE (R44). -/
  | triggerFire (slot : Nat)
  /-- UPLOAD_SEGMENT (R84). -/
  | uploadSegment (chain : Nat) (port : Nat) (late : Bool) (bytes : List (BitVec 8))
  /-- CHAIN_LINK_CHANGE (R74). -/
  | chainLinkChange (chain : Nat) (port : Nat) (up : Bool) (viol : Nat)
  /-- CENSUS (R92). -/
  | census (chain : Nat) (head : List CensusEntry) (tail : List CensusEntry)
  /-- SAT_RESPONSE (R87). -/
  | satResponse (chain : Nat) (port : Nat) (bytes : List (BitVec 8))
  /-- SAT_RSP_TIMEOUT (R91). -/
  | satRspTimeout (chain : Nat) (place : Nat)
  /-- SATELLITE_LOST (R96). -/
  | satelliteLost (chain : Nat) (place : Nat)
  /-- CHAIN_CONTROLLER_RESET (R104). -/
  | chainControllerReset (chain : Nat)
  /-- CHAIN_RESET (R104). -/
  | chainReset (chain : Nat)
  /-- LOOP_CODE_CHANGE (R102). -/
  | loopCodeChange (chain : Nat) (tailEnd : Bool) (code : Nat)
  /-- INPUT_WINDOW_FILLED (R122). -/
  | inputWindowFilled
  /-- TILE_NOP (R118). -/
  | tileNop (x : TileOp)
  /-- HALT (R118). -/
  | halt (x : TileOp)
  /-- SETB (R118). -/
  | setb (x : TileOp)
  /-- ADDB (R118). -/
  | addb (x : TileOp)
  /-- SETL (R118). -/
  | setl (x : TileOp)
  /-- LOOP (R118). -/
  | loop (x : TileOp)
  /-- JMP (R118). -/
  | jmp (x : TileOp)
  /-- BANY (R118). -/
  | bany (x : TileOp)
  /-- BNONE (R118). -/
  | bnone (x : TileOp)
  /-- WAIT (R118). -/
  | wait (x : TileOp)
  /-- FLAGRD (R118). -/
  | flagrd (x : TileOp)
  /-- FLAGCLR (R118). -/
  | flagclr (x : TileOp)
  /-- FRMRD (R118). -/
  | frmrd (x : TileOp)
  /-- LANEID (R118). -/
  | laneid (x : TileOp)
  /-- MAC (R118). -/
  | mac (x : TileOp)
  /-- MSU (R118). -/
  | msu (x : TileOp)
  /-- MUL (R118). -/
  | mul (x : TileOp)
  /-- ACCLD (R118). -/
  | accld (x : TileOp)
  /-- ACCADD (R118). -/
  | accadd (x : TileOp)
  /-- NARROW (R58). -/
  | narrow (x : TileOp)
  /-- ADD (R118). -/
  | add (x : TileOp)
  /-- SUB (R118). -/
  | sub (x : TileOp)
  /-- NEG (R118). -/
  | neg (x : TileOp)
  /-- ABS (R118). -/
  | abs (x : TileOp)
  /-- MIN (R118). -/
  | min (x : TileOp)
  /-- MAX (R118). -/
  | max (x : TileOp)
  /-- SHL (R118). -/
  | shl (x : TileOp)
  /-- SHR (R118). -/
  | shr (x : TileOp)
  /-- CONV (R118). -/
  | conv (x : TileOp)
  /-- MOV (R118). -/
  | mov (x : TileOp)
  /-- AND (R118). -/
  | and (x : TileOp)
  /-- OR (R118). -/
  | or (x : TileOp)
  /-- XOR (R118). -/
  | xor (x : TileOp)
  /-- SEL (R118). -/
  | sel (x : TileOp)
  /-- CMPS (R118). -/
  | cmps (x : TileOp)
  /-- CMPU (R118). -/
  | cmpu (x : TileOp)
  /-- CMPSA (R118). -/
  | cmpsa (x : TileOp)
  /-- CMPUA (R118). -/
  | cmpua (x : TileOp)
  /-- SETP (R118). -/
  | setp (x : TileOp)
  /-- LUT (R119). -/
  | lut (x : TileOp)
  /-- XCHG (R119). -/
  | xchg (x : TileOp)
  /-- XCHG_PARTNER_MET (R119). -/
  | xchgPartnerMet (tile : Nat)
  /-- REDUCE (R118). -/
  | reduce (x : TileOp)
  /-- RDRED (R119). -/
  | rdred (x : TileOp)
  /-- REDUCTION_COMPLETE (R119). -/
  | reductionComplete (string : Nat) (channel : Nat)
  /-- TILE_UNDEFINED_OPCODE (R120). -/
  | tileUndefinedOpcode (x : TileOp) (opc : Nat)
  /-- TILE_RETIREMENT (R131). -/
  | tileRetirement (phys : Nat)
  /-- LIMITS_ZERO (R16). -/
  | limitsZero (string : Nat)
  /-- LA_FALLBACK (R152). -/
  | laFallback (string : Nat)
  /-- BALANCING_PLAN (R153). -/
  | balancingPlan
  /-- LEARNED_VALUE_COMMIT (R163). -/
  | learnedValueCommit (string : Nat) (cause : Nat)
  /-- COMMIT_READ_BACK (R163). -/
  | commitReadBack (string : Nat) (matched : Bool)
  /-- STATE_PAGE (R165). -/
  | statePage
  /-- PLAN_ACTIVATION (R176). -/
  | planActivation (string : Nat)
  /-- INJECTION_RAMP_UP (R192). -/
  | injectionRampUp (string : Nat)
  /-- HISTORY_UPDATE (R186). -/
  | historyUpdate
  /-- IMPEDANCE_PAGE (R193). -/
  | impedancePage
  /-- FAST_SAMPLE (R210). -/
  | fastSample (channel : Nat) (value : Int)
  /-- PRECISE_SAMPLE (R216). -/
  | preciseSample (channel : Nat) (value : Int)
  /-- SENSE_LOST (R203). -/
  | senseLost (channel : Nat)
  /-- START_DELAY_ELAPSED (R206). -/
  | startDelayElapsed (string : Nat)
  /-- STOP_DELAY_ELAPSED (R206). -/
  | stopDelayElapsed (string : Nat)
  /-- REQUEST_EXPIRY (R238). -/
  | requestExpiry (entry : Nat)
  /-- DEFER_EXPIRY (R246). -/
  | deferExpiry (entry : Nat)
  /-- INTERVAL_CLOSE (R255). -/
  | intervalClose
  /-- ACCOUNT_COMMIT (R259). -/
  | accountCommit
  /-- ESTOP_INPUT_CHANGE (R268). -/
  | estopInputChange (channelB : Bool) (closed : Bool)
  /-- DISCREPANCY (R265). -/
  | discrepancy
  /-- FABRIC_ARMED (R269). -/
  | fabricArmed
  /-- RESET_IN_CHANGE (R270). -/
  | resetInChange (energised : Bool)
  /-- RESET_STUCK (R270). -/
  | resetStuck
  /-- LANE_HEALTH (R266). -/
  | laneHealth
  /-- WELD_SENSE_SAMPLE (R274). -/
  | weldSenseSample (string : Nat) (vpm : Int) (vnm : Int)
  /-- T_CLOSE_ELAPSED (R273). -/
  | tCloseElapsed (string : Nat)
  /-- PRECHARGE_TIMEOUT (R273). -/
  | prechargeTimeout (string : Nat)
  /-- TRANSFER_ELAPSED (R273). -/
  | transferElapsed (string : Nat)
  /-- TRANSFER_OVERLAP_LIMIT (R264). -/
  | transferOverlapLimit (string : Nat)
  /-- OPEN_WAIT_ELAPSED (R275). -/
  | openWaitElapsed (string : Nat)
  /-- OPEN_DELAY_ELAPSED (R265). -/
  | openDelayElapsed (string : Nat)
  /-- WELD_CHECK (R276). -/
  | weldCheck (string : Nat) (vpm : Int) (vnm : Int)
  /-- DRIVER_TEST (R278). -/
  | driverTest (string : Nat) (driver : Nat) (pass : Bool)
  /-- COIL_TEST_END (R281). -/
  | coilTestEnd (string : Nat)
  /-- AO_RANGE_SEQUENCE (R296). -/
  | aoRangeSequence (output : Nat)
  /-- DESCRIPTOR_FETCH (R315). -/
  | descriptorFetch
  /-- UNDEFINED_OPCODE (R312). -/
  | undefinedOpcode (opcode : BitVec 8) (d : Desc)
  /-- NOP (R310). -/
  | nop (d : Desc)
  /-- HST_SQ_CREATE (R331). -/
  | hstSqCreate (d : Desc)
  /-- HST_CQ_CREATE (R331). -/
  | hstCqCreate (d : Desc)
  /-- HST_SQ_DELETE (R331). -/
  | hstSqDelete (d : Desc)
  /-- HST_CQ_DELETE (R331). -/
  | hstCqDelete (d : Desc)
  /-- HST_ABORT (R317). -/
  | hstAbort (d : Desc)
  /-- HST_SQ_RESTART (R331). -/
  | hstSqRestart (d : Desc)
  /-- HST_ORPHAN_READ (R321). -/
  | hstOrphanRead (d : Desc)
  /-- HST_PLANT_RECV (R331). -/
  | hstPlantRecv (d : Desc)
  /-- HST_PLANT_SEND (R331). -/
  | hstPlantSend (d : Desc)
  /-- HST_DLQ_READ (R330). -/
  | hstDlqRead (d : Desc)
  /-- SYS_DRAIN (R446). -/
  | sysDrain (d : Desc)
  /-- SYS_WARM_RESET (R459). -/
  | sysWarmReset (d : Desc)
  /-- CHN_ADMIT (R106). -/
  | chnAdmit (d : Desc)
  /-- CHN_BAL_MANUAL (R98). -/
  | chnBalManual (d : Desc)
  /-- CHN_BAL_TEST (R99). -/
  | chnBalTest (d : Desc)
  /-- CHN_SAT_READ (R106). -/
  | chnSatRead (d : Desc)
  /-- CHN_SAT_WRITE (R106). -/
  | chnSatWrite (d : Desc)
  /-- CHN_RESET (R105). -/
  | chnReset (d : Desc)
  /-- CHN_CENSUS (R106). -/
  | chnCensus (d : Desc)
  /-- TIL_KERNEL_LOAD (R136). -/
  | tilKernelLoad (d : Desc)
  /-- TIL_KERNEL_SWITCH (R128). -/
  | tilKernelSwitch (d : Desc)
  /-- TIL_TABLE_LOAD (R136). -/
  | tilTableLoad (d : Desc)
  /-- TIL_MEM_READ (R136). -/
  | tilMemRead (d : Desc)
  /-- TIL_MEM_WRITE (R136). -/
  | tilMemWrite (d : Desc)
  /-- TIL_TEST (R136). -/
  | tilTest (d : Desc)
  /-- TIL_RETIRE (R136). -/
  | tilRetire (d : Desc)
  /-- TIL_UNRETIRE (R136). -/
  | tilUnretire (d : Desc)
  /-- EST_LEARN_RESET (R170). -/
  | estLearnReset (d : Desc)
  /-- EST_LEARN_WRITE (R170). -/
  | estLearnWrite (d : Desc)
  /-- EST_LEARN_READ (R170). -/
  | estLearnRead (d : Desc)
  /-- EST_COMMIT (R170). -/
  | estCommit (d : Desc)
  /-- EST_MODEL_REINIT (R160). -/
  | estModelReinit (d : Desc)
  /-- EST_SWAP_DECLARE (R159). -/
  | estSwapDeclare (d : Desc)
  /-- IMP_PLAN_LOAD (R175). -/
  | impPlanLoad (d : Desc)
  /-- IMP_INJ_CTRL (R195). -/
  | impInjCtrl (d : Desc)
  /-- IMP_HIST_RESET (R195). -/
  | impHistReset (d : Desc)
  /-- IMP_SPECTRUM_READ (R195). -/
  | impSpectrumRead (d : Desc)
  /-- THM_TEMP_READ (R299). -/
  | thmTempRead (d : Desc)
  /-- THM_AO_SET (R299). -/
  | thmAoSet (d : Desc)
  /-- CNV_START (R220). -/
  | cnvStart (d : Desc)
  /-- CNV_STOP (R206). -/
  | cnvStop (d : Desc)
  /-- CNV_MODE (R222). -/
  | cnvMode (d : Desc)
  /-- CNV_SETPOINT (R207). -/
  | cnvSetpoint (d : Desc)
  /-- CNV_FF_LOAD (R219). -/
  | cnvFfLoad (d : Desc)
  /-- CNV_CAPTURE (R229). -/
  | cnvCapture (d : Desc)
  /-- DSP_REQUEST (R236). -/
  | dspRequest (d : Desc)
  /-- DSP_CANCEL (R260). -/
  | dspCancel (d : Desc)
  /-- DSP_REQ_READ (R260). -/
  | dspReqRead (d : Desc)
  /-- DSP_ACCT_READ (R258). -/
  | dspAcctRead (d : Desc)
  /-- DSP_ACCT_PRESET (R260). -/
  | dspAcctPreset (d : Desc)
  /-- SAF_CLOSE (R274). -/
  | safClose (d : Desc)
  /-- SAF_OPEN (R275). -/
  | safOpen (d : Desc)
  /-- SAF_TRIP (R265). -/
  | safTrip (d : Desc)
  /-- SAF_DRIVER_TEST (R278). -/
  | safDriverTest (d : Desc)
  /-- SAF_COIL_TEST (R281). -/
  | safCoilTest (d : Desc)
  /-- SAF_FAULT_CLEAR (R281). -/
  | safFaultClear (d : Desc)
  /-- FIO_DO_WRITE (R397). -/
  | fioDoWrite (d : Desc)
  /-- FIO_COS_READ (R411). -/
  | fioCosRead (d : Desc)
  /-- CAN_SEND (R404). -/
  | canSend (d : Desc)
  /-- CAN_READ (R405). -/
  | canRead (d : Desc)
  /-- CAN_SLEEP (R408). -/
  | canSleep (d : Desc)
  /-- REC_READ (R388). -/
  | recRead (d : Desc)
  /-- REC_BB_READ (R380). -/
  | recBbRead (d : Desc)
  /-- REC_ORIGIN (R381). -/
  | recOrigin (d : Desc)
  /-- REC_REPLAY_MODE (R384). -/
  | recReplayMode (d : Desc)
  /-- REC_REPLAY_LOAD (R385). -/
  | recReplayLoad (d : Desc)
  /-- REC_REPLAY_FEED (R385). -/
  | recReplayFeed (d : Desc)
  /-- LAN_STAGE_BEGIN (R348). -/
  | lanStageBegin (d : Desc)
  /-- LAN_PARCEL (R349). -/
  | lanParcel (d : Desc)
  /-- LAN_STAGE_QUERY (R363). -/
  | lanStageQuery (d : Desc)
  /-- LAN_UPDATE_PREPARE (R356). -/
  | lanUpdatePrepare (d : Desc)
  /-- LAN_HANDOVER (R357). -/
  | lanHandover (d : Desc)
  /-- LAN_UPDATE_ABORT (R358). -/
  | lanUpdateAbort (d : Desc)
  /-- LAN_LANE_RESET (R342). -/
  | lanLaneReset (d : Desc)
  /-- LAN_SAT_UPDATE (R354). -/
  | lanSatUpdate (d : Desc)
  /-- LAN_CFG_SAVE (R359). -/
  | lanCfgSave (d : Desc)
  /-- LAN_CFG_CHOOSE (R361). -/
  | lanCfgChoose (d : Desc)
  /-- LAN_BOOT_SPLIT (R344). -/
  | lanBootSplit (d : Desc)
  /-- SEC_CHALLENGE (R417). -/
  | secChallenge (d : Desc)
  /-- SEC_RESPOND (R417). -/
  | secRespond (d : Desc)
  /-- SEC_PASSWORD (R418). -/
  | secPassword (d : Desc)
  /-- SEC_CLOSE (R421). -/
  | secClose (d : Desc)
  /-- SEC_UNLOCK (R423). -/
  | secUnlock (d : Desc)
  /-- SEC_LIST (R432). -/
  | secList (d : Desc)
  /-- SEC_KEY_SET (R416). -/
  | secKeySet (d : Desc)
  /-- SEC_PASSWORD_SET (R416). -/
  | secPasswordSet (d : Desc)
  /-- SESSION_EXPIRY (R421). -/
  | sessionExpiry (session : Nat)
  /-- SLOT_BLOCK_EXPIRY (R419). -/
  | slotBlockExpiry (slot : Nat)
  /-- SQ_TAIL_DOORBELL (R308). -/
  | sqTailDoorbell (ring : Nat) (value : BitVec 32)
  /-- CQ_HEAD_DOORBELL (R308). -/
  | cqHeadDoorbell (ring : Nat) (value : BitVec 32)
  /-- DOORBELL_DISCARDED (R309). -/
  | doorbellDiscarded (offset : Nat) (value : BitVec 32)
  /-- HOST_INTERFACE_RESET (R319). -/
  | hostInterfaceReset (cause : Nat)
  /-- BUS_MASTER_ENABLE (R320). -/
  | busMasterEnable
  /-- DMA_READ_ERROR (R323). -/
  | dmaReadError (fetch : Bool) (target : Nat)
  /-- MSIX_MESSAGE (R326). -/
  | msixMessage (vector : Nat)
  /-- MSIX_UNMASK (R326). -/
  | msixUnmask (vector : Nat)
  /-- DISPATCH_REQUEST (R328). -/
  | dispatchRequest (e : Envelope)
  /-- DISPATCH_CANCEL (R328). -/
  | dispatchCancel (e : Envelope)
  /-- HOST_FORWARD (R328). -/
  | hostForward (e : Envelope)
  /-- PLANT_MESSAGE_INVALID (R328). -/
  | plantMessageInvalid (typ : Nat) (e : Envelope)
  /-- NETWORK_PARCEL (R350). -/
  | networkParcel (e : Envelope)
  /-- CORE_DISAGREE (R336). -/
  | coreDisagree (lane : Nat) (core : Nat) (majority : Bool)
  /-- CORE_RESYNC (R336). -/
  | coreResync (lane : Nat)
  /-- LANE_TAKEOVER (R341). -/
  | laneTakeover
  /-- STATE_IMPORT (R343). -/
  | stateImport (lane : Nat) (caughtUp : Bool)
  /-- CONTEXT_SAVE (R345). -/
  | contextSave (lane : Nat) (core : Nat) (interrupt : Bool) (code : Nat) (ecc : Bool)
  /-- IMAGE_VERIFY (R351). -/
  | imageVerify
  /-- UPD_SHADOW_READY (R356). -/
  | updShadowReady
  /-- SAT_RESET (R354). -/
  | satReset (string : Nat)
  /-- RECORD_STORE (R370). -/
  | recordStore (error : Bool)
  /-- RECORD_INTAKE_DROP (R369). -/
  | recordIntakeDrop (code : Nat)
  /-- ORIGIN_START (R381). -/
  | originStart (fast : Bool)
  /-- ORIGIN_COMPLETE (R382). -/
  | originComplete (tileLate : Bool)
  /-- DI_SAMPLE (R394). -/
  | diSample (levels : BitVec 16)
  /-- WIRE_BREAK (R396). -/
  | wireBreak (input : Nat) (broken : Bool)
  /-- DO_FAULT (R398). -/
  | doFault (output : Nat) (thermal : Bool)
  /-- DO_SUP_CHANGE (R398). -/
  | doSupChange (inRange : Bool) (volts : Nat)
  /-- FIELD_LINK_FRAME (R392). -/
  | fieldLinkFrame (toField : Bool) (valid : Bool) (copyOk : Bool) (readback : BitVec 8) (canCount : BitVec 32)
  /-- FIELD_SIDE_SILENT (R393). -/
  | fieldSideSilent
  /-- SAFE_STATE (R400). -/
  | safeState
  /-- LINK_RESTORED (R393). -/
  | linkRestored
  /-- CAN_FRAME_RECEIVED (R403). -/
  | canFrameReceived (ctl : Nat) (f : CanFrame)
  /-- CAN_FRAME_SENT (R404). -/
  | canFrameSent (ctl : Nat)
  /-- CAN_SEND_TIMEOUT (R404). -/
  | canSendTimeout (ctl : Nat) (hole : Nat)
  /-- CAN_ERROR (R407). -/
  | canError (ctl : Nat) (tec : Nat) (rec : Nat)
  /-- CAN_BUS_OFF_RECOVERY (R407). -/
  | canBusOffRecovery (ctl : Nat)
  /-- CAN_SLEEP_ENTRY (R408). -/
  | canSleepEntry (ctl : Nat)
  /-- CAN_WAKE (R408). -/
  | canWake (ctl : Nat) (cause : Nat)
  /-- EXTEST (R426). -/
  | extest (bits : BitVec 612)
  /-- IDCODE (R426). -/
  | idcode
  /-- SAMPLE_PRELOAD (R426). -/
  | samplePreload (bits : BitVec 612)
  /-- SEC_CHAL (R426). -/
  | secChal (dr : BitVec 264)
  /-- SEC_RESP (R426). -/
  | secResp (dr : BitVec 264)
  /-- BYPASS (R426). -/
  | bypass (tdi : Bool)
  /-- TEST_LOGIC_RESET (R426). -/
  | testLogicReset
  /-- ATTACH (R428). -/
  | attach (cmd : DbgCmd)
  /-- DETACH (R430). -/
  | detach (cmd : DbgCmd)
  /-- DEBUG_HALT (R427). -/
  | debugHalt (cmd : DbgCmd)
  /-- RESUME (R427). -/
  | resume (cmd : DbgCmd)
  /-- STEP (R427). -/
  | step (cmd : DbgCmd)
  /-- BP_SET (R427). -/
  | bpSet (cmd : DbgCmd)
  /-- BP_CLR (R427). -/
  | bpClr (cmd : DbgCmd)
  /-- REG_RD (R427). -/
  | regRd (cmd : DbgCmd)
  /-- REG_WR (R429). -/
  | regWr (cmd : DbgCmd)
  /-- MEM_RD (R427). -/
  | memRd (cmd : DbgCmd)
  /-- MEM_WR (R429). -/
  | memWr (cmd : DbgCmd)
  /-- BREAKPOINT_HIT (R427). -/
  | breakpointHit (bp : Nat)
  /-- REGISTER_WRITE (R305). -/
  | registerWrite (off : Nat) (value : BitVec 32) (be : BitVec 4) (same : BitVec 32)
  /-- TIM_NOW_SNAPSHOT (R5). -/
  | timNowSnapshot
  /-- TIM_FRAME_PM_SNAPSHOT (R53). -/
  | timFramePmSnapshot
  /-- DSP_HWM_SNAPSHOT (R5). -/
  | dspHwmSnapshot
  /-- DSP_ACCT_SNAPSHOT (R5). -/
  | dspAcctSnapshot
  /-- CAN_TS_SNAPSHOT (R406). -/
  | canTsSnapshot
  /-- ADMIN_EN (R307). -/
  | adminEn
  /-- HST_EV_PEND_CLEAR (R306). -/
  | hstEvPendClear (word : Nat) (value : BitVec 32) (same : BitVec 32)
  /-- PORT_PREF_WRITE (R29). -/
  | portPrefWrite (value : BitVec 32)
  /-- PTP_EN_WRITE (R32). -/
  | ptpEnWrite (value : BitVec 32)
  /-- CHN_CTRL_RESET (R104). -/
  | chnCtrlReset (chain : Nat) (value : BitVec 32)
  /-- SENSE_CFG_WRITE (R204). -/
  | senseCfgWrite (channel : Nat) (ofs : Bool) (value : BitVec 32)
  /-- INTERVAL_LEN_WRITE (R257). -/
  | intervalLenWrite (value : BitVec 32)
  /-- AO_RANGE_WRITE (R296). -/
  | aoRangeWrite (output : Nat) (value : BitVec 32)
  /-- AO_SAFE_WRITE (R295). -/
  | aoSafeWrite (output : Nat) (value : BitVec 32)
  /-- CAN_EN_WRITE (R407). -/
  | canEnWrite (ctl : Nat) (value : BitVec 32)
  /-- REC_JNL_HEAD_WRITE (R379). -/
  | recJnlHeadWrite (value : BitVec 32)
  /-- PULSE_CNT (R40). -/
  | pulseCnt
  /-- OVR_CNT (R37). -/
  | ovrCnt
  /-- TSQ_CNT (R34). -/
  | tsqCnt
  /-- TIL_SAT_CLR_FRAMES (R65). -/
  | tilSatClrFrames
  /-- CHN_CNT_CLR_ERR (R74). -/
  | chnCntClrErr (chain : Nat)
  /-- TIL_CNT_CLR_TRAP (R120). -/
  | tilCntClrTrap
  /-- TIL_CNT_CLR_ECC (R112). -/
  | tilCntClrEcc
  /-- EST_CNT_CLR_LEARN (R155). -/
  | estCntClrLearn
  /-- IMP_CNT_CLR_GATE (R181). -/
  | impCntClrGate
  /-- CNV_CNT_CLR_REG (R209). -/
  | cnvCntClrReg
  /-- DSP_CNT_CLR_OUTCOME (R246). -/
  | dspCntClrOutcome
  /-- SAF_CNT_CLR_TEST (R278). -/
  | safCntClrTest
  /-- SAF_CNT_CLR_OPEN (R265). -/
  | safCntClrOpen
  /-- HST_CNT_CLR_DLQ (R330). -/
  | hstCntClrDlq
  /-- HST_CNT_CLR_RECUR (R306). -/
  | hstCntClrRecur
  /-- LAN_CNT_CLR_CNT (R336). -/
  | lanCntClrCnt
  /-- REC_CNT_CLR_DROP (R370). -/
  | recCntClrDrop
  /-- REC_CNT_CLR_SKIP (R379). -/
  | recCntClrSkip
  /-- FIO_CNT_CLR_COS (R395). -/
  | fioCntClrCos
  /-- CAN_CNT_CLR_CNT (R403). -/
  | canCntClrCnt (ctl : Nat)
  /-- SEC_CNT_CLR_CNT (R419). -/
  | secCntClrCnt
  /-- SYS_CNT_CLR_CNT (R450). -/
  | sysCntClrCnt
  /-- EJECTOR_LATCH_CLOSE (R448). -/
  | ejectorLatchClose
  /-- PROBE_TURN_AROUND (R78). -/
  | probeTurnAround (chain : Nat) (port : Nat) (place : Nat) (delay : Nat)
  /-- HOLD_PWM_EDGE (R278). -/
  | holdPwmEdge (string : Nat) (driver : Nat) (pass : Bool)
  /-- BATCH_PAUSE_END (R127). -/
  | batchPauseEnd (tile : Nat)
  /-- FIELD_POWER_LOST (R391). -/
  | fieldPowerLost
  /-- FIELD_POWER_UP (R399). -/
  | fieldPowerUp
  /-- CAN_INTEGRATION_END (R409). -/
  | canIntegrationEnd (ctl : Nat)
  /-- PCIE_LINK_UP (R322). -/
  | pcieLinkUp
  /-- D3HOT_TRANSITION (R302). -/
  | d3hotTransition (toD3 : Bool)
deriving DecidableEq, Repr

end Sys2Proof
end

