-- ==== Sys2Proof/Decode.lean ====
section
/-! DEFINITION. The commands that a word spells. spec/opcode_table.json gives no row of this card bits: a command is a
happening at the card's pins, buses and links, and not an instruction word. -/

namespace Sys2Proof

/-- The command that an instruction word of `nbits` bits spells. The table gives no row bits, so no word spells one. -/
def decodeTableWord (_nbits _w : Nat) : Option Instr := none

end Sys2Proof
end

