-- ==== Sys2Proof/Config.lean ====
section
/-! DEFINITION. What an implementation fixes and what the spec leaves open: free values, as opaque constants with no
body. Nothing in Lean can evaluate one, so a statement that holds, holds for every value of it. -/

namespace Sys2Proof.Config

/-- The direction of a rounding that the spec does not state: `true` rounds a quotient that is not whole up. -/
opaque roundUp : Int → Int → Bool
/-- Whether the card is an MSC-2048-AX: the fitted variant (R1, SYS_REV.VARIANT). -/
opaque variantAX : Bool
/-- The maker key of slot 0 and the installer key of slot 1 at delivery (R415). -/
opaque keyAtDelivery : Nat → BitVec 256
/-- The image identifier of the firmware 4.2.0 package at delivery (R347, R458). -/
opaque imageAtDelivery : BitVec 32
/-- The kernel set identifier of the package at delivery. -/
opaque kernelAtDelivery : BitVec 32
/-- The satellite firmware part of the package at delivery (R458). -/
opaque satPartAtDelivery : List (BitVec 8)
/-- The random nonce of the n-th draw (R417). -/
opaque nonce : Nat → BitVec 256
/-- The random salt of the n-th draw (R418). -/
opaque salt : Nat → BitVec 128
/-- The random session identifier candidate of the n-th draw (R420). -/
opaque sessionDraw : Nat → BitVec 16
/-- Whether an ECDSA P-256 signature (last argument) over a hash verifies under the public key in key slot k (R348). -/
opaque ecdsaOk : Nat → BitVec 256 → List (BitVec 8) → Bool
/-- The servo's rate per nanosecond of offset of the integral term, in units of 2^-32 (R30). -/
opaque integralUnit : Int
/-- A lane's transaction digest (R340), lane 0 or 1, under the n-th draw: the digests of a frame share a draw. -/
opaque digest : Nat → Nat → BitVec 64
/-- Whether a frame's first attempt has begun when a later CAN_SEND of its hole comes, under the n-th draw (R404): the spec
gives the start of a frame no event. -/
opaque sendBegun : Nat → Bool

/-- A free 64-bit value: the n-th one that a step draws. -/
opaque freeValue : Nat → BitVec 64
/-- A free byte string of the given length, in formats that the spec calls the module's own or does not lay out. -/
opaque freeBytes : Nat → Nat → List (BitVec 8)
/-- The 16 bytes of the journal item for an intake order, from the codes in that order (R369, R378). -/
opaque intakeItem : List Nat → List (BitVec 8)
/-- The cosine of a phase given in 2^-16 of a cycle, in units of 2^-15 (R178 bounds its error, R180 and R182 do not
state the module's). -/
opaque cosine : Nat → Int
/-- The sine of a phase given in 2^-16 of a cycle, in units of 2^-15. -/
opaque sine : Nat → Int
/-- How many entries the black box keeps (R380 gives only a typical figure). -/
opaque blackBoxFrames : Nat
/-- A JTAG status of an access that the spec leaves open. -/
opaque jtagOpen : Nat → BitVec 32
/-- How the heat of a sample changes a thermal state's temperature code: state, heat in 2^-12 of 10^-10 W, C_TH (R147
gives the heat and names the thermal group, not the share of each state). -/
opaque heatStep : Nat → Int → Nat → Int
/-- The state of charge that a position's model states stand for (R141 step 4). -/
opaque stateOfCharge : List Int → Nat
/-- A model state's equilibrium at a state of charge (R160): state of charge, state. -/
opaque equilibrium : Nat → Nat → Nat
/-- The energy of R149 in units of 8 Wh: direction (0 to discharge, 1 to charge), state of charge, learned capacity. -/
opaque energy : Nat → Nat → Nat → Nat
/-- What the supplied kernels do beside what chapters 6 and 7 describe, under the n-th draw: flags, cycles, and the
lookahead model's values. -/
opaque kernelFree : Nat → Nat → Nat → Nat

end Sys2Proof.Config
end

