-- ==== Sys2Proof/Machine/Store.lean ====
section
/-! DEFINITION. Sparse data by key in one canonical form: keys strictly rising, and no entry equal to what an unlisted
key reads as. It holds the register file, host memory, tile memory and every per-instance record of the card, so that
equal contents are equal data. -/

namespace Sys2Proof.Machine

/-- A sparse map from keys to `β`. What an unlisted key reads as is the argument `d` of `get` and `set`. -/
abbrev Store (β : Type) := List (Nat × β)

/-- The value at `k`; `d k` where `k` is not listed. -/
def Store.get {β : Type} (m : Store β) (d : Nat → β) (k : Nat) : β :=
  match m with
  | [] => d k
  | (a, v) :: r => if a = k then v else Store.get r d k

/-- The map without an entry for `k`. -/
def Store.drop {β : Type} (m : Store β) (k : Nat) : Store β :=
  match m with
  | [] => []
  | (a, v) :: r => if a = k then Store.drop r k else (a, v) :: Store.drop r k

/-- An entry put before the first greater key. -/
def Store.place {β : Type} (m : Store β) (k : Nat) (v : β) : Store β :=
  match m with
  | [] => [(k, v)]
  | (a, u) :: r => if k < a then (k, v) :: (a, u) :: r else (a, u) :: Store.place r k v

/-- The map with `v` at `k`, in canonical form. -/
def Store.set {β : Type} [DecidableEq β] (m : Store β) (d : Nat → β) (k : Nat) (v : β) : Store β :=
  if v = d k then Store.drop m k else Store.place (Store.drop m k) k v

/-- The listed keys lie above `lo`, rise strictly, and list no value equal to the default. -/
def Store.wfFrom {β : Type} [DecidableEq β] (m : Store β) (d : Nat → β) (lo : Nat) : Bool :=
  match m with
  | [] => true
  | (a, v) :: r => decide (lo ≤ a) && decide (v ≠ d a) && Store.wfFrom r d (a + 1)

/-- The canonical form. -/
def Store.wf {β : Type} [DecidableEq β] (m : Store β) (d : Nat → β) : Bool := Store.wfFrom m d 0

/-- Writes a list of values at rising keys from `k` on. -/
def Store.setRange {β : Type} [DecidableEq β] (m : Store β) (d : Nat → β) (k : Nat) (vs : List β) : Store β :=
  match vs with
  | [] => m
  | v :: r => Store.setRange (m.set d k v) d (k + 1) r

/-- Reads `n` values at rising keys from `k` on. -/
def Store.getRange {β : Type} (m : Store β) (d : Nat → β) (k n : Nat) : List β :=
  (List.range n).map fun i => m.get d (k + i)

end Sys2Proof.Machine
end

