-- ==== Sys2Proof/Machine/Regs.lean ====
section
/-! DEFINITION. The BAR0 registers (R454, R455): offsets, fields with their places, and one row of masks per register
class: cold-reset word, RW, W1C, WO and RO bits, and the bits marked (kept) (R4, R5). Offsets and fields bear the
manual's names; a per-instance register takes its instance numbers in the manual's own counting. -/

namespace Sys2Proof.Machine

/-- A field of a BAR0 register: byte offset, lowest bit, width. -/
structure Fld where
  off : Nat
  lo : Nat
  w : Nat
deriving DecidableEq, Repr

/-- A class of registers of one layout, `n1` instances `s1` bytes apart and in each of them `n2` instances `s2` bytes
apart, with its cold-reset word and its access masks (R5) the mask of its (kept) bits (R4),
and the lowest bit of each field. -/
structure RegClass where
  base : Nat
  n1 : Nat
  s1 : Nat
  n2 : Nat
  s2 : Nat
  cold : Nat
  rw : Nat
  w1c : Nat
  wo : Nat
  ro : Nat
  kept : Nat
  starts : Nat
deriving DecidableEq, Repr

/-- SYS_ID. -/
def SYS_ID : Nat := 0x0000
def SYS_ID.VENDOR : Fld := ⟨SYS_ID, 0, 16⟩
def SYS_ID.DEVICE : Fld := ⟨SYS_ID, 16, 16⟩

/-- SYS_REV. -/
def SYS_REV : Nat := 0x0004
def SYS_REV.HW_ISSUE : Fld := ⟨SYS_REV, 0, 8⟩
def SYS_REV.VARIANT : Fld := ⟨SYS_REV, 8, 1⟩

/-- SYS_FW_VER. -/
def SYS_FW_VER : Nat := 0x0008
def SYS_FW_VER.VERSION : Fld := ⟨SYS_FW_VER, 0, 24⟩
def SYS_FW_VER.MFC : Fld := ⟨SYS_FW_VER, 24, 8⟩

/-- SYS_CFG_STAT. -/
def SYS_CFG_STAT : Nat := 0x0010
def SYS_CFG_STAT.STATE : Fld := ⟨SYS_CFG_STAT, 0, 2⟩
def SYS_CFG_STAT.CAUSE : Fld := ⟨SYS_CFG_STAT, 2, 3⟩
def SYS_CFG_STAT.A_VALID : Fld := ⟨SYS_CFG_STAT, 5, 1⟩
def SYS_CFG_STAT.B_VALID : Fld := ⟨SYS_CFG_STAT, 6, 1⟩
def SYS_CFG_STAT.LOADED : Fld := ⟨SYS_CFG_STAT, 7, 1⟩
def SYS_CFG_STAT.LATENT : Fld := ⟨SYS_CFG_STAT, 8, 1⟩

/-- SYS_CFG_DIFF. -/
def SYS_CFG_DIFF : Nat := 0x0014
def SYS_CFG_DIFF.OFFSET : Fld := ⟨SYS_CFG_DIFF, 0, 16⟩
def SYS_CFG_DIFF.COUNT : Fld := ⟨SYS_CFG_DIFF, 16, 16⟩

/-- SYS_FEED_STAT. -/
def SYS_FEED_STAT : Nat := 0x0018
def SYS_FEED_STAT.A_OK : Fld := ⟨SYS_FEED_STAT, 0, 1⟩
def SYS_FEED_STAT.B_OK : Fld := ⟨SYS_FEED_STAT, 1, 1⟩
def SYS_FEED_STAT.ACTIVE : Fld := ⟨SYS_FEED_STAT, 2, 1⟩
def SYS_FEED_STAT.RETURN_PEND : Fld := ⟨SYS_FEED_STAT, 3, 1⟩
def SYS_FEED_STAT.HOLDUP : Fld := ⟨SYS_FEED_STAT, 4, 1⟩
def SYS_FEED_STAT.A_V : Fld := ⟨SYS_FEED_STAT, 8, 8⟩
def SYS_FEED_STAT.B_V : Fld := ⟨SYS_FEED_STAT, 16, 8⟩
def SYS_FEED_STAT.BANK_V : Fld := ⟨SYS_FEED_STAT, 24, 8⟩

/-- SYS_FEED_CFG. -/
def SYS_FEED_CFG : Nat := 0x001C
def SYS_FEED_CFG.RETURN_T : Fld := ⟨SYS_FEED_CFG, 0, 12⟩

/-- SYS_STICKY. -/
def SYS_STICKY : Nat := 0x0020
def SYS_STICKY.A_LOST : Fld := ⟨SYS_STICKY, 0, 1⟩
def SYS_STICKY.B_LOST : Fld := ⟨SYS_STICKY, 1, 1⟩
def SYS_STICKY.SWITCHOVER : Fld := ⟨SYS_STICKY, 2, 1⟩
def SYS_STICKY.EJECT : Fld := ⟨SYS_STICKY, 3, 1⟩
def SYS_STICKY.DRAINED : Fld := ⟨SYS_STICKY, 4, 1⟩
def SYS_STICKY.FORCED : Fld := ⟨SYS_STICKY, 5, 1⟩
def SYS_STICKY.ID_BAD : Fld := ⟨SYS_STICKY, 6, 1⟩
def SYS_STICKY.REJECT : Fld := ⟨SYS_STICKY, 7, 1⟩

/-- SYS_SLOT. -/
def SYS_SLOT : Nat := 0x0024
def SYS_SLOT.MODULE : Fld := ⟨SYS_SLOT, 0, 10⟩
def SYS_SLOT.ID_VALID : Fld := ⟨SYS_SLOT, 10, 1⟩
def SYS_SLOT.LATCH : Fld := ⟨SYS_SLOT, 11, 1⟩
def SYS_SLOT.REMOVE : Fld := ⟨SYS_SLOT, 12, 2⟩

/-- SYS_POWER. -/
def SYS_POWER : Nat := 0x0028
def SYS_POWER.CARD : Fld := ⟨SYS_POWER, 0, 16⟩
def SYS_POWER.DIE : Fld := ⟨SYS_POWER, 16, 16⟩

/-- SYS_CNT. -/
def SYS_CNT : Nat := 0x002C
def SYS_CNT.SWITCHOVER : Fld := ⟨SYS_CNT, 0, 16⟩
def SYS_CNT.FORCED : Fld := ⟨SYS_CNT, 16, 16⟩

/-- SYS_CNT_CLR. -/
def SYS_CNT_CLR : Nat := 0x0030
def SYS_CNT_CLR.CNT : Fld := ⟨SYS_CNT_CLR, 0, 1⟩

/-- TIM_CTRL. -/
def TIM_CTRL : Nat := 0x1000
def TIM_CTRL.PTP_EN : Fld := ⟨TIM_CTRL, 0, 1⟩
def TIM_CTRL.TRANSPORT : Fld := ⟨TIM_CTRL, 1, 1⟩
def TIM_CTRL.PORT_PREF : Fld := ⟨TIM_CTRL, 2, 1⟩
def TIM_CTRL.PULSE_DISCIPLINE : Fld := ⟨TIM_CTRL, 3, 1⟩
def TIM_CTRL.DOMAIN : Fld := ⟨TIM_CTRL, 4, 8⟩

/-- TIM_STATUS. -/
def TIM_STATUS : Nat := 0x1004
def TIM_STATUS.TIME_STATE : Fld := ⟨TIM_STATUS, 0, 2⟩
def TIM_STATUS.ACTIVE_PORT : Fld := ⟨TIM_STATUS, 2, 1⟩
def TIM_STATUS.PULSE_STATE : Fld := ⟨TIM_STATUS, 3, 2⟩
def TIM_STATUS.STEP_SEEN : Fld := ⟨TIM_STATUS, 5, 1⟩
def TIM_STATUS.TSQ_OVF : Fld := ⟨TIM_STATUS, 6, 1⟩
def TIM_STATUS.OVERRUN : Fld := ⟨TIM_STATUS, 7, 1⟩
def TIM_STATUS.CFG_REJECT : Fld := ⟨TIM_STATUS, 8, 1⟩
def TIM_STATUS.LATE_TRIGGER : Fld := ⟨TIM_STATUS, 9, 1⟩

/-- TIM_SERVO_CFG. -/
def TIM_SERVO_CFG : Nat := 0x1008
def TIM_SERVO_CFG.KP_SHIFT : Fld := ⟨TIM_SERVO_CFG, 0, 4⟩
def TIM_SERVO_CFG.KI_SHIFT : Fld := ⟨TIM_SERVO_CFG, 4, 4⟩
def TIM_SERVO_CFG.STEP_THR : Fld := ⟨TIM_SERVO_CFG, 8, 16⟩

/-- TIM_HOLDOVER_CFG. -/
def TIM_HOLDOVER_CFG : Nat := 0x100C
def TIM_HOLDOVER_CFG.HOLDOVER_LIMIT : Fld := ⟨TIM_HOLDOVER_CFG, 0, 16⟩
def TIM_HOLDOVER_CFG.ANNOUNCE_TO : Fld := ⟨TIM_HOLDOVER_CFG, 16, 8⟩

/-- TIM_OFFSET. -/
def TIM_OFFSET : Nat := 0x1010
def TIM_OFFSET.OFFSET : Fld := ⟨TIM_OFFSET, 0, 32⟩

/-- TIM_RATE_ADJ. -/
def TIM_RATE_ADJ : Nat := 0x1014
def TIM_RATE_ADJ.RATE_ADJ : Fld := ⟨TIM_RATE_ADJ, 0, 32⟩

/-- TIM_NOW_LO. -/
def TIM_NOW_LO : Nat := 0x1018
def TIM_NOW_LO.NOW : Fld := ⟨TIM_NOW_LO, 0, 32⟩

/-- TIM_NOW_HI. -/
def TIM_NOW_HI : Nat := 0x101C
def TIM_NOW_HI.NOW : Fld := ⟨TIM_NOW_HI, 0, 32⟩

/-- TIM_FRAME_PM_LO. -/
def TIM_FRAME_PM_LO : Nat := 0x1020
def TIM_FRAME_PM_LO.FRAME_PM : Fld := ⟨TIM_FRAME_PM_LO, 0, 32⟩

/-- TIM_FRAME_PM_HI. -/
def TIM_FRAME_PM_HI : Nat := 0x1024
def TIM_FRAME_PM_HI.FRAME_PM : Fld := ⟨TIM_FRAME_PM_HI, 0, 32⟩

/-- TIM_FRAME_NUM. -/
def TIM_FRAME_NUM : Nat := 0x1028
def TIM_FRAME_NUM.FRAME_NUM : Fld := ⟨TIM_FRAME_NUM, 0, 32⟩

/-- TIM_FRAME_LIVE. -/
def TIM_FRAME_LIVE : Nat := 0x102C
def TIM_FRAME_LIVE.FRAME_LIVE : Fld := ⟨TIM_FRAME_LIVE, 0, 32⟩

/-- TIM_FRAME_CFG. -/
def TIM_FRAME_CFG : Nat := 0x1030
def TIM_FRAME_CFG.FRAME_SLEW : Fld := ⟨TIM_FRAME_CFG, 0, 9⟩

/-- TIM_PULSE_CFG. -/
def TIM_PULSE_CFG : Nat := 0x1034
def TIM_PULSE_CFG.WINDOW : Fld := ⟨TIM_PULSE_CFG, 0, 12⟩
def TIM_PULSE_CFG.MISS_LIMIT : Fld := ⟨TIM_PULSE_CFG, 12, 4⟩
def TIM_PULSE_CFG.RECOVER : Fld := ⟨TIM_PULSE_CFG, 16, 8⟩
def TIM_PULSE_CFG.GUARD : Fld := ⟨TIM_PULSE_CFG, 24, 4⟩

/-- TIM_PULSE_STAT. -/
def TIM_PULSE_STAT : Nat := 0x1038
def TIM_PULSE_STAT.ERR : Fld := ⟨TIM_PULSE_STAT, 0, 16⟩
def TIM_PULSE_STAT.MISSED : Fld := ⟨TIM_PULSE_STAT, 16, 8⟩
def TIM_PULSE_STAT.SPURIOUS : Fld := ⟨TIM_PULSE_STAT, 24, 8⟩

/-- TIM_OVERRUN_CNT. -/
def TIM_OVERRUN_CNT : Nat := 0x103C
def TIM_OVERRUN_CNT.UPLOAD : Fld := ⟨TIM_OVERRUN_CNT, 0, 8⟩
def TIM_OVERRUN_CNT.TILE : Fld := ⟨TIM_OVERRUN_CNT, 8, 8⟩
def TIM_OVERRUN_CNT.CONTROL : Fld := ⟨TIM_OVERRUN_CNT, 16, 8⟩
def TIM_OVERRUN_CNT.PUBLISH : Fld := ⟨TIM_OVERRUN_CNT, 24, 8⟩

/-- TIM_TSQ_STAT. -/
def TIM_TSQ_STAT : Nat := 0x1040
def TIM_TSQ_STAT.FILL : Fld := ⟨TIM_TSQ_STAT, 0, 6⟩
def TIM_TSQ_STAT.LOST : Fld := ⟨TIM_TSQ_STAT, 16, 16⟩

/-- TIM_TRIG_STAT. -/
def TIM_TRIG_STAT : Nat := 0x1044
def TIM_TRIG_STAT.PENDING : Fld := ⟨TIM_TRIG_STAT, 0, 11⟩
def TIM_TRIG_STAT.LATE : Fld := ⟨TIM_TRIG_STAT, 16, 16⟩

/-- TIM_CNT_CLR. -/
def TIM_CNT_CLR : Nat := 0x1048
def TIM_CNT_CLR.PULSE_CNT : Fld := ⟨TIM_CNT_CLR, 0, 1⟩
def TIM_CNT_CLR.OVR_CNT : Fld := ⟨TIM_CNT_CLR, 1, 1⟩
def TIM_CNT_CLR.TSQ_CNT : Fld := ⟨TIM_CNT_CLR, 2, 1⟩

/-- TIM_UTC_OFFSET. -/
def TIM_UTC_OFFSET : Nat := 0x104C
def TIM_UTC_OFFSET.UTC_OFFSET : Fld := ⟨TIM_UTC_OFFSET, 0, 16⟩

/-- CHN_CTRL. -/
def CHN_CTRL (n : Nat) : Nat := 0x2000 + 0x400 * (n - 1)
def CHN_CTRL.EN (n : Nat) : Fld := ⟨CHN_CTRL n, 0, 1⟩
def CHN_CTRL.AUTO_ADMIT (n : Nat) : Fld := ⟨CHN_CTRL n, 1, 1⟩
def CHN_CTRL.MAINT (n : Nat) : Fld := ⟨CHN_CTRL n, 2, 1⟩
def CHN_CTRL.RESET (n : Nat) : Fld := ⟨CHN_CTRL n, 3, 1⟩
def CHN_CTRL.SAT_COUNT (n : Nat) : Fld := ⟨CHN_CTRL n, 4, 6⟩

/-- CHN_STATUS. -/
def CHN_STATUS (n : Nat) : Nat := 0x2004 + 0x400 * (n - 1)
def CHN_STATUS.RING_STATE (n : Nat) : Fld := ⟨CHN_STATUS n, 0, 2⟩
def CHN_STATUS.BREAK_AFTER (n : Nat) : Fld := ⟨CHN_STATUS n, 2, 6⟩
def CHN_STATUS.HEAD_LINK (n : Nat) : Fld := ⟨CHN_STATUS n, 8, 1⟩
def CHN_STATUS.TAIL_LINK (n : Nat) : Fld := ⟨CHN_STATUS n, 9, 1⟩
def CHN_STATUS.RESETTING (n : Nat) : Fld := ⟨CHN_STATUS n, 10, 1⟩
def CHN_STATUS.SPLIT (n : Nat) : Fld := ⟨CHN_STATUS n, 11, 6⟩

/-- CHN_PRESENT. -/
def CHN_PRESENT (n : Nat) : Nat := 0x2008 + 0x400 * (n - 1)
def CHN_PRESENT.PRESENT (n : Nat) : Fld := ⟨CHN_PRESENT n, 0, 32⟩

/-- CHN_ADMITTED. -/
def CHN_ADMITTED (n : Nat) : Nat := 0x200C + 0x400 * (n - 1)
def CHN_ADMITTED.ADMITTED (n : Nat) : Fld := ⟨CHN_ADMITTED n, 0, 32⟩

/-- CHN_STALE. -/
def CHN_STALE (n : Nat) : Nat := 0x2010 + 0x400 * (n - 1)
def CHN_STALE.STALE (n : Nat) : Fld := ⟨CHN_STALE n, 0, 32⟩

/-- CHN_TIMING. -/
def CHN_TIMING (n : Nat) : Nat := 0x2014 + 0x400 * (n - 1)
def CHN_TIMING.SILENT_LIMIT (n : Nat) : Fld := ⟨CHN_TIMING n, 0, 4⟩
def CHN_TIMING.RSP_TIMEOUT (n : Nat) : Fld := ⟨CHN_TIMING n, 4, 4⟩
def CHN_TIMING.RETRY (n : Nat) : Fld := ⟨CHN_TIMING n, 8, 2⟩
def CHN_TIMING.SAMPLE_OFS (n : Nat) : Fld := ⟨CHN_TIMING n, 10, 8⟩

/-- CHN_V_HI. -/
def CHN_V_HI (n : Nat) : Nat := 0x2018 + 0x400 * (n - 1)
def CHN_V_HI.V_HI (n : Nat) : Fld := ⟨CHN_V_HI n, 0, 18⟩

/-- CHN_V_LO. -/
def CHN_V_LO (n : Nat) : Nat := 0x201C + 0x400 * (n - 1)
def CHN_V_LO.V_LO (n : Nat) : Fld := ⟨CHN_V_LO n, 0, 18⟩

/-- CHN_LOOP. -/
def CHN_LOOP (n : Nat) : Nat := 0x2020 + 0x400 * (n - 1)
def CHN_LOOP.HEAD_CODE (n : Nat) : Fld := ⟨CHN_LOOP n, 0, 3⟩
def CHN_LOOP.TAIL_CODE (n : Nat) : Fld := ⟨CHN_LOOP n, 3, 3⟩
def CHN_LOOP.VERDICT (n : Nat) : Fld := ⟨CHN_LOOP n, 6, 2⟩

/-- CHN_STICKY. -/
def CHN_STICKY (n : Nat) : Nat := 0x2024 + 0x400 * (n - 1)
def CHN_STICKY.VSAT (n : Nat) : Fld := ⟨CHN_STICKY n, 0, 1⟩
def CHN_STICKY.TSAT (n : Nat) : Fld := ⟨CHN_STICKY n, 1, 1⟩
def CHN_STICKY.TONE_SAT (n : Nat) : Fld := ⟨CHN_STICKY n, 2, 1⟩
def CHN_STICKY.CRC_ERR (n : Nat) : Fld := ⟨CHN_STICKY n, 3, 1⟩
def CHN_STICKY.FRAME_MISMATCH (n : Nat) : Fld := ⟨CHN_STICKY n, 4, 1⟩
def CHN_STICKY.BAL_LEAK (n : Nat) : Fld := ⟨CHN_STICKY n, 5, 1⟩
def CHN_STICKY.UNKNOWN_TYPE (n : Nat) : Fld := ⟨CHN_STICKY n, 6, 1⟩
def CHN_STICKY.REJECT (n : Nat) : Fld := ⟨CHN_STICKY n, 7, 1⟩

/-- CHN_ERR_CNT. -/
def CHN_ERR_CNT (n : Nat) : Nat := 0x2028 + 0x400 * (n - 1)
def CHN_ERR_CNT.CRC (n : Nat) : Fld := ⟨CHN_ERR_CNT n, 0, 16⟩
def CHN_ERR_CNT.CODE_VIOL (n : Nat) : Fld := ⟨CHN_ERR_CNT n, 16, 16⟩

/-- CHN_CNT_CLR. -/
def CHN_CNT_CLR (n : Nat) : Nat := 0x202C + 0x400 * (n - 1)
def CHN_CNT_CLR.ERR (n : Nat) : Fld := ⟨CHN_CNT_CLR n, 0, 1⟩

/-- CHN_SAT_STATE. -/
def CHN_SAT_STATE (n : Nat) (p : Nat) : Nat := 0x2100 + 0x400 * (n - 1) + 0x4 * (p - 1)
def CHN_SAT_STATE.STATE (n : Nat) (p : Nat) : Fld := ⟨CHN_SAT_STATE n p, 0, 3⟩
def CHN_SAT_STATE.STALE (n : Nat) (p : Nat) : Fld := ⟨CHN_SAT_STATE n p, 3, 1⟩
def CHN_SAT_STATE.LINK_A (n : Nat) (p : Nat) : Fld := ⟨CHN_SAT_STATE n p, 4, 1⟩
def CHN_SAT_STATE.LINK_B (n : Nat) (p : Nat) : Fld := ⟨CHN_SAT_STATE n p, 5, 1⟩
def CHN_SAT_STATE.ID_CHECK (n : Nat) (p : Nat) : Fld := ⟨CHN_SAT_STATE n p, 8, 8⟩
def CHN_SAT_STATE.CLASS (n : Nat) (p : Nat) : Fld := ⟨CHN_SAT_STATE n p, 16, 16⟩

/-- TIL_CTRL. -/
def TIL_CTRL : Nat := 0x3000
def TIL_CTRL.TRAP_LIMIT : Fld := ⟨TIL_CTRL, 0, 2⟩
def TIL_CTRL.CE_LIMIT : Fld := ⟨TIL_CTRL, 2, 8⟩
def TIL_CTRL.SCRUB_EN : Fld := ⟨TIL_CTRL, 10, 1⟩

/-- TIL_STATUS. -/
def TIL_STATUS : Nat := 0x3004
def TIL_STATUS.ACTIVE_BANK : Fld := ⟨TIL_STATUS, 0, 1⟩
def TIL_STATUS.STANDBY_VALID : Fld := ⟨TIL_STATUS, 1, 1⟩
def TIL_STATUS.SPARES_FREE : Fld := ⟨TIL_STATUS, 2, 5⟩
def TIL_STATUS.THROTTLE : Fld := ⟨TIL_STATUS, 7, 2⟩

/-- TIL_FRESH. -/
def TIL_FRESH : Nat := 0x3008
def TIL_FRESH.FRESH : Fld := ⟨TIL_FRESH, 0, 4⟩
def TIL_FRESH.CUT : Fld := ⟨TIL_FRESH, 4, 4⟩
def TIL_FRESH.TRAPPED : Fld := ⟨TIL_FRESH, 8, 4⟩

/-- TIL_STICKY. -/
def TIL_STICKY : Nat := 0x300C
def TIL_STICKY.TRAP : Fld := ⟨TIL_STICKY, 0, 1⟩
def TIL_STICKY.UE : Fld := ⟨TIL_STICKY, 1, 1⟩
def TIL_STICKY.CE_LIMIT : Fld := ⟨TIL_STICKY, 2, 1⟩
def TIL_STICKY.RETIRED : Fld := ⟨TIL_STICKY, 3, 1⟩
def TIL_STICKY.KERNEL_FAULT : Fld := ⟨TIL_STICKY, 4, 1⟩
def TIL_STICKY.NO_TILE : Fld := ⟨TIL_STICKY, 5, 1⟩
def TIL_STICKY.REJECT : Fld := ⟨TIL_STICKY, 6, 1⟩
def TIL_STICKY.CUT : Fld := ⟨TIL_STICKY, 7, 1⟩

/-- TIL_TRAP. -/
def TIL_TRAP : Nat := 0x3010
def TIL_TRAP.TILE : Fld := ⟨TIL_TRAP, 0, 8⟩
def TIL_TRAP.CODE : Fld := ⟨TIL_TRAP, 8, 4⟩
def TIL_TRAP.PC : Fld := ⟨TIL_TRAP, 12, 11⟩
def TIL_TRAP.LANE : Fld := ⟨TIL_TRAP, 23, 3⟩

/-- TIL_TRAP_FRAME. -/
def TIL_TRAP_FRAME : Nat := 0x3014
def TIL_TRAP_FRAME.FRAME : Fld := ⟨TIL_TRAP_FRAME, 0, 32⟩

/-- TIL_TRAP_CNT. -/
def TIL_TRAP_CNT : Nat := 0x3018
def TIL_TRAP_CNT.SW : Fld := ⟨TIL_TRAP_CNT, 0, 16⟩
def TIL_TRAP_CNT.HW : Fld := ⟨TIL_TRAP_CNT, 16, 16⟩

/-- TIL_ECC_CNT. -/
def TIL_ECC_CNT : Nat := 0x301C
def TIL_ECC_CNT.CE : Fld := ⟨TIL_ECC_CNT, 0, 16⟩
def TIL_ECC_CNT.UE : Fld := ⟨TIL_ECC_CNT, 16, 16⟩

/-- TIL_KERNEL_ACTIVE. -/
def TIL_KERNEL_ACTIVE : Nat := 0x3020
def TIL_KERNEL_ACTIVE.ID : Fld := ⟨TIL_KERNEL_ACTIVE, 0, 32⟩

/-- TIL_KERNEL_STANDBY. -/
def TIL_KERNEL_STANDBY : Nat := 0x3024
def TIL_KERNEL_STANDBY.ID : Fld := ⟨TIL_KERNEL_STANDBY, 0, 32⟩

/-- TIL_CNT_CLR. -/
def TIL_CNT_CLR : Nat := 0x3028
def TIL_CNT_CLR.TRAP : Fld := ⟨TIL_CNT_CLR, 0, 1⟩
def TIL_CNT_CLR.ECC : Fld := ⟨TIL_CNT_CLR, 1, 1⟩

/-- TIL_BATCH. -/
def TIL_BATCH (b : Nat) : Nat := 0x3040 + 0x4 * b
def TIL_BATCH.ENTRY (b : Nat) : Fld := ⟨TIL_BATCH b, 0, 11⟩
def TIL_BATCH.CLASS (b : Nat) : Fld := ⟨TIL_BATCH b, 11, 2⟩
def TIL_BATCH.USED (b : Nat) : Fld := ⟨TIL_BATCH b, 16, 16⟩

/-- TIL_MAP. -/
def TIL_MAP (t : Nat) : Nat := 0x3100 + 0x4 * t
def TIL_MAP.PHYS (t : Nat) : Fld := ⟨TIL_MAP t, 0, 9⟩
def TIL_MAP.STATE (t : Nat) : Fld := ⟨TIL_MAP t, 9, 2⟩

/-- TIL_RETIRED. -/
def TIL_RETIRED (w : Nat) : Nat := 0x3500 + 0x4 * w
def TIL_RETIRED.RETIRED (w : Nat) : Fld := ⟨TIL_RETIRED w, 0, 32⟩

/-- TIL_SAT_STICKY. -/
def TIL_SAT_STICKY : Nat := 0x3F00
def TIL_SAT_STICKY.S1 : Fld := ⟨TIL_SAT_STICKY, 0, 4⟩
def TIL_SAT_STICKY.S2 : Fld := ⟨TIL_SAT_STICKY, 4, 4⟩
def TIL_SAT_STICKY.S3 : Fld := ⟨TIL_SAT_STICKY, 8, 4⟩
def TIL_SAT_STICKY.S4 : Fld := ⟨TIL_SAT_STICKY, 12, 4⟩
def TIL_SAT_STICKY.UNASSIGNED : Fld := ⟨TIL_SAT_STICKY, 16, 4⟩

/-- TIL_SAT_FRAMES_12. -/
def TIL_SAT_FRAMES_12 : Nat := 0x3F04
def TIL_SAT_FRAMES_12.S1 : Fld := ⟨TIL_SAT_FRAMES_12, 0, 16⟩
def TIL_SAT_FRAMES_12.S2 : Fld := ⟨TIL_SAT_FRAMES_12, 16, 16⟩

/-- TIL_SAT_FRAMES_34. -/
def TIL_SAT_FRAMES_34 : Nat := 0x3F08
def TIL_SAT_FRAMES_34.S3 : Fld := ⟨TIL_SAT_FRAMES_34, 0, 16⟩
def TIL_SAT_FRAMES_34.S4 : Fld := ⟨TIL_SAT_FRAMES_34, 16, 16⟩

/-- TIL_SAT_LAST. -/
def TIL_SAT_LAST : Nat := 0x3F0C
def TIL_SAT_LAST.LAST : Fld := ⟨TIL_SAT_LAST, 0, 32⟩

/-- TIL_SAT_CLR. -/
def TIL_SAT_CLR : Nat := 0x3F10
def TIL_SAT_CLR.FRAMES : Fld := ⟨TIL_SAT_CLR, 0, 1⟩

/-- EST_CTRL. -/
def EST_CTRL : Nat := 0x4000
def EST_CTRL.PAGE_EN : Fld := ⟨EST_CTRL, 0, 1⟩
def EST_CTRL.BAL_EN : Fld := ⟨EST_CTRL, 1, 1⟩
def EST_CTRL.LEARN_Q_EN : Fld := ⟨EST_CTRL, 2, 1⟩
def EST_CTRL.LEARN_R_EN : Fld := ⟨EST_CTRL, 3, 1⟩
def EST_CTRL.LA_EN : Fld := ⟨EST_CTRL, 4, 1⟩
def EST_CTRL.SIG_EN : Fld := ⟨EST_CTRL, 5, 1⟩

/-- EST_STATUS. -/
def EST_STATUS : Nat := 0x4004
def EST_STATUS.MODEL_STATE (s : Nat) : Fld := ⟨EST_STATUS, 0 + 2 * (s - 1), 2⟩
def EST_STATUS.LA_VALID (s : Nat) : Fld := ⟨EST_STATUS, 8 + 1 * (s - 1), 1⟩
def EST_STATUS.COMMIT_BUSY (s : Nat) : Fld := ⟨EST_STATUS, 12 + 1 * (s - 1), 1⟩
def EST_STATUS.PAGE_SUSPENDED : Fld := ⟨EST_STATUS, 16, 1⟩

/-- EST_STICKY. -/
def EST_STICKY : Nat := 0x4008
def EST_STICKY.TABLE_BAD : Fld := ⟨EST_STICKY, 0, 1⟩
def EST_STICKY.CLASS_MISMATCH : Fld := ⟨EST_STICKY, 1, 1⟩
def EST_STICKY.STALE_OPEN : Fld := ⟨EST_STICKY, 2, 1⟩
def EST_STICKY.SWAP : Fld := ⟨EST_STICKY, 3, 1⟩
def EST_STICKY.COPY_INVALID : Fld := ⟨EST_STICKY, 4, 1⟩
def EST_STICKY.COMMIT_FAIL : Fld := ⟨EST_STICKY, 5, 1⟩
def EST_STICKY.LA_FALLBACK : Fld := ⟨EST_STICKY, 6, 1⟩
def EST_STICKY.PAGE_SKIPPED : Fld := ⟨EST_STICKY, 7, 1⟩
def EST_STICKY.REJECT : Fld := ⟨EST_STICKY, 8, 1⟩

/-- EST_CNT_CLR. -/
def EST_CNT_CLR : Nat := 0x400C
def EST_CNT_CLR.LEARN : Fld := ⟨EST_CNT_CLR, 0, 1⟩

/-- EST_PAGE_A_LO. -/
def EST_PAGE_A_LO : Nat := 0x4010
def EST_PAGE_A_LO.ALIGN : Fld := ⟨EST_PAGE_A_LO, 0, 6⟩
def EST_PAGE_A_LO.ADDR_LO : Fld := ⟨EST_PAGE_A_LO, 6, 26⟩

/-- EST_PAGE_A_HI. -/
def EST_PAGE_A_HI : Nat := 0x4014
def EST_PAGE_A_HI.ADDR_HI : Fld := ⟨EST_PAGE_A_HI, 0, 32⟩

/-- EST_PAGE_B_LO. -/
def EST_PAGE_B_LO : Nat := 0x4018
def EST_PAGE_B_LO.ALIGN : Fld := ⟨EST_PAGE_B_LO, 0, 6⟩
def EST_PAGE_B_LO.ADDR_LO : Fld := ⟨EST_PAGE_B_LO, 6, 26⟩

/-- EST_PAGE_B_HI. -/
def EST_PAGE_B_HI : Nat := 0x401C
def EST_PAGE_B_HI.ADDR_HI : Fld := ⟨EST_PAGE_B_HI, 0, 32⟩

/-- EST_PAGE_SEQ. -/
def EST_PAGE_SEQ : Nat := 0x4020
def EST_PAGE_SEQ.SEQ : Fld := ⟨EST_PAGE_SEQ, 0, 32⟩

/-- EST_MODEL_CFG. -/
def EST_MODEL_CFG : Nat := 0x4024
def EST_MODEL_CFG.STALE_OPEN : Fld := ⟨EST_MODEL_CFG, 0, 4⟩
def EST_MODEL_CFG.INIT_RUN : Fld := ⟨EST_MODEL_CFG, 4, 8⟩
def EST_MODEL_CFG.INIT_RESID : Fld := ⟨EST_MODEL_CFG, 12, 8⟩

/-- EST_LA_CFG. -/
def EST_LA_CFG : Nat := 0x4028
def EST_LA_CFG.HORIZON : Fld := ⟨EST_LA_CFG, 0, 10⟩
def EST_LA_CFG.FALLBACK : Fld := ⟨EST_LA_CFG, 10, 8⟩
def EST_LA_CFG.VALID_FR : Fld := ⟨EST_LA_CFG, 18, 10⟩

/-- EST_LEARN_CFG0. -/
def EST_LEARN_CFG0 : Nat := 0x402C
def EST_LEARN_CFG0.T_LO : Fld := ⟨EST_LEARN_CFG0, 0, 8⟩
def EST_LEARN_CFG0.T_HI : Fld := ⟨EST_LEARN_CFG0, 8, 8⟩
def EST_LEARN_CFG0.T_SPREAD : Fld := ⟨EST_LEARN_CFG0, 16, 8⟩

/-- EST_LEARN_CFG1. -/
def EST_LEARN_CFG1 : Nat := 0x4030
def EST_LEARN_CFG1.C_MAX : Fld := ⟨EST_LEARN_CFG1, 0, 8⟩
def EST_LEARN_CFG1.REST_I : Fld := ⟨EST_LEARN_CFG1, 8, 8⟩
def EST_LEARN_CFG1.REST_T : Fld := ⟨EST_LEARN_CFG1, 16, 8⟩
def EST_LEARN_CFG1.MAX_DUR : Fld := ⟨EST_LEARN_CFG1, 24, 8⟩

/-- EST_LEARN_CFG2. -/
def EST_LEARN_CFG2 : Nat := 0x4034
def EST_LEARN_CFG2.K_Q : Fld := ⟨EST_LEARN_CFG2, 0, 8⟩
def EST_LEARN_CFG2.K_R : Fld := ⟨EST_LEARN_CFG2, 8, 8⟩
def EST_LEARN_CFG2.DSOC_MIN : Fld := ⟨EST_LEARN_CFG2, 16, 8⟩
def EST_LEARN_CFG2.STEP_I : Fld := ⟨EST_LEARN_CFG2, 24, 8⟩

/-- EST_SWAP_CFG. -/
def EST_SWAP_CFG : Nat := 0x4038
def EST_SWAP_CFG.SIG_STEP : Fld := ⟨EST_SWAP_CFG, 0, 8⟩
def EST_SWAP_CFG.SIG_MIN : Fld := ⟨EST_SWAP_CFG, 8, 4⟩

/-- EST_BAL_CFG. -/
def EST_BAL_CFG : Nat := 0x403C
def EST_BAL_CFG.DEADBAND : Fld := ⟨EST_BAL_CFG, 0, 8⟩
def EST_BAL_CFG.I_BAL : Fld := ⟨EST_BAL_CFG, 8, 12⟩

/-- EST_COMMIT_STAT. -/
def EST_COMMIT_STAT : Nat := 0x4040
def EST_COMMIT_STAT.SEQ_LOW (s : Nat) : Fld := ⟨EST_COMMIT_STAT, 0 + 8 * (s - 1), 8⟩

/-- EST_LEARN_CNT. -/
def EST_LEARN_CNT (n : Nat) : Nat := 0x4050 + 0x4 * (n - 1)
def EST_LEARN_CNT.QUALIFIED (n : Nat) : Fld := ⟨EST_LEARN_CNT n, 0, 16⟩
def EST_LEARN_CNT.DISQUALIFIED (n : Nat) : Fld := ⟨EST_LEARN_CNT n, 16, 16⟩

/-- IMP_CTRL. -/
def IMP_CTRL : Nat := 0x5000
def IMP_CTRL.INJ_EN : Fld := ⟨IMP_CTRL, 0, 4⟩
def IMP_CTRL.PAGE_EN : Fld := ⟨IMP_CTRL, 4, 1⟩

/-- IMP_STATUS. -/
def IMP_STATUS : Nat := 0x5004
def IMP_STATUS.INJ_STATE (s : Nat) : Fld := ⟨IMP_STATUS, 0 + 2 * (s - 1), 2⟩
def IMP_STATUS.PLAN_PENDING (s : Nat) : Fld := ⟨IMP_STATUS, 8 + 1 * (s - 1), 1⟩
def IMP_STATUS.UNCONFIRMED (s : Nat) : Fld := ⟨IMP_STATUS, 12 + 1 * (s - 1), 1⟩
def IMP_STATUS.PAGE_SUSPENDED : Fld := ⟨IMP_STATUS, 16, 1⟩

/-- IMP_STICKY. -/
def IMP_STICKY : Nat := 0x5008
def IMP_STICKY.LOW_REF : Fld := ⟨IMP_STICKY, 0, 1⟩
def IMP_STICKY.UNCONFIRMED : Fld := ⟨IMP_STICKY, 1, 1⟩
def IMP_STICKY.SUSPENDED : Fld := ⟨IMP_STICKY, 2, 1⟩
def IMP_STICKY.ANOMALY : Fld := ⟨IMP_STICKY, 3, 1⟩
def IMP_STICKY.AMP_CLIPPED : Fld := ⟨IMP_STICKY, 4, 1⟩
def IMP_STICKY.PAGE_SKIPPED : Fld := ⟨IMP_STICKY, 5, 1⟩
def IMP_STICKY.HIST_INVALID : Fld := ⟨IMP_STICKY, 6, 1⟩
def IMP_STICKY.REJECT : Fld := ⟨IMP_STICKY, 7, 1⟩

/-- IMP_CNT_CLR. -/
def IMP_CNT_CLR : Nat := 0x500C
def IMP_CNT_CLR.GATE : Fld := ⟨IMP_CNT_CLR, 0, 1⟩

/-- IMP_PLAN_ID. -/
def IMP_PLAN_ID (n : Nat) : Nat := 0x5010 + 0x4 * (n - 1)
def IMP_PLAN_ID.PLAN_ID (n : Nat) : Fld := ⟨IMP_PLAN_ID n, 0, 32⟩

/-- IMP_SUSP_CAUSE. -/
def IMP_SUSP_CAUSE : Nat := 0x5020
def IMP_SUSP_CAUSE.CAUSE (s : Nat) : Fld := ⟨IMP_SUSP_CAUSE, 0 + 8 * (s - 1), 7⟩

/-- IMP_TRK_CFG. -/
def IMP_TRK_CFG : Nat := 0x5024
def IMP_TRK_CFG.TRK_SHIFT : Fld := ⟨IMP_TRK_CFG, 0, 4⟩
def IMP_TRK_CFG.HIST_SHIFT : Fld := ⟨IMP_TRK_CFG, 4, 4⟩
def IMP_TRK_CFG.STEP_GATE : Fld := ⟨IMP_TRK_CFG, 8, 8⟩
def IMP_TRK_CFG.STEP_HOLD : Fld := ⟨IMP_TRK_CFG, 16, 4⟩

/-- IMP_SCORE_CFG. -/
def IMP_SCORE_CFG : Nat := 0x5028
def IMP_SCORE_CFG.THRESH : Fld := ⟨IMP_SCORE_CFG, 0, 8⟩
def IMP_SCORE_CFG.CONFIRM : Fld := ⟨IMP_SCORE_CFG, 8, 4⟩
def IMP_SCORE_CFG.D_FLOOR : Fld := ⟨IMP_SCORE_CFG, 12, 12⟩

/-- IMP_PAGE_A_LO. -/
def IMP_PAGE_A_LO : Nat := 0x5030
def IMP_PAGE_A_LO.ALIGN : Fld := ⟨IMP_PAGE_A_LO, 0, 6⟩
def IMP_PAGE_A_LO.ADDR_LO : Fld := ⟨IMP_PAGE_A_LO, 6, 26⟩

/-- IMP_PAGE_A_HI. -/
def IMP_PAGE_A_HI : Nat := 0x5034
def IMP_PAGE_A_HI.ADDR_HI : Fld := ⟨IMP_PAGE_A_HI, 0, 32⟩

/-- IMP_PAGE_B_LO. -/
def IMP_PAGE_B_LO : Nat := 0x5038
def IMP_PAGE_B_LO.ALIGN : Fld := ⟨IMP_PAGE_B_LO, 0, 6⟩
def IMP_PAGE_B_LO.ADDR_LO : Fld := ⟨IMP_PAGE_B_LO, 6, 26⟩

/-- IMP_PAGE_B_HI. -/
def IMP_PAGE_B_HI : Nat := 0x503C
def IMP_PAGE_B_HI.ADDR_HI : Fld := ⟨IMP_PAGE_B_HI, 0, 32⟩

/-- IMP_PAGE_SEQ. -/
def IMP_PAGE_SEQ : Nat := 0x5040
def IMP_PAGE_SEQ.SEQ : Fld := ⟨IMP_PAGE_SEQ, 0, 32⟩

/-- IMP_ANOM_12. -/
def IMP_ANOM_12 : Nat := 0x5044
def IMP_ANOM_12.S1 : Fld := ⟨IMP_ANOM_12, 0, 16⟩
def IMP_ANOM_12.S2 : Fld := ⟨IMP_ANOM_12, 16, 16⟩

/-- IMP_ANOM_34. -/
def IMP_ANOM_34 : Nat := 0x5048
def IMP_ANOM_34.S3 : Fld := ⟨IMP_ANOM_34, 0, 16⟩
def IMP_ANOM_34.S4 : Fld := ⟨IMP_ANOM_34, 16, 16⟩

/-- IMP_GATE_CNT12. -/
def IMP_GATE_CNT12 : Nat := 0x504C
def IMP_GATE_CNT12.S1 : Fld := ⟨IMP_GATE_CNT12, 0, 16⟩
def IMP_GATE_CNT12.S2 : Fld := ⟨IMP_GATE_CNT12, 16, 16⟩

/-- IMP_GATE_CNT34. -/
def IMP_GATE_CNT34 : Nat := 0x5050
def IMP_GATE_CNT34.S3 : Fld := ⟨IMP_GATE_CNT34, 0, 16⟩
def IMP_GATE_CNT34.S4 : Fld := ⟨IMP_GATE_CNT34, 16, 16⟩

/-- IMP_TONE_FREQ. -/
def IMP_TONE_FREQ (s : Nat) (k : Nat) : Nat := 0x5100 + 0x40 * (s - 1) + 0x8 * k
def IMP_TONE_FREQ.FREQ (s : Nat) (k : Nat) : Fld := ⟨IMP_TONE_FREQ s k, 0, 32⟩

/-- IMP_TONE_AMP. -/
def IMP_TONE_AMP (s : Nat) (k : Nat) : Nat := 0x5104 + 0x40 * (s - 1) + 0x8 * k
def IMP_TONE_AMP.AMP (s : Nat) (k : Nat) : Fld := ⟨IMP_TONE_AMP s k, 0, 12⟩
def IMP_TONE_AMP.SHIFT (s : Nat) (k : Nat) : Fld := ⟨IMP_TONE_AMP s k, 12, 5⟩
def IMP_TONE_AMP.EN (s : Nat) (k : Nat) : Fld := ⟨IMP_TONE_AMP s k, 17, 1⟩

/-- CNV_CTRL. -/
def CNV_CTRL : Nat := 0x6000
def CNV_CTRL.MANUAL (s : Nat) : Fld := ⟨CNV_CTRL, 0 + 1 * (s - 1), 1⟩

/-- CNV_STATUS. -/
def CNV_STATUS : Nat := 0x6004
def CNV_STATUS.STATE (s : Nat) : Fld := ⟨CNV_STATUS, 0 + 8 * (s - 1), 3⟩
def CNV_STATUS.MODE (s : Nat) : Fld := ⟨CNV_STATUS, 3 + 8 * (s - 1), 2⟩
def CNV_STATUS.SUBMODE (s : Nat) : Fld := ⟨CNV_STATUS, 5 + 8 * (s - 1), 2⟩

/-- CNV_TRIP_CAUSE. -/
def CNV_TRIP_CAUSE : Nat := 0x6008
def CNV_TRIP_CAUSE.CAUSE (s : Nat) : Fld := ⟨CNV_TRIP_CAUSE, 0 + 4 * (s - 1), 4⟩

/-- CNV_SD_CFG. -/
def CNV_SD_CFG : Nat := 0x600C
def CNV_SD_CFG.CLK_EN (s : Nat) : Fld := ⟨CNV_SD_CFG, 0 + 1 * (s - 1), 1⟩

/-- CNV_CNT_CLR. -/
def CNV_CNT_CLR : Nat := 0x6010
def CNV_CNT_CLR.REG : Fld := ⟨CNV_CNT_CLR, 0, 1⟩

/-- CNV_PHASE_CFG. -/
def CNV_PHASE_CFG (s : Nat) : Nat := 0x6100 + 0x100 * (s - 1)
def CNV_PHASE_CFG.PHASES (s : Nat) : Fld := ⟨CNV_PHASE_CFG s, 0, 3⟩
def CNV_PHASE_CFG.DEAD (s : Nat) : Fld := ⟨CNV_PHASE_CFG s, 3, 8⟩
def CNV_PHASE_CFG.MIN_PULSE (s : Nat) : Fld := ⟨CNV_PHASE_CFG s, 11, 8⟩

/-- CNV_RATING. -/
def CNV_RATING (s : Nat) : Nat := 0x6104 + 0x100 * (s - 1)
def CNV_RATING.RATING (s : Nat) : Fld := ⟨CNV_RATING s, 0, 11⟩
def CNV_RATING.PH_OC (s : Nat) : Fld := ⟨CNV_RATING s, 11, 11⟩
def CNV_RATING.VMARGIN (s : Nat) : Fld := ⟨CNV_RATING s, 22, 8⟩

/-- CNV_BAND_CFG. -/
def CNV_BAND_CFG (s : Nat) : Nat := 0x6108 + 0x100 * (s - 1)
def CNV_BAND_CFG.F_MIN (s : Nat) : Fld := ⟨CNV_BAND_CFG s, 0, 8⟩
def CNV_BAND_CFG.F_MAX (s : Nat) : Fld := ⟨CNV_BAND_CFG s, 8, 8⟩
def CNV_BAND_CFG.BAND_INIT (s : Nat) : Fld := ⟨CNV_BAND_CFG s, 16, 8⟩
def CNV_BAND_CFG.H_MAX (s : Nat) : Fld := ⟨CNV_BAND_CFG s, 24, 8⟩

/-- CNV_CUR_CFG. -/
def CNV_CUR_CFG (s : Nat) : Nat := 0x610C + 0x100 * (s - 1)
def CNV_CUR_CFG.TRIM_SHIFT (s : Nat) : Fld := ⟨CNV_CUR_CFG s, 0, 4⟩
def CNV_CUR_CFG.TRIM_MAX (s : Nat) : Fld := ⟨CNV_CUR_CFG s, 4, 8⟩
def CNV_CUR_CFG.DE_ENTER (s : Nat) : Fld := ⟨CNV_CUR_CFG s, 12, 8⟩
def CNV_CUR_CFG.ZCD_THR (s : Nat) : Fld := ⟨CNV_CUR_CFG s, 20, 4⟩

/-- CNV_VCMD. -/
def CNV_VCMD (s : Nat) : Nat := 0x6110 + 0x100 * (s - 1)
def CNV_VCMD.TARGET (s : Nat) : Fld := ⟨CNV_VCMD s, 0, 18⟩

/-- CNV_VLOOP_CFG. -/
def CNV_VLOOP_CFG (s : Nat) : Nat := 0x6114 + 0x100 * (s - 1)
def CNV_VLOOP_CFG.KP (s : Nat) : Fld := ⟨CNV_VLOOP_CFG s, 0, 18⟩
def CNV_VLOOP_CFG.BUMP_WIN (s : Nat) : Fld := ⟨CNV_VLOOP_CFG s, 18, 8⟩

/-- CNV_VLOOP_KI. -/
def CNV_VLOOP_KI (s : Nat) : Nat := 0x6118 + 0x100 * (s - 1)
def CNV_VLOOP_KI.KI (s : Nat) : Fld := ⟨CNV_VLOOP_KI s, 0, 18⟩
def CNV_VLOOP_KI.SLEW (s : Nat) : Fld := ⟨CNV_VLOOP_KI s, 18, 14⟩

/-- CNV_COT_CFG. -/
def CNV_COT_CFG (s : Nat) : Nat := 0x611C + 0x100 * (s - 1)
def CNV_COT_CFG.F_SW (s : Nat) : Fld := ⟨CNV_COT_CFG s, 0, 8⟩
def CNV_COT_CFG.L_SYN (s : Nat) : Fld := ⟨CNV_COT_CFG s, 8, 16⟩

/-- CNV_RAMP. -/
def CNV_RAMP (s : Nat) : Nat := 0x6120 + 0x100 * (s - 1)
def CNV_RAMP.START_RAMP (s : Nat) : Fld := ⟨CNV_RAMP s, 0, 16⟩
def CNV_RAMP.STOP_RAMP (s : Nat) : Fld := ⟨CNV_RAMP s, 16, 16⟩

/-- CNV_DELAY. -/
def CNV_DELAY (s : Nat) : Nat := 0x6124 + 0x100 * (s - 1)
def CNV_DELAY.START_DELAY (s : Nat) : Fld := ⟨CNV_DELAY s, 0, 16⟩
def CNV_DELAY.STOP_DELAY (s : Nat) : Fld := ⟨CNV_DELAY s, 16, 16⟩

/-- CNV_BURST_CFG. -/
def CNV_BURST_CFG (s : Nat) : Nat := 0x6128 + 0x100 * (s - 1)
def CNV_BURST_CFG.BURST_ENTER (s : Nat) : Fld := ⟨CNV_BURST_CFG s, 0, 8⟩
def CNV_BURST_CFG.BURST_BAND (s : Nat) : Fld := ⟨CNV_BURST_CFG s, 8, 8⟩

/-- CNV_OSC_CFG. -/
def CNV_OSC_CFG (s : Nat) : Nat := 0x612C + 0x100 * (s - 1)
def CNV_OSC_CFG.OSC_AMP_I (s : Nat) : Fld := ⟨CNV_OSC_CFG s, 0, 8⟩
def CNV_OSC_CFG.OSC_AMP_V (s : Nat) : Fld := ⟨CNV_OSC_CFG s, 8, 8⟩
def CNV_OSC_CFG.OSC_WIN (s : Nat) : Fld := ⟨CNV_OSC_CFG s, 16, 4⟩
def CNV_OSC_CFG.OSC_CNT (s : Nat) : Fld := ⟨CNV_OSC_CFG s, 20, 8⟩
def CNV_OSC_CFG.OSC_ACT (s : Nat) : Fld := ⟨CNV_OSC_CFG s, 28, 2⟩

/-- CNV_STICKY. -/
def CNV_STICKY (s : Nat) : Nat := 0x6130 + 0x100 * (s - 1)
def CNV_STICKY.SENSE_SAT (s : Nat) : Fld := ⟨CNV_STICKY s, 0, 1⟩
def CNV_STICKY.SENSE_LOST (s : Nat) : Fld := ⟨CNV_STICKY s, 1, 1⟩
def CNV_STICKY.TRIM_SAT (s : Nat) : Fld := ⟨CNV_STICKY s, 2, 1⟩
def CNV_STICKY.BAND_SAT (s : Nat) : Fld := ⟨CNV_STICKY s, 3, 1⟩
def CNV_STICKY.PI_SAT (s : Nat) : Fld := ⟨CNV_STICKY s, 4, 1⟩
def CNV_STICKY.TON_SAT (s : Nat) : Fld := ⟨CNV_STICKY s, 5, 1⟩
def CNV_STICKY.REF_CLAMP (s : Nat) : Fld := ⟨CNV_STICKY s, 6, 1⟩
def CNV_STICKY.PH_OC (s : Nat) : Fld := ⟨CNV_STICKY s, 7, 1⟩
def CNV_STICKY.OSC (s : Nat) : Fld := ⟨CNV_STICKY s, 8, 1⟩
def CNV_STICKY.BUMP (s : Nat) : Fld := ⟨CNV_STICKY s, 9, 1⟩
def CNV_STICKY.FF_MISMATCH (s : Nat) : Fld := ⟨CNV_STICKY s, 10, 1⟩
def CNV_STICKY.REG_ERR (s : Nat) : Fld := ⟨CNV_STICKY s, 11, 1⟩
def CNV_STICKY.REJECT (s : Nat) : Fld := ⟨CNV_STICKY s, 12, 1⟩

/-- CNV_SETPOINT. -/
def CNV_SETPOINT (s : Nat) : Nat := 0x6134 + 0x100 * (s - 1)
def CNV_SETPOINT.ACCEPTED (s : Nat) : Fld := ⟨CNV_SETPOINT s, 0, 18⟩

/-- CNV_INT. -/
def CNV_INT (s : Nat) : Nat := 0x6138 + 0x100 * (s - 1)
def CNV_INT.I_INT (s : Nat) : Fld := ⟨CNV_INT s, 0, 18⟩

/-- CNV_MEAS_I. -/
def CNV_MEAS_I (s : Nat) : Nat := 0x613C + 0x100 * (s - 1)
def CNV_MEAS_I.MEAS (s : Nat) : Fld := ⟨CNV_MEAS_I s, 0, 18⟩

/-- CNV_MEAS_V. -/
def CNV_MEAS_V (s : Nat) : Nat := 0x6140 + 0x100 * (s - 1)
def CNV_MEAS_V.MEAS (s : Nat) : Fld := ⟨CNV_MEAS_V s, 0, 18⟩

/-- CNV_MEAS_VBUS. -/
def CNV_MEAS_VBUS (s : Nat) : Nat := 0x6144 + 0x100 * (s - 1)
def CNV_MEAS_VBUS.MEAS (s : Nat) : Fld := ⟨CNV_MEAS_VBUS s, 0, 18⟩

/-- CNV_BAND_STAT. -/
def CNV_BAND_STAT (s : Nat) : Nat := 0x6148 + 0x100 * (s - 1)
def CNV_BAND_STAT.H (s : Nat) : Fld := ⟨CNV_BAND_STAT s, 0, 8⟩
def CNV_BAND_STAT.FREQ (s : Nat) : Fld := ⟨CNV_BAND_STAT s, 8, 8⟩

/-- CNV_REG_CNT. -/
def CNV_REG_CNT (s : Nat) : Nat := 0x614C + 0x100 * (s - 1)
def CNV_REG_CNT.REG (s : Nat) : Fld := ⟨CNV_REG_CNT s, 0, 16⟩
def CNV_REG_CNT.PH_OC (s : Nat) : Fld := ⟨CNV_REG_CNT s, 16, 16⟩

/-- CNV_SENSE_GAIN. -/
def CNV_SENSE_GAIN (c : Nat) : Nat := 0x6500 + 0x8 * c
def CNV_SENSE_GAIN.GAIN (c : Nat) : Fld := ⟨CNV_SENSE_GAIN c, 0, 18⟩

/-- CNV_SENSE_OFS. -/
def CNV_SENSE_OFS (c : Nat) : Nat := 0x6504 + 0x8 * c
def CNV_SENSE_OFS.OFS (c : Nat) : Fld := ⟨CNV_SENSE_OFS c, 0, 18⟩

/-- DSP_CTRL. -/
def DSP_CTRL : Nat := 0x7000
def DSP_CTRL.EN : Fld := ⟨DSP_CTRL, 0, 1⟩
def DSP_CTRL.EQ_EN : Fld := ⟨DSP_CTRL, 1, 1⟩
def DSP_CTRL.OPP_EN : Fld := ⟨DSP_CTRL, 2, 1⟩
def DSP_CTRL.STRING_EN : Fld := ⟨DSP_CTRL, 3, 4⟩

/-- DSP_STATUS. -/
def DSP_STATUS : Nat := 0x7004
def DSP_STATUS.ELIGIBLE : Fld := ⟨DSP_STATUS, 0, 4⟩
def DSP_STATUS.ENTRIES : Fld := ⟨DSP_STATUS, 4, 9⟩
def DSP_STATUS.WAITING : Fld := ⟨DSP_STATUS, 13, 9⟩
def DSP_STATUS.SETBACK : Fld := ⟨DSP_STATUS, 22, 1⟩

/-- DSP_STICKY. -/
def DSP_STICKY : Nat := 0x7008
def DSP_STICKY.CLIPPED : Fld := ⟨DSP_STICKY, 0, 1⟩
def DSP_STICKY.REFUSED : Fld := ⟨DSP_STICKY, 1, 1⟩
def DSP_STICKY.RESERVE_SHORT : Fld := ⟨DSP_STICKY, 2, 1⟩
def DSP_STICKY.TABLE_FULL : Fld := ⟨DSP_STICKY, 3, 1⟩
def DSP_STICKY.SETBACK : Fld := ⟨DSP_STICKY, 4, 1⟩
def DSP_STICKY.GAP : Fld := ⟨DSP_STICKY, 5, 1⟩
def DSP_STICKY.COMMIT_FAIL : Fld := ⟨DSP_STICKY, 6, 1⟩
def DSP_STICKY.REJECT : Fld := ⟨DSP_STICKY, 7, 1⟩

/-- DSP_MODULE_MAX. -/
def DSP_MODULE_MAX : Nat := 0x700C
def DSP_MODULE_MAX.CHG : Fld := ⟨DSP_MODULE_MAX, 0, 16⟩
def DSP_MODULE_MAX.DIS : Fld := ⟨DSP_MODULE_MAX, 16, 16⟩

/-- DSP_RES_HOLD. -/
def DSP_RES_HOLD : Nat := 0x7010
def DSP_RES_HOLD.CHG : Fld := ⟨DSP_RES_HOLD, 0, 16⟩
def DSP_RES_HOLD.DIS : Fld := ⟨DSP_RES_HOLD, 16, 16⟩

/-- DSP_INTERVAL. -/
def DSP_INTERVAL : Nat := 0x7014
def DSP_INTERVAL.LEN : Fld := ⟨DSP_INTERVAL, 0, 12⟩
def DSP_INTERVAL.ALIGN : Fld := ⟨DSP_INTERVAL, 12, 16⟩

/-- DSP_OUTCOME_CNT. -/
def DSP_OUTCOME_CNT : Nat := 0x7018
def DSP_OUTCOME_CNT.DONE : Fld := ⟨DSP_OUTCOME_CNT, 0, 8⟩
def DSP_OUTCOME_CNT.CLIPPED : Fld := ⟨DSP_OUTCOME_CNT, 8, 8⟩
def DSP_OUTCOME_CNT.DEFERRED : Fld := ⟨DSP_OUTCOME_CNT, 16, 8⟩
def DSP_OUTCOME_CNT.REFUSED : Fld := ⟨DSP_OUTCOME_CNT, 24, 8⟩

/-- DSP_CNT_CLR. -/
def DSP_CNT_CLR : Nat := 0x701C
def DSP_CNT_CLR.OUTCOME : Fld := ⟨DSP_CNT_CLR, 0, 1⟩

/-- DSP_HWM_LO. -/
def DSP_HWM_LO : Nat := 0x7020
def DSP_HWM_LO.HWM : Fld := ⟨DSP_HWM_LO, 0, 32⟩

/-- DSP_HWM_HI. -/
def DSP_HWM_HI : Nat := 0x7024
def DSP_HWM_HI.HWM : Fld := ⟨DSP_HWM_HI, 0, 32⟩

/-- DSP_ACCT_PM_LO. -/
def DSP_ACCT_PM_LO : Nat := 0x7040
def DSP_ACCT_PM_LO.ACCT_PM : Fld := ⟨DSP_ACCT_PM_LO, 0, 32⟩

/-- DSP_ACCT_PM_HI. -/
def DSP_ACCT_PM_HI : Nat := 0x7044
def DSP_ACCT_PM_HI.ACCT_PM : Fld := ⟨DSP_ACCT_PM_HI, 0, 32⟩

/-- DSP_ACCT_OPEN_LO. -/
def DSP_ACCT_OPEN_LO : Nat := 0x7048
def DSP_ACCT_OPEN_LO.ACCT_OPEN : Fld := ⟨DSP_ACCT_OPEN_LO, 0, 32⟩

/-- DSP_ACCT_OPEN_HI. -/
def DSP_ACCT_OPEN_HI : Nat := 0x704C
def DSP_ACCT_OPEN_HI.ACCT_OPEN : Fld := ⟨DSP_ACCT_OPEN_HI, 0, 32⟩

/-- DSP_ACCT_WORD. -/
def DSP_ACCT_WORD (s : Nat) (w : Nat) : Nat := 0x7080 + 0x20 * (s - 1) + 0x4 * w
def DSP_ACCT_WORD.WORD (s : Nat) (w : Nat) : Fld := ⟨DSP_ACCT_WORD s w, 0, 32⟩

/-- SAF_STATUS. -/
def SAF_STATUS : Nat := 0x8000
def SAF_STATUS.ARMED : Fld := ⟨SAF_STATUS, 0, 1⟩
def SAF_STATUS.ESTOP_A : Fld := ⟨SAF_STATUS, 1, 1⟩
def SAF_STATUS.ESTOP_B : Fld := ⟨SAF_STATUS, 2, 1⟩
def SAF_STATUS.RESET_IN : Fld := ⟨SAF_STATUS, 3, 1⟩
def SAF_STATUS.LANE_OK : Fld := ⟨SAF_STATUS, 4, 1⟩

/-- SAF_STICKY. -/
def SAF_STICKY : Nat := 0x8004
def SAF_STICKY.OPENED : Fld := ⟨SAF_STICKY, 0, 1⟩
def SAF_STICKY.RESET_STUCK : Fld := ⟨SAF_STICKY, 1, 1⟩
def SAF_STICKY.RESET_IGNORED : Fld := ⟨SAF_STICKY, 2, 1⟩
def SAF_STICKY.UNDER_LOAD : Fld := ⟨SAF_STICKY, 3, 1⟩
def SAF_STICKY.WELD_INCONCL : Fld := ⟨SAF_STICKY, 4, 1⟩
def SAF_STICKY.PRECHARGE_FAIL : Fld := ⟨SAF_STICKY, 5, 1⟩
def SAF_STICKY.REJECT : Fld := ⟨SAF_STICKY, 6, 1⟩

/-- SAF_INPUT_CFG. -/
def SAF_INPUT_CFG : Nat := 0x8008
def SAF_INPUT_CFG.DISC_T : Fld := ⟨SAF_INPUT_CFG, 0, 10⟩
def SAF_INPUT_CFG.LH_LIMIT : Fld := ⟨SAF_INPUT_CFG, 10, 4⟩
def SAF_INPUT_CFG.LIMIT_N : Fld := ⟨SAF_INPUT_CFG, 14, 2⟩

/-- SAF_COIL_CFG. -/
def SAF_COIL_CFG : Nat := 0x800C
def SAF_COIL_CFG.T_CLOSE : Fld := ⟨SAF_COIL_CFG, 0, 8⟩
def SAF_COIL_CFG.HOLD_DUTY : Fld := ⟨SAF_COIL_CFG, 8, 6⟩
def SAF_COIL_CFG.OPEN_DELAY : Fld := ⟨SAF_COIL_CFG, 14, 6⟩
def SAF_COIL_CFG.OPEN_WAIT : Fld := ⟨SAF_COIL_CFG, 20, 12⟩

/-- SAF_SEQ_CFG. -/
def SAF_SEQ_CFG : Nat := 0x8010
def SAF_SEQ_CFG.PRE_DONE : Fld := ⟨SAF_SEQ_CFG, 0, 8⟩
def SAF_SEQ_CFG.CLOSED_V : Fld := ⟨SAF_SEQ_CFG, 8, 8⟩
def SAF_SEQ_CFG.PRE_MAX : Fld := ⟨SAF_SEQ_CFG, 16, 10⟩
def SAF_SEQ_CFG.I_BREAK : Fld := ⟨SAF_SEQ_CFG, 26, 6⟩

/-- SAF_WELD_CFG. -/
def SAF_WELD_CFG : Nat := 0x8014
def SAF_WELD_CFG.WELD_V : Fld := ⟨SAF_WELD_CFG, 0, 8⟩
def SAF_WELD_CFG.T_WELD : Fld := ⟨SAF_WELD_CFG, 8, 13⟩

/-- SAF_DRV_FAULT. -/
def SAF_DRV_FAULT : Nat := 0x8018
def SAF_DRV_FAULT.FAULT : Fld := ⟨SAF_DRV_FAULT, 0, 20⟩

/-- SAF_TEST_CNT. -/
def SAF_TEST_CNT : Nat := 0x801C
def SAF_TEST_CNT.RUN : Fld := ⟨SAF_TEST_CNT, 0, 16⟩
def SAF_TEST_CNT.SKIPPED : Fld := ⟨SAF_TEST_CNT, 16, 16⟩

/-- SAF_CNT_CLR. -/
def SAF_CNT_CLR : Nat := 0x8020
def SAF_CNT_CLR.TEST : Fld := ⟨SAF_CNT_CLR, 0, 1⟩
def SAF_CNT_CLR.OPEN : Fld := ⟨SAF_CNT_CLR, 1, 1⟩

/-- SAF_STR_STATE. -/
def SAF_STR_STATE (s : Nat) : Nat := 0x8100 + 0x20 * (s - 1)
def SAF_STR_STATE.STATE (s : Nat) : Fld := ⟨SAF_STR_STATE s, 0, 3⟩
def SAF_STR_STATE.COILS (s : Nat) : Fld := ⟨SAF_STR_STATE s, 3, 3⟩
def SAF_STR_STATE.WELD_PEND (s : Nat) : Fld := ⟨SAF_STR_STATE s, 6, 1⟩
def SAF_STR_STATE.MEASURED (s : Nat) : Fld := ⟨SAF_STR_STATE s, 7, 1⟩

/-- SAF_LOCK_CAUSE. -/
def SAF_LOCK_CAUSE (s : Nat) : Nat := 0x8104 + 0x20 * (s - 1)
def SAF_LOCK_CAUSE.CAUSE (s : Nat) : Fld := ⟨SAF_LOCK_CAUSE s, 0, 11⟩

/-- SAF_OC_CFG. -/
def SAF_OC_CFG (s : Nat) : Nat := 0x8108 + 0x20 * (s - 1)
def SAF_OC_CFG.OC_CHG (s : Nat) : Fld := ⟨SAF_OC_CFG s, 0, 11⟩
def SAF_OC_CFG.OC_DIS (s : Nat) : Fld := ⟨SAF_OC_CFG s, 11, 11⟩
def SAF_OC_CFG.OC_N (s : Nat) : Fld := ⟨SAF_OC_CFG s, 22, 3⟩

/-- SAF_WELD_V. -/
def SAF_WELD_V (s : Nat) : Nat := 0x810C + 0x20 * (s - 1)
def SAF_WELD_V.PM (s : Nat) : Fld := ⟨SAF_WELD_V s, 0, 12⟩
def SAF_WELD_V.NM (s : Nat) : Fld := ⟨SAF_WELD_V s, 12, 12⟩

/-- SAF_OPEN_CNT. -/
def SAF_OPEN_CNT (s : Nat) : Nat := 0x8110 + 0x20 * (s - 1)
def SAF_OPEN_CNT.FABRIC (s : Nat) : Fld := ⟨SAF_OPEN_CNT s, 0, 16⟩
def SAF_OPEN_CNT.LOAD (s : Nat) : Fld := ⟨SAF_OPEN_CNT s, 16, 16⟩

/-- THM_STATUS. -/
def THM_STATUS : Nat := 0x9000
def THM_STATUS.ARRAY_LEVEL : Fld := ⟨THM_STATUS, 0, 2⟩
def THM_STATUS.STR_LEVEL (s : Nat) : Fld := ⟨THM_STATUS, 2 + 2 * (s - 1), 2⟩
def THM_STATUS.WATCH : Fld := ⟨THM_STATUS, 10, 11⟩
def THM_STATUS.BROKEN : Fld := ⟨THM_STATUS, 21, 11⟩

/-- THM_STICKY. -/
def THM_STICKY : Nat := 0x9004
def THM_STICKY.BROKEN : Fld := ⟨THM_STICKY, 0, 1⟩
def THM_STICKY.DIE_CRIT : Fld := ⟨THM_STICKY, 1, 1⟩
def THM_STICKY.FIELD_LIM : Fld := ⟨THM_STICKY, 2, 1⟩
def THM_STICKY.AO_SAFE : Fld := ⟨THM_STICKY, 3, 1⟩
def THM_STICKY.REJECT : Fld := ⟨THM_STICKY, 4, 1⟩

/-- THM_GRP_CFG. -/
def THM_GRP_CFG (g : Nat) : Nat := 0x9008 + 0x4 * g
def THM_GRP_CFG.LIM (g : Nat) : Fld := ⟨THM_GRP_CFG g, 0, 8⟩
def THM_GRP_CFG.STEP (g : Nat) : Fld := ⟨THM_GRP_CFG g, 8, 4⟩
def THM_GRP_CFG.MARGIN (g : Nat) : Fld := ⟨THM_GRP_CFG g, 12, 4⟩
def THM_GRP_CFG.HYST (g : Nat) : Fld := ⟨THM_GRP_CFG g, 16, 4⟩

/-- THM_STR_CFG. -/
def THM_STR_CFG : Nat := 0x9018
def THM_STR_CFG.BAL_ON : Fld := ⟨THM_STR_CFG, 0, 8⟩
def THM_STR_CFG.BAL_OFF : Fld := ⟨THM_STR_CFG, 8, 8⟩
def THM_STR_CFG.CHG_ON : Fld := ⟨THM_STR_CFG, 16, 8⟩
def THM_STR_CFG.CHG_PAUSE : Fld := ⟨THM_STR_CFG, 24, 8⟩

/-- THM_STR_HOT. -/
def THM_STR_HOT (s : Nat) : Nat := 0x9030 + 0x8 * (s - 1)
def THM_STR_HOT.HOT (s : Nat) : Fld := ⟨THM_STR_HOT s, 0, 18⟩
def THM_STR_HOT.CHANNEL (s : Nat) : Fld := ⟨THM_STR_HOT s, 18, 8⟩
def THM_STR_HOT.CHG_PAUSE (s : Nat) : Fld := ⟨THM_STR_HOT s, 26, 1⟩
def THM_STR_HOT.BAL_PAUSE (s : Nat) : Fld := ⟨THM_STR_HOT s, 27, 1⟩

/-- THM_STR_MEAN. -/
def THM_STR_MEAN (s : Nat) : Nat := 0x9034 + 0x8 * (s - 1)
def THM_STR_MEAN.MEAN (s : Nat) : Fld := ⟨THM_STR_MEAN s, 0, 18⟩

/-- THM_FIELD_MAP. -/
def THM_FIELD_MAP (i : Nat) : Nat := 0x9050 + 0x4 * i
def THM_FIELD_MAP.HOLE (i : Nat) : Fld := ⟨THM_FIELD_MAP i, 0, 8⟩
def THM_FIELD_MAP.OFFSET (i : Nat) : Fld := ⟨THM_FIELD_MAP i, 8, 6⟩
def THM_FIELD_MAP.EN (i : Nat) : Fld := ⟨THM_FIELD_MAP i, 14, 1⟩
def THM_FIELD_MAP.STALE (i : Nat) : Fld := ⟨THM_FIELD_MAP i, 15, 8⟩

/-- THM_AO_CFG. -/
def THM_AO_CFG (n : Nat) : Nat := 0x90A0 + 0x4 * n
def THM_AO_CFG.RANGE (n : Nat) : Fld := ⟨THM_AO_CFG n, 0, 2⟩
def THM_AO_CFG.SAFE (n : Nat) : Fld := ⟨THM_AO_CFG n, 2, 16⟩

/-- THM_AO_OUT. -/
def THM_AO_OUT (n : Nat) : Nat := 0x90B0 + 0x4 * n
def THM_AO_OUT.CODE (n : Nat) : Fld := ⟨THM_AO_OUT n, 0, 16⟩
def THM_AO_OUT.STATE (n : Nat) : Fld := ⟨THM_AO_OUT n, 16, 2⟩

/-- HST_CTRL. -/
def HST_CTRL : Nat := 0xA000
def HST_CTRL.ADMIN_EN : Fld := ⟨HST_CTRL, 0, 1⟩

/-- HST_STATUS. -/
def HST_STATUS : Nat := 0xA004
def HST_STATUS.READY : Fld := ⟨HST_STATUS, 0, 1⟩
def HST_STATUS.ADMIN_ACTIVE : Fld := ⟨HST_STATUS, 1, 1⟩
def HST_STATUS.BUS_MASTER : Fld := ⟨HST_STATUS, 2, 1⟩
def HST_STATUS.LINK_UP : Fld := ⟨HST_STATUS, 3, 1⟩

/-- HST_STICKY. -/
def HST_STICKY : Nat := 0xA008
def HST_STICKY.RSVD_WRITE : Fld := ⟨HST_STICKY, 0, 1⟩
def HST_STICKY.PARTIAL_WRITE : Fld := ⟨HST_STICKY, 1, 1⟩
def HST_STICKY.UNMAPPED : Fld := ⟨HST_STICKY, 2, 1⟩
def HST_STICKY.DB_NO_RING : Fld := ⟨HST_STICKY, 3, 1⟩
def HST_STICKY.SQ_ERROR : Fld := ⟨HST_STICKY, 4, 1⟩
def HST_STICKY.CQ_FULL : Fld := ⟨HST_STICKY, 5, 1⟩
def HST_STICKY.ORPHAN_LOST : Fld := ⟨HST_STICKY, 6, 1⟩
def HST_STICKY.DLQ_LOST : Fld := ⟨HST_STICKY, 7, 1⟩
def HST_STICKY.HOST_RESET : Fld := ⟨HST_STICKY, 8, 1⟩
def HST_STICKY.DMA_ERROR : Fld := ⟨HST_STICKY, 9, 1⟩
def HST_STICKY.REJECT : Fld := ⟨HST_STICKY, 10, 1⟩

/-- HST_ASQ_BASE_LO. -/
def HST_ASQ_BASE_LO : Nat := 0xA00C
def HST_ASQ_BASE_LO.ALIGN : Fld := ⟨HST_ASQ_BASE_LO, 0, 12⟩
def HST_ASQ_BASE_LO.ADDR_LO : Fld := ⟨HST_ASQ_BASE_LO, 12, 20⟩

/-- HST_ASQ_BASE_HI. -/
def HST_ASQ_BASE_HI : Nat := 0xA010
def HST_ASQ_BASE_HI.ADDR_HI : Fld := ⟨HST_ASQ_BASE_HI, 0, 32⟩

/-- HST_ACQ_BASE_LO. -/
def HST_ACQ_BASE_LO : Nat := 0xA014
def HST_ACQ_BASE_LO.ALIGN : Fld := ⟨HST_ACQ_BASE_LO, 0, 12⟩
def HST_ACQ_BASE_LO.ADDR_LO : Fld := ⟨HST_ACQ_BASE_LO, 12, 20⟩

/-- HST_ACQ_BASE_HI. -/
def HST_ACQ_BASE_HI : Nat := 0xA018
def HST_ACQ_BASE_HI.ADDR_HI : Fld := ⟨HST_ACQ_BASE_HI, 0, 32⟩

/-- HST_ADMIN_SIZE. -/
def HST_ADMIN_SIZE : Nat := 0xA01C
def HST_ADMIN_SIZE.SQ_LOG2 : Fld := ⟨HST_ADMIN_SIZE, 0, 5⟩
def HST_ADMIN_SIZE.CQ_LOG2 : Fld := ⟨HST_ADMIN_SIZE, 5, 5⟩

/-- HST_RSVD_ADDR. -/
def HST_RSVD_ADDR : Nat := 0xA020
def HST_RSVD_ADDR.OFFSET : Fld := ⟨HST_RSVD_ADDR, 0, 16⟩

/-- HST_RECUR_LAST. -/
def HST_RECUR_LAST : Nat := 0xA024
def HST_RECUR_LAST.OFFSET : Fld := ⟨HST_RECUR_LAST, 0, 16⟩
def HST_RECUR_LAST.BIT : Fld := ⟨HST_RECUR_LAST, 16, 5⟩

/-- HST_RECUR. -/
def HST_RECUR (k : Nat) : Nat := 0xA028 + 0x4 * k
def HST_RECUR.COUNT (k : Nat) (j : Nat) : Fld := ⟨HST_RECUR k, 0 + 8 * j, 8⟩

/-- HST_TAGS. -/
def HST_TAGS : Nat := 0xA038
def HST_TAGS.IN_FLIGHT : Fld := ⟨HST_TAGS, 0, 17⟩
def HST_TAGS.ORPHANS : Fld := ⟨HST_TAGS, 17, 13⟩

/-- HST_PM_CFG. -/
def HST_PM_CFG : Nat := 0xA03C
def HST_PM_CFG.PORT : Fld := ⟨HST_PM_CFG, 0, 16⟩
def HST_PM_CFG.PM_EN : Fld := ⟨HST_PM_CFG, 16, 1⟩

/-- HST_DLQ_STAT. -/
def HST_DLQ_STAT : Nat := 0xA040
def HST_DLQ_STAT.FILL : Fld := ⟨HST_DLQ_STAT, 0, 9⟩
def HST_DLQ_STAT.LOST : Fld := ⟨HST_DLQ_STAT, 16, 16⟩

/-- HST_EV_CFG. -/
def HST_EV_CFG : Nat := 0xA044
def HST_EV_CFG.SEVMIN : Fld := ⟨HST_EV_CFG, 0, 3⟩
def HST_EV_CFG.MOD : Fld := ⟨HST_EV_CFG, 8, 8⟩

/-- HST_CNT_CLR. -/
def HST_CNT_CLR : Nat := 0xA048
def HST_CNT_CLR.DLQ : Fld := ⟨HST_CNT_CLR, 0, 1⟩
def HST_CNT_CLR.RECUR : Fld := ⟨HST_CNT_CLR, 1, 1⟩

/-- HST_EV_SUMMARY. -/
def HST_EV_SUMMARY : Nat := 0xA04C
def HST_EV_SUMMARY.WORDS : Fld := ⟨HST_EV_SUMMARY, 0, 16⟩

/-- HST_EV_PEND. -/
def HST_EV_PEND (w : Nat) : Nat := 0xA080 + 0x4 * w
def HST_EV_PEND.PEND (w : Nat) : Fld := ⟨HST_EV_PEND w, 0, 32⟩

/-- HST_SQ_STAT. -/
def HST_SQ_STAT (n : Nat) : Nat := 0xA100 + 0x4 * n
def HST_SQ_STAT.HEAD (n : Nat) : Fld := ⟨HST_SQ_STAT n, 0, 12⟩
def HST_SQ_STAT.TAIL (n : Nat) : Fld := ⟨HST_SQ_STAT n, 12, 12⟩
def HST_SQ_STAT.STATE (n : Nat) : Fld := ⟨HST_SQ_STAT n, 24, 2⟩
def HST_SQ_STAT.CQ (n : Nat) : Fld := ⟨HST_SQ_STAT n, 26, 6⟩

/-- HST_CQ_STAT. -/
def HST_CQ_STAT (n : Nat) : Nat := 0xA200 + 0x4 * n
def HST_CQ_STAT.TAIL (n : Nat) : Fld := ⟨HST_CQ_STAT n, 0, 16⟩
def HST_CQ_STAT.PHASE (n : Nat) : Fld := ⟨HST_CQ_STAT n, 16, 1⟩
def HST_CQ_STAT.FULL (n : Nat) : Fld := ⟨HST_CQ_STAT n, 17, 1⟩
def HST_CQ_STAT.PRESENT (n : Nat) : Fld := ⟨HST_CQ_STAT n, 18, 1⟩

/-- HST_EV_MAP. -/
def HST_EV_MAP (n : Nat) : Nat := 0xA800 + 0x4 * n
def HST_EV_MAP.VECTOR (n : Nat) : Fld := ⟨HST_EV_MAP n, 0, 6⟩
def HST_EV_MAP.EN (n : Nat) : Fld := ⟨HST_EV_MAP n, 6, 1⟩

/-- LAN_CTRL. -/
def LAN_CTRL : Nat := 0xB000
def LAN_CTRL.NET_UPD : Fld := ⟨LAN_CTRL, 0, 1⟩
def LAN_CTRL.UPD_PORT : Fld := ⟨LAN_CTRL, 1, 16⟩

/-- LAN_STATUS. -/
def LAN_STATUS : Nat := 0xB004
def LAN_STATUS.PRIMARY : Fld := ⟨LAN_STATUS, 0, 1⟩
def LAN_STATUS.A_STATE : Fld := ⟨LAN_STATUS, 1, 3⟩
def LAN_STATUS.B_STATE : Fld := ⟨LAN_STATUS, 4, 3⟩
def LAN_STATUS.A_CORES : Fld := ⟨LAN_STATUS, 7, 6⟩
def LAN_STATUS.B_CORES : Fld := ⟨LAN_STATUS, 13, 6⟩
def LAN_STATUS.UPD : Fld := ⟨LAN_STATUS, 19, 3⟩
def LAN_STATUS.SHADOW_VALID : Fld := ⟨LAN_STATUS, 22, 1⟩

/-- LAN_STICKY. -/
def LAN_STICKY : Nat := 0xB008
def LAN_STICKY.RESYNC : Fld := ⟨LAN_STICKY, 0, 1⟩
def LAN_STICKY.CORE_FAILED : Fld := ⟨LAN_STICKY, 1, 1⟩
def LAN_STICKY.TAKEOVER : Fld := ⟨LAN_STICKY, 2, 1⟩
def LAN_STICKY.MISMATCH : Fld := ⟨LAN_STICKY, 3, 1⟩
def LAN_STICKY.FATAL : Fld := ⟨LAN_STICKY, 4, 1⟩
def LAN_STICKY.IMAGE_FALLBACK : Fld := ⟨LAN_STICKY, 5, 1⟩
def LAN_STICKY.BAD_HASH : Fld := ⟨LAN_STICKY, 6, 1⟩
def LAN_STICKY.REJECT : Fld := ⟨LAN_STICKY, 7, 1⟩

/-- LAN_CFG. -/
def LAN_CFG : Nat := 0xB00C
def LAN_CFG.RESYNC_LIMIT : Fld := ⟨LAN_CFG, 0, 4⟩
def LAN_CFG.COMPARE_LIMIT : Fld := ⟨LAN_CFG, 4, 4⟩
def LAN_CFG.SHADOW_MIN : Fld := ⟨LAN_CFG, 8, 16⟩
def LAN_CFG.SAT_PIECES : Fld := ⟨LAN_CFG, 24, 3⟩

/-- LAN_CNT. -/
def LAN_CNT : Nat := 0xB010
def LAN_CNT.RESYNC : Fld := ⟨LAN_CNT, 0, 16⟩
def LAN_CNT.MISMATCH : Fld := ⟨LAN_CNT, 16, 16⟩

/-- LAN_CNT_CLR. -/
def LAN_CNT_CLR : Nat := 0xB014
def LAN_CNT_CLR.CNT : Fld := ⟨LAN_CNT_CLR, 0, 1⟩

/-- LAN_BANK_STAT. -/
def LAN_BANK_STAT : Nat := 0xB018
def LAN_BANK_STAT.ACTIVE_BANK : Fld := ⟨LAN_BANK_STAT, 0, 1⟩
def LAN_BANK_STAT.A_IMG : Fld := ⟨LAN_BANK_STAT, 1, 3⟩
def LAN_BANK_STAT.B_IMG : Fld := ⟨LAN_BANK_STAT, 4, 3⟩
def LAN_BANK_STAT.BOOT_CNT : Fld := ⟨LAN_BANK_STAT, 7, 2⟩
def LAN_BANK_STAT.SPLIT_NEXT : Fld := ⟨LAN_BANK_STAT, 9, 1⟩

/-- LAN_STAGE_PROG. -/
def LAN_STAGE_PROG : Nat := 0xB01C
def LAN_STAGE_PROG.RECEIVED : Fld := ⟨LAN_STAGE_PROG, 0, 14⟩
def LAN_STAGE_PROG.TOTAL : Fld := ⟨LAN_STAGE_PROG, 14, 14⟩

/-- LAN_IMG_ID_A. -/
def LAN_IMG_ID_A : Nat := 0xB020
def LAN_IMG_ID_A.ID : Fld := ⟨LAN_IMG_ID_A, 0, 32⟩

/-- LAN_IMG_ID_B. -/
def LAN_IMG_ID_B : Nat := 0xB024
def LAN_IMG_ID_B.ID : Fld := ⟨LAN_IMG_ID_B, 0, 32⟩

/-- LAN_CLASS0. -/
def LAN_CLASS0 : Nat := 0xB028
def LAN_CLASS0.CLASS0 : Fld := ⟨LAN_CLASS0, 0, 32⟩

/-- LAN_CLASS1. -/
def LAN_CLASS1 : Nat := 0xB02C
def LAN_CLASS1.CLASS1 : Fld := ⟨LAN_CLASS1, 0, 24⟩
def LAN_CLASS1.KEY_REVOKED : Fld := ⟨LAN_CLASS1, 24, 4⟩

/-- REC_CTRL. -/
def REC_CTRL : Nat := 0xC000
def REC_CTRL.JNL_EN : Fld := ⟨REC_CTRL, 0, 1⟩
def REC_CTRL.ORIGIN_INT : Fld := ⟨REC_CTRL, 1, 16⟩
def REC_CTRL.JNL_EV : Fld := ⟨REC_CTRL, 17, 8⟩

/-- REC_STATUS. -/
def REC_STATUS : Nat := 0xC004
def REC_STATUS.REPLAY : Fld := ⟨REC_STATUS, 0, 1⟩
def REC_STATUS.REPLAY_NEXT : Fld := ⟨REC_STATUS, 1, 1⟩
def REC_STATUS.ORIGIN_BUSY : Fld := ⟨REC_STATUS, 2, 1⟩
def REC_STATUS.LOADED : Fld := ⟨REC_STATUS, 3, 1⟩
def REC_STATUS.RETIRED : Fld := ⟨REC_STATUS, 4, 9⟩
def REC_STATUS.LG_FILL : Fld := ⟨REC_STATUS, 13, 5⟩

/-- REC_STICKY. -/
def REC_STICKY : Nat := 0xC008
def REC_STICKY.DROPPED : Fld := ⟨REC_STICKY, 0, 1⟩
def REC_STICKY.MIRROR_DROP : Fld := ⟨REC_STICKY, 1, 1⟩
def REC_STICKY.RETIRED : Fld := ⟨REC_STICKY, 2, 1⟩
def REC_STICKY.LAST_GASP : Fld := ⟨REC_STICKY, 3, 1⟩
def REC_STICKY.JNL_GAP : Fld := ⟨REC_STICKY, 4, 1⟩
def REC_STICKY.ORIGIN_FAIL : Fld := ⟨REC_STICKY, 5, 1⟩
def REC_STICKY.DIVERGED : Fld := ⟨REC_STICKY, 6, 1⟩
def REC_STICKY.REJECT : Fld := ⟨REC_STICKY, 7, 1⟩

/-- REC_CNT_CLR. -/
def REC_CNT_CLR : Nat := 0xC00C
def REC_CNT_CLR.DROP : Fld := ⟨REC_CNT_CLR, 0, 1⟩
def REC_CNT_CLR.SKIP : Fld := ⟨REC_CNT_CLR, 1, 1⟩

/-- REC_SEQ_NEXT. -/
def REC_SEQ_NEXT : Nat := 0xC010
def REC_SEQ_NEXT.SEQ_NEXT : Fld := ⟨REC_SEQ_NEXT, 0, 32⟩

/-- REC_SEQ_OLDEST. -/
def REC_SEQ_OLDEST : Nat := 0xC014
def REC_SEQ_OLDEST.SEQ_OLDEST : Fld := ⟨REC_SEQ_OLDEST, 0, 32⟩

/-- REC_DROP. -/
def REC_DROP (j : Nat) : Nat := 0xC018 + 0x4 * j
def REC_DROP.EVEN (j : Nat) : Fld := ⟨REC_DROP j, 0, 16⟩
def REC_DROP.ODD (j : Nat) : Fld := ⟨REC_DROP j, 16, 16⟩

/-- REC_MIRROR_STAT. -/
def REC_MIRROR_STAT : Nat := 0xC028
def REC_MIRROR_STAT.FILL : Fld := ⟨REC_MIRROR_STAT, 0, 14⟩
def REC_MIRROR_STAT.DROP : Fld := ⟨REC_MIRROR_STAT, 16, 16⟩

/-- REC_JNL_BASE_LO. -/
def REC_JNL_BASE_LO : Nat := 0xC030
def REC_JNL_BASE_LO.ALIGN : Fld := ⟨REC_JNL_BASE_LO, 0, 6⟩
def REC_JNL_BASE_LO.ADDR_LO : Fld := ⟨REC_JNL_BASE_LO, 6, 26⟩

/-- REC_JNL_BASE_HI. -/
def REC_JNL_BASE_HI : Nat := 0xC034
def REC_JNL_BASE_HI.ADDR_HI : Fld := ⟨REC_JNL_BASE_HI, 0, 32⟩

/-- REC_JNL_SIZE. -/
def REC_JNL_SIZE : Nat := 0xC038
def REC_JNL_SIZE.LOG2 : Fld := ⟨REC_JNL_SIZE, 0, 6⟩

/-- REC_JNL_HEAD. -/
def REC_JNL_HEAD : Nat := 0xC03C
def REC_JNL_HEAD.HEAD : Fld := ⟨REC_JNL_HEAD, 0, 32⟩

/-- REC_JNL_TAIL. -/
def REC_JNL_TAIL : Nat := 0xC040
def REC_JNL_TAIL.TAIL : Fld := ⟨REC_JNL_TAIL, 0, 32⟩

/-- REC_JNL_SKIP. -/
def REC_JNL_SKIP : Nat := 0xC044
def REC_JNL_SKIP.SKIP : Fld := ⟨REC_JNL_SKIP, 0, 32⟩

/-- REC_ORG_A_LO. -/
def REC_ORG_A_LO : Nat := 0xC048
def REC_ORG_A_LO.ALIGN : Fld := ⟨REC_ORG_A_LO, 0, 6⟩
def REC_ORG_A_LO.ADDR_LO : Fld := ⟨REC_ORG_A_LO, 6, 26⟩

/-- REC_ORG_A_HI. -/
def REC_ORG_A_HI : Nat := 0xC04C
def REC_ORG_A_HI.ADDR_HI : Fld := ⟨REC_ORG_A_HI, 0, 32⟩

/-- REC_ORG_B_LO. -/
def REC_ORG_B_LO : Nat := 0xC050
def REC_ORG_B_LO.ALIGN : Fld := ⟨REC_ORG_B_LO, 0, 6⟩
def REC_ORG_B_LO.ADDR_LO : Fld := ⟨REC_ORG_B_LO, 6, 26⟩

/-- REC_ORG_B_HI. -/
def REC_ORG_B_HI : Nat := 0xC054
def REC_ORG_B_HI.ADDR_HI : Fld := ⟨REC_ORG_B_HI, 0, 32⟩

/-- REC_BB_OLDEST. -/
def REC_BB_OLDEST : Nat := 0xC058
def REC_BB_OLDEST.OLDEST : Fld := ⟨REC_BB_OLDEST, 0, 32⟩

/-- REC_WIN_IDX. -/
def REC_WIN_IDX : Nat := 0xC05C
def REC_WIN_IDX.IDX : Fld := ⟨REC_WIN_IDX, 0, 15⟩

/-- REC_WIN. -/
def REC_WIN (w : Nat) : Nat := 0xC060 + 0x4 * w
def REC_WIN.WORD (w : Nat) : Fld := ⟨REC_WIN w, 0, 32⟩

/-- REC_LG_STAT. -/
def REC_LG_STAT : Nat := 0xC080
def REC_LG_STAT.USED : Fld := ⟨REC_LG_STAT, 0, 16⟩

/-- REC_RETIRED. -/
def REC_RETIRED (k : Nat) : Nat := 0xC100 + 0x4 * k
def REC_RETIRED.RETIRED (k : Nat) : Fld := ⟨REC_RETIRED k, 0, 32⟩

/-- REC_LG. -/
def REC_LG (n : Nat) (w : Nat) : Nat := 0xC200 + 0x20 * n + 0x4 * w
def REC_LG.WORD (n : Nat) (w : Nat) : Fld := ⟨REC_LG n w, 0, 32⟩

/-- FIO_STATUS. -/
def FIO_STATUS : Nat := 0xD000
def FIO_STATUS.LINK_OK : Fld := ⟨FIO_STATUS, 0, 1⟩
def FIO_STATUS.SAFE_ACTIVE : Fld := ⟨FIO_STATUS, 1, 1⟩
def FIO_STATUS.TABLE_OK : Fld := ⟨FIO_STATUS, 2, 1⟩
def FIO_STATUS.SUP_OK : Fld := ⟨FIO_STATUS, 3, 1⟩

/-- FIO_STICKY. -/
def FIO_STICKY : Nat := 0xD004
def FIO_STICKY.BROKEN : Fld := ⟨FIO_STICKY, 0, 1⟩
def FIO_STICKY.COS_OVF : Fld := ⟨FIO_STICKY, 1, 1⟩
def FIO_STICKY.DO_FAULT : Fld := ⟨FIO_STICKY, 2, 1⟩
def FIO_STICKY.SUP_LOW : Fld := ⟨FIO_STICKY, 3, 1⟩
def FIO_STICKY.LINK_LOST : Fld := ⟨FIO_STICKY, 4, 1⟩
def FIO_STICKY.SAFE_ENTERED : Fld := ⟨FIO_STICKY, 5, 1⟩
def FIO_STICKY.REJECT : Fld := ⟨FIO_STICKY, 6, 1⟩

/-- FIO_DI_STATE. -/
def FIO_DI_STATE : Nat := 0xD008
def FIO_DI_STATE.LEVEL : Fld := ⟨FIO_DI_STATE, 0, 16⟩
def FIO_DI_STATE.BROKEN : Fld := ⟨FIO_DI_STATE, 16, 16⟩

/-- FIO_COS. -/
def FIO_COS : Nat := 0xD00C
def FIO_COS.PEND : Fld := ⟨FIO_COS, 0, 16⟩

/-- FIO_COS_STAT. -/
def FIO_COS_STAT : Nat := 0xD010
def FIO_COS_STAT.FILL : Fld := ⟨FIO_COS_STAT, 0, 9⟩
def FIO_COS_STAT.LOST : Fld := ⟨FIO_COS_STAT, 16, 16⟩

/-- FIO_DO_STATE. -/
def FIO_DO_STATE : Nat := 0xD014
def FIO_DO_STATE.CMD : Fld := ⟨FIO_DO_STATE, 0, 8⟩
def FIO_DO_STATE.READBACK : Fld := ⟨FIO_DO_STATE, 8, 8⟩
def FIO_DO_STATE.FAULT : Fld := ⟨FIO_DO_STATE, 16, 8⟩

/-- FIO_DO_SAFE. -/
def FIO_DO_SAFE : Nat := 0xD018
def FIO_DO_SAFE.ACTION : Fld := ⟨FIO_DO_SAFE, 0, 16⟩
def FIO_DO_SAFE.TIMEOUT : Fld := ⟨FIO_DO_SAFE, 16, 8⟩

/-- FIO_CNT_CLR. -/
def FIO_CNT_CLR : Nat := 0xD01C
def FIO_CNT_CLR.COS : Fld := ⟨FIO_CNT_CLR, 0, 1⟩

/-- FIO_DI_CFG. -/
def FIO_DI_CFG (i : Nat) : Nat := 0xD040 + 0x4 * i
def FIO_DI_CFG.TYPE (i : Nat) : Fld := ⟨FIO_DI_CFG i, 0, 1⟩
def FIO_DI_CFG.FILTER (i : Nat) : Fld := ⟨FIO_DI_CFG i, 1, 8⟩
def FIO_DI_CFG.COS_RISE (i : Nat) : Fld := ⟨FIO_DI_CFG i, 9, 1⟩
def FIO_DI_CFG.COS_FALL (i : Nat) : Fld := ⟨FIO_DI_CFG i, 10, 1⟩
def FIO_DI_CFG.WB_EN (i : Nat) : Fld := ⟨FIO_DI_CFG i, 11, 1⟩

/-- CAN_TS_PM_LO. -/
def CAN_TS_PM_LO : Nat := 0xE000
def CAN_TS_PM_LO.PM : Fld := ⟨CAN_TS_PM_LO, 0, 32⟩

/-- CAN_TS_PM_HI. -/
def CAN_TS_PM_HI : Nat := 0xE004
def CAN_TS_PM_HI.PM : Fld := ⟨CAN_TS_PM_HI, 0, 32⟩

/-- CAN_TS_CNT. -/
def CAN_TS_CNT : Nat := 0xE008
def CAN_TS_CNT.CNT : Fld := ⟨CAN_TS_CNT, 0, 32⟩

/-- CAN_TS_FRAME. -/
def CAN_TS_FRAME : Nat := 0xE00C
def CAN_TS_FRAME.FRAME : Fld := ⟨CAN_TS_FRAME, 0, 32⟩

/-- CAN_TCNT_LIVE. -/
def CAN_TCNT_LIVE : Nat := 0xE010
def CAN_TCNT_LIVE.CNT : Fld := ⟨CAN_TCNT_LIVE, 0, 32⟩

/-- CAN_CTRL. -/
def CAN_CTRL (n : Nat) : Nat := 0xE100 + 0x100 * n
def CAN_CTRL.EN (n : Nat) : Fld := ⟨CAN_CTRL n, 0, 1⟩
def CAN_CTRL.MODE (n : Nat) : Fld := ⟨CAN_CTRL n, 1, 2⟩
def CAN_CTRL.FD_EN (n : Nat) : Fld := ⟨CAN_CTRL n, 3, 1⟩
def CAN_CTRL.AUTO_RECOVER (n : Nat) : Fld := ⟨CAN_CTRL n, 4, 1⟩
def CAN_CTRL.WAKE_MODE (n : Nat) : Fld := ⟨CAN_CTRL n, 5, 2⟩
def CAN_CTRL.TX_TO (n : Nat) : Fld := ⟨CAN_CTRL n, 7, 8⟩

/-- CAN_NBT. -/
def CAN_NBT (n : Nat) : Nat := 0xE104 + 0x100 * n
def CAN_NBT.NBRP (n : Nat) : Fld := ⟨CAN_NBT n, 0, 9⟩
def CAN_NBT.NTSEG1 (n : Nat) : Fld := ⟨CAN_NBT n, 9, 8⟩
def CAN_NBT.NTSEG2 (n : Nat) : Fld := ⟨CAN_NBT n, 17, 7⟩
def CAN_NBT.NSJW (n : Nat) : Fld := ⟨CAN_NBT n, 24, 7⟩

/-- CAN_DBT. -/
def CAN_DBT (n : Nat) : Nat := 0xE108 + 0x100 * n
def CAN_DBT.DBRP (n : Nat) : Fld := ⟨CAN_DBT n, 0, 5⟩
def CAN_DBT.DTSEG1 (n : Nat) : Fld := ⟨CAN_DBT n, 5, 5⟩
def CAN_DBT.DTSEG2 (n : Nat) : Fld := ⟨CAN_DBT n, 10, 4⟩
def CAN_DBT.DSJW (n : Nat) : Fld := ⟨CAN_DBT n, 14, 4⟩
def CAN_DBT.TDC_OFS (n : Nat) : Fld := ⟨CAN_DBT n, 18, 7⟩
def CAN_DBT.TDC_EN (n : Nat) : Fld := ⟨CAN_DBT n, 25, 1⟩

/-- CAN_STATUS. -/
def CAN_STATUS (n : Nat) : Nat := 0xE10C + 0x100 * n
def CAN_STATUS.STATE (n : Nat) : Fld := ⟨CAN_STATUS n, 0, 3⟩
def CAN_STATUS.TEC (n : Nat) : Fld := ⟨CAN_STATUS n, 3, 8⟩
def CAN_STATUS.REC (n : Nat) : Fld := ⟨CAN_STATUS n, 11, 8⟩

/-- CAN_STICKY. -/
def CAN_STICKY (n : Nat) : Nat := 0xE110 + 0x100 * n
def CAN_STICKY.RX (n : Nat) : Fld := ⟨CAN_STICKY n, 0, 1⟩
def CAN_STICKY.MSG_LOST (n : Nat) : Fld := ⟨CAN_STICKY n, 1, 1⟩
def CAN_STICKY.ERR_PASSIVE (n : Nat) : Fld := ⟨CAN_STICKY n, 2, 1⟩
def CAN_STICKY.BUS_OFF (n : Nat) : Fld := ⟨CAN_STICKY n, 3, 1⟩
def CAN_STICKY.WAKE (n : Nat) : Fld := ⟨CAN_STICKY n, 4, 1⟩
def CAN_STICKY.TX_TIMEOUT (n : Nat) : Fld := ⟨CAN_STICKY n, 5, 1⟩
def CAN_STICKY.REJECT (n : Nat) : Fld := ⟨CAN_STICKY n, 6, 1⟩

/-- CAN_WAKE_ID. -/
def CAN_WAKE_ID (n : Nat) : Nat := 0xE114 + 0x100 * n
def CAN_WAKE_ID.ID (n : Nat) : Fld := ⟨CAN_WAKE_ID n, 0, 30⟩

/-- CAN_WAKE_MASK. -/
def CAN_WAKE_MASK (n : Nat) : Nat := 0xE118 + 0x100 * n
def CAN_WAKE_MASK.MASK (n : Nat) : Fld := ⟨CAN_WAKE_MASK n, 0, 29⟩

/-- CAN_CNT. -/
def CAN_CNT (n : Nat) : Nat := 0xE11C + 0x100 * n
def CAN_CNT.LOST (n : Nat) : Fld := ⟨CAN_CNT n, 0, 16⟩
def CAN_CNT.UNMATCHED (n : Nat) : Fld := ⟨CAN_CNT n, 16, 16⟩

/-- CAN_CNT_CLR. -/
def CAN_CNT_CLR (n : Nat) : Nat := 0xE120 + 0x100 * n
def CAN_CNT_CLR.CNT (n : Nat) : Fld := ⟨CAN_CNT_CLR n, 0, 1⟩

/-- CAN_WIN_SEL. -/
def CAN_WIN_SEL : Nat := 0xE300
def CAN_WIN_SEL.SEL : Fld := ⟨CAN_WIN_SEL, 0, 8⟩

/-- CAN_WIN_STAT. -/
def CAN_WIN_STAT : Nat := 0xE304
def CAN_WIN_STAT.NEW_DATA : Fld := ⟨CAN_WIN_STAT, 0, 1⟩
def CAN_WIN_STAT.MSG_LOST : Fld := ⟨CAN_WIN_STAT, 1, 1⟩
def CAN_WIN_STAT.UPD : Fld := ⟨CAN_WIN_STAT, 2, 8⟩
def CAN_WIN_STAT.FRAME : Fld := ⟨CAN_WIN_STAT, 10, 8⟩

/-- CAN_WIN_ID. -/
def CAN_WIN_ID : Nat := 0xE308
def CAN_WIN_ID.ID : Fld := ⟨CAN_WIN_ID, 0, 30⟩

/-- CAN_WIN_TS. -/
def CAN_WIN_TS : Nat := 0xE30C
def CAN_WIN_TS.STAMP : Fld := ⟨CAN_WIN_TS, 0, 32⟩

/-- CAN_WIN_DATA. -/
def CAN_WIN_DATA (w : Nat) : Nat := 0xE310 + 0x4 * w
def CAN_WIN_DATA.DATA (w : Nat) : Fld := ⟨CAN_WIN_DATA w, 0, 32⟩

/-- CAN_HOLE_ID. -/
def CAN_HOLE_ID (n : Nat) (h : Nat) : Nat := 0xE800 + 0x400 * n + 0x8 * h
def CAN_HOLE_ID.ID (n : Nat) (h : Nat) : Fld := ⟨CAN_HOLE_ID n h, 0, 29⟩
def CAN_HOLE_ID.IDE (n : Nat) (h : Nat) : Fld := ⟨CAN_HOLE_ID n h, 29, 1⟩
def CAN_HOLE_ID.DIR (n : Nat) (h : Nat) : Fld := ⟨CAN_HOLE_ID n h, 30, 1⟩
def CAN_HOLE_ID.EN (n : Nat) (h : Nat) : Fld := ⟨CAN_HOLE_ID n h, 31, 1⟩

/-- CAN_HOLE_CFG. -/
def CAN_HOLE_CFG (n : Nat) (h : Nat) : Nat := 0xE804 + 0x400 * n + 0x8 * h
def CAN_HOLE_CFG.MASK (n : Nat) (h : Nat) : Fld := ⟨CAN_HOLE_CFG n h, 0, 29⟩

/-- SEC_STATUS. -/
def SEC_STATUS : Nat := 0xF000
def SEC_STATUS.SESSIONS : Fld := ⟨SEC_STATUS, 0, 5⟩
def SEC_STATUS.UNLOCKED : Fld := ⟨SEC_STATUS, 5, 1⟩
def SEC_STATUS.UNLOCK_ID : Fld := ⟨SEC_STATUS, 6, 16⟩
def SEC_STATUS.DBG_STATE : Fld := ⟨SEC_STATUS, 22, 2⟩

/-- SEC_STICKY. -/
def SEC_STICKY : Nat := 0xF004
def SEC_STICKY.AUTH_FAIL : Fld := ⟨SEC_STICKY, 0, 1⟩
def SEC_STICKY.LOCKED_WRITE : Fld := ⟨SEC_STICKY, 1, 1⟩
def SEC_STICKY.DBG_REFUSED : Fld := ⟨SEC_STICKY, 2, 1⟩
def SEC_STICKY.REJECT : Fld := ⟨SEC_STICKY, 3, 1⟩

/-- SEC_CFG. -/
def SEC_CFG : Nat := 0xF008
def SEC_CFG.IDLE : Fld := ⟨SEC_CFG, 0, 8⟩
def SEC_CFG.LIFE : Fld := ⟨SEC_CFG, 8, 8⟩
def SEC_CFG.FAIL_LIMIT : Fld := ⟨SEC_CFG, 16, 4⟩

/-- SEC_SLOT. -/
def SEC_SLOT (n : Nat) : Nat := 0xF010 + 0x4 * n
def SEC_SLOT.ROLE (n : Nat) : Fld := ⟨SEC_SLOT n, 0, 2⟩
def SEC_SLOT.FAILS (n : Nat) : Fld := ⟨SEC_SLOT n, 2, 4⟩
def SEC_SLOT.BLOCK_S (n : Nat) : Fld := ⟨SEC_SLOT n, 6, 12⟩
def SEC_SLOT.VERSION (n : Nat) : Fld := ⟨SEC_SLOT n, 18, 14⟩

/-- SEC_DBG_STAT. -/
def SEC_DBG_STAT : Nat := 0xF040
def SEC_DBG_STAT.SESSION : Fld := ⟨SEC_DBG_STAT, 0, 16⟩
def SEC_DBG_STAT.BP : Fld := ⟨SEC_DBG_STAT, 16, 8⟩

/-- SEC_CNT. -/
def SEC_CNT : Nat := 0xF044
def SEC_CNT.AUTH_FAIL : Fld := ⟨SEC_CNT, 0, 16⟩
def SEC_CNT.LOCKED_WRITE : Fld := ⟨SEC_CNT, 16, 16⟩

/-- SEC_CNT_CLR. -/
def SEC_CNT_CLR : Nat := 0xF048
def SEC_CNT_CLR.CNT : Fld := ⟨SEC_CNT_CLR, 0, 1⟩

/-- The SYS registers. -/
def regsSYS : List RegClass := [
  ⟨0x0000, 1, 0x0, 1, 0x0, 0x20481F94, 0x0, 0x0, 0x0, 0xFFFFFFFF, 0xFFFFFFFF, 0x10001⟩,
  ⟨0x0004, 1, 0x0, 1, 0x0, 0x3, 0x0, 0x0, 0x0, 0x1FF, 0x1FF, 0x101⟩,
  ⟨0x0008, 1, 0x0, 1, 0x0, 0x4040200, 0x0, 0x0, 0x0, 0xFFFFFFFF, 0xFFFFFFFF, 0x1000001⟩,
  ⟨0x0010, 1, 0x0, 1, 0x0, 0x2, 0x0, 0x100, 0x0, 0xFF, 0x0, 0x1E5⟩,
  ⟨0x0014, 1, 0x0, 1, 0x0, 0x0, 0x0, 0x0, 0x0, 0xFFFFFFFF, 0x0, 0x10001⟩,
  ⟨0x0018, 1, 0x0, 1, 0x0, 0x0, 0x0, 0x0, 0x0, 0xFFFFFF1F, 0x0, 0x101011F⟩,
  ⟨0x001C, 1, 0x0, 1, 0x0, 0x3C, 0xFFF, 0x0, 0x0, 0x0, 0xFFF, 0x1⟩,
  ⟨0x0020, 1, 0x0, 1, 0x0, 0x0, 0x0, 0xFF, 0x0, 0x0, 0x20, 0xFF⟩,
  ⟨0x0024, 1, 0x0, 1, 0x0, 0x400, 0x0, 0x0, 0x0, 0x3FFF, 0x0, 0x1C01⟩,
  ⟨0x0028, 1, 0x0, 1, 0x0, 0x0, 0x0, 0x0, 0x0, 0xFFFFFFFF, 0x0, 0x10001⟩,
  ⟨0x002C, 1, 0x0, 1, 0x0, 0x0, 0x0, 0x0, 0x0, 0xFFFFFFFF, 0xFFFF0000, 0x10001⟩,
  ⟨0x0030, 1, 0x0, 1, 0x0, 0x0, 0x0, 0x0, 0x1, 0x0, 0x0, 0x1⟩]

/-- The TIM registers. -/
def regsTIM : List RegClass := [
  ⟨0x1000, 1, 0x0, 1, 0x0, 0x0, 0xFFF, 0x0, 0x0, 0x0, 0xFFF, 0x1F⟩,
  ⟨0x1004, 1, 0x0, 1, 0x0, 0x0, 0x0, 0x3E0, 0x0, 0x1F, 0x1F, 0x3ED⟩,
  ⟨0x1008, 1, 0x0, 1, 0x0, 0x3E884, 0xFFFFFF, 0x0, 0x0, 0x0, 0xFFFFFF, 0x111⟩,
  ⟨0x100C, 1, 0x0, 1, 0x0, 0x30258, 0xFFFFFF, 0x0, 0x0, 0x0, 0xFFFFFF, 0x10001⟩,
  ⟨0x1010, 1, 0x0, 1, 0x0, 0x0, 0x0, 0x0, 0x0, 0xFFFFFFFF, 0x0, 0x1⟩,
  ⟨0x1014, 1, 0x0, 1, 0x0, 0x0, 0x0, 0x0, 0x0, 0xFFFFFFFF, 0xFFFFFFFF, 0x1⟩,
  ⟨0x1018, 1, 0x0, 1, 0x0, 0x0, 0x0, 0x0, 0x0, 0xFFFFFFFF, 0x0, 0x1⟩,
  ⟨0x101C, 1, 0x0, 1, 0x0, 0x0, 0x0, 0x0, 0x0, 0xFFFFFFFF, 0x0, 0x1⟩,
  ⟨0x1020, 1, 0x0, 1, 0x0, 0x0, 0x0, 0x0, 0x0, 0xFFFFFFFF, 0x0, 0x1⟩,
  ⟨0x1024, 1, 0x0, 1, 0x0, 0x0, 0x0, 0x0, 0x0, 0xFFFFFFFF, 0x0, 0x1⟩,
  ⟨0x1028, 1, 0x0, 1, 0x0, 0x0, 0x0, 0x0, 0x0, 0xFFFFFFFF, 0x0, 0x1⟩,
  ⟨0x102C, 1, 0x0, 1, 0x0, 0x0, 0x0, 0x0, 0x0, 0xFFFFFFFF, 0xFFFFFFFF, 0x1⟩,
  ⟨0x1030, 1, 0x0, 1, 0x0, 0xC8, 0x1FF, 0x0, 0x0, 0x0, 0x1FF, 0x1⟩,
  ⟨0x1034, 1, 0x0, 1, 0x0, 0x41087D0, 0xFFFFFFF, 0x0, 0x0, 0x0, 0xFFFFFFF, 0x1011001⟩,
  ⟨0x1038, 1, 0x0, 1, 0x0, 0x0, 0x0, 0x0, 0x0, 0xFFFFFFFF, 0x0, 0x1010001⟩,
  ⟨0x103C, 1, 0x0, 1, 0x0, 0x0, 0x0, 0x0, 0x0, 0xFFFFFFFF, 0x0, 0x1010101⟩,
  ⟨0x1040, 1, 0x0, 1, 0x0, 0x0, 0x0, 0x0, 0x0, 0xFFFF003F, 0x0, 0x10001⟩,
  ⟨0x1044, 1, 0x0, 1, 0x0, 0x0, 0x0, 0x0, 0x0, 0xFFFF07FF, 0x0, 0x10001⟩,
  ⟨0x1048, 1, 0x0, 1, 0x0, 0x0, 0x0, 0x0, 0x7, 0x0, 0x0, 0x7⟩,
  ⟨0x104C, 1, 0x0, 1, 0x0, 0x0, 0x0, 0x0, 0x0, 0xFFFF, 0xFFFF, 0x1⟩]

/-- The CHN registers. -/
def regsCHN : List RegClass := [
  ⟨0x2000, 4, 0x400, 1, 0x0, 0x2, 0x3F7, 0x0, 0x8, 0x0, 0x3F7, 0x1F⟩,
  ⟨0x2004, 4, 0x400, 1, 0x0, 0x0, 0x0, 0x0, 0x0, 0x1FFFF, 0x0, 0xF05⟩,
  ⟨0x2008, 4, 0x400, 1, 0x0, 0x0, 0x0, 0x0, 0x0, 0xFFFFFFFF, 0x0, 0x1⟩,
  ⟨0x200C, 4, 0x400, 1, 0x0, 0x0, 0x0, 0x0, 0x0, 0xFFFFFFFF, 0x0, 0x1⟩,
  ⟨0x2010, 4, 0x400, 1, 0x0, 0x0, 0x0, 0x0, 0x0, 0xFFFFFFFF, 0x0, 0x1⟩,
  ⟨0x2014, 4, 0x400, 1, 0x0, 0x14224, 0x3FFFF, 0x0, 0x0, 0x0, 0x3FFFF, 0x511⟩,
  ⟨0x2018, 4, 0x400, 1, 0x0, 0x347D8, 0x3FFFF, 0x0, 0x0, 0x0, 0x3FFFF, 0x1⟩,
  ⟨0x201C, 4, 0x400, 1, 0x0, 0x1E848, 0x3FFFF, 0x0, 0x0, 0x0, 0x3FFFF, 0x1⟩,
  ⟨0x2020, 4, 0x400, 1, 0x0, 0x0, 0x0, 0x0, 0x0, 0xFF, 0x0, 0x49⟩,
  ⟨0x2024, 4, 0x400, 1, 0x0, 0x0, 0x0, 0xFF, 0x0, 0x0, 0x0, 0xFF⟩,
  ⟨0x2028, 4, 0x400, 1, 0x0, 0x0, 0x0, 0x0, 0x0, 0xFFFFFFFF, 0x0, 0x10001⟩,
  ⟨0x202C, 4, 0x400, 1, 0x0, 0x0, 0x0, 0x0, 0x1, 0x0, 0x0, 0x1⟩,
  ⟨0x2100, 4, 0x400, 32, 0x4, 0x0, 0x0, 0x0, 0x0, 0xFFFFFF3F, 0x0, 0x10139⟩]

/-- The TIL registers. -/
def regsTIL : List RegClass := [
  ⟨0x3000, 1, 0x0, 1, 0x0, 0x443, 0x7FF, 0x0, 0x0, 0x0, 0x7FF, 0x405⟩,
  ⟨0x3004, 1, 0x0, 1, 0x0, 0x40, 0x0, 0x0, 0x0, 0x1FF, 0x7C, 0x87⟩,
  ⟨0x3008, 1, 0x0, 1, 0x0, 0x0, 0x0, 0x0, 0x0, 0xFFF, 0x0, 0x111⟩,
  ⟨0x300C, 1, 0x0, 1, 0x0, 0x0, 0x0, 0xFF, 0x0, 0x0, 0x0, 0xFF⟩,
  ⟨0x3010, 1, 0x0, 1, 0x0, 0x0, 0x0, 0x0, 0x0, 0x3FFFFFF, 0x0, 0x801101⟩,
  ⟨0x3014, 1, 0x0, 1, 0x0, 0x0, 0x0, 0x0, 0x0, 0xFFFFFFFF, 0x0, 0x1⟩,
  ⟨0x3018, 1, 0x0, 1, 0x0, 0x0, 0x0, 0x0, 0x0, 0xFFFFFFFF, 0x0, 0x10001⟩,
  ⟨0x301C, 1, 0x0, 1, 0x0, 0x0, 0x0, 0x0, 0x0, 0xFFFFFFFF, 0x0, 0x10001⟩,
  ⟨0x3020, 1, 0x0, 1, 0x0, 0x0, 0x0, 0x0, 0x0, 0xFFFFFFFF, 0x0, 0x1⟩,
  ⟨0x3024, 1, 0x0, 1, 0x0, 0x0, 0x0, 0x0, 0x0, 0xFFFFFFFF, 0x0, 0x1⟩,
  ⟨0x3028, 1, 0x0, 1, 0x0, 0x0, 0x0, 0x0, 0x3, 0x0, 0x0, 0x3⟩,
  ⟨0x3040, 8, 0x4, 1, 0x0, 0x1800, 0x0, 0x0, 0x0, 0xFFFF1FFF, 0x0, 0x10801⟩,
  ⟨0x3100, 256, 0x4, 1, 0x0, 0x0, 0x0, 0x0, 0x0, 0x7FF, 0x1FF, 0x201⟩,
  ⟨0x3500, 9, 0x4, 1, 0x0, 0x0, 0x0, 0x0, 0x0, 0xFFFFFFFF, 0xFFFFFFFF, 0x1⟩,
  ⟨0x3F00, 1, 0x0, 1, 0x0, 0x0, 0x0, 0xFFFFF, 0x0, 0x0, 0x0, 0x11111⟩,
  ⟨0x3F04, 1, 0x0, 1, 0x0, 0x0, 0x0, 0x0, 0x0, 0xFFFFFFFF, 0x0, 0x10001⟩,
  ⟨0x3F08, 1, 0x0, 1, 0x0, 0x0, 0x0, 0x0, 0x0, 0xFFFFFFFF, 0x0, 0x10001⟩,
  ⟨0x3F0C, 1, 0x0, 1, 0x0, 0x0, 0x0, 0x0, 0x0, 0xFFFFFFFF, 0x0, 0x1⟩,
  ⟨0x3F10, 1, 0x0, 1, 0x0, 0x0, 0x0, 0x0, 0x1, 0x0, 0x0, 0x1⟩]

/-- The EST registers. -/
def regsEST : List RegClass := [
  ⟨0x4000, 1, 0x0, 1, 0x0, 0x3C, 0x3F, 0x0, 0x0, 0x0, 0x3F, 0x3F⟩,
  ⟨0x4004, 1, 0x0, 1, 0x0, 0x0, 0x0, 0x0, 0x0, 0x1FFFF, 0x0, 0x1FF55⟩,
  ⟨0x4008, 1, 0x0, 1, 0x0, 0x0, 0x0, 0x1FF, 0x0, 0x0, 0x0, 0x1FF⟩,
  ⟨0x400C, 1, 0x0, 1, 0x0, 0x0, 0x0, 0x0, 0x1, 0x0, 0x0, 0x1⟩,
  ⟨0x4010, 1, 0x0, 1, 0x0, 0x0, 0xFFFFFFFF, 0x0, 0x0, 0x0, 0xFFFFFFFF, 0x41⟩,
  ⟨0x4014, 1, 0x0, 1, 0x0, 0x0, 0xFFFFFFFF, 0x0, 0x0, 0x0, 0xFFFFFFFF, 0x1⟩,
  ⟨0x4018, 1, 0x0, 1, 0x0, 0x0, 0xFFFFFFFF, 0x0, 0x0, 0x0, 0xFFFFFFFF, 0x41⟩,
  ⟨0x401C, 1, 0x0, 1, 0x0, 0x0, 0xFFFFFFFF, 0x0, 0x0, 0x0, 0xFFFFFFFF, 0x1⟩,
  ⟨0x4020, 1, 0x0, 1, 0x0, 0x0, 0x0, 0x0, 0x0, 0xFFFFFFFF, 0x0, 0x1⟩,
  ⟨0x4024, 1, 0x0, 1, 0x0, 0x14102, 0xFFFFF, 0x0, 0x0, 0x0, 0xFFFFF, 0x1011⟩,
  ⟨0x4028, 1, 0x0, 1, 0x0, 0x66012C, 0xFFFFFFF, 0x0, 0x0, 0x0, 0xFFFFFFF, 0x40401⟩,
  ⟨0x402C, 1, 0x0, 1, 0x0, 0x28280A, 0xFFFFFF, 0x0, 0x0, 0x0, 0xFFFFFF, 0x10101⟩,
  ⟨0x4030, 1, 0x0, 1, 0x0, 0xA81E1420, 0xFFFFFFFF, 0x0, 0x0, 0x0, 0xFFFFFFFF, 0x1010101⟩,
  ⟨0x4034, 1, 0x0, 1, 0x0, 0xA4D1020, 0xFFFFFFFF, 0x0, 0x0, 0x0, 0xFFFFFFFF, 0x1010101⟩,
  ⟨0x4038, 1, 0x0, 1, 0x0, 0x418, 0xFFF, 0x0, 0x0, 0x0, 0xFFF, 0x101⟩,
  ⟨0x403C, 1, 0x0, 1, 0x0, 0x3E80A, 0xFFFFF, 0x0, 0x0, 0x0, 0xFFFFF, 0x101⟩,
  ⟨0x4040, 1, 0x0, 1, 0x0, 0x0, 0x0, 0x0, 0x0, 0xFFFFFFFF, 0xFFFFFFFF, 0x1010101⟩,
  ⟨0x4050, 4, 0x4, 1, 0x0, 0x0, 0x0, 0x0, 0x0, 0xFFFFFFFF, 0x0, 0x10001⟩]

/-- The IMP registers. -/
def regsIMP : List RegClass := [
  ⟨0x5000, 1, 0x0, 1, 0x0, 0x0, 0x1F, 0x0, 0x0, 0x0, 0x1F, 0x11⟩,
  ⟨0x5004, 1, 0x0, 1, 0x0, 0x0, 0x0, 0x0, 0x0, 0x1FFFF, 0x0, 0x1FF55⟩,
  ⟨0x5008, 1, 0x0, 1, 0x0, 0x0, 0x0, 0xFF, 0x0, 0x0, 0x0, 0xFF⟩,
  ⟨0x500C, 1, 0x0, 1, 0x0, 0x0, 0x0, 0x0, 0x1, 0x0, 0x0, 0x1⟩,
  ⟨0x5010, 4, 0x4, 1, 0x0, 0x0, 0x0, 0x0, 0x0, 0xFFFFFFFF, 0xFFFFFFFF, 0x1⟩,
  ⟨0x5020, 1, 0x0, 1, 0x0, 0x0, 0x0, 0x0, 0x0, 0x7F7F7F7F, 0x0, 0x1010101⟩,
  ⟨0x5024, 1, 0x0, 1, 0x0, 0x214A8, 0xFFFFF, 0x0, 0x0, 0x0, 0xFFFFF, 0x10111⟩,
  ⟨0x5028, 1, 0x0, 1, 0x0, 0x10340, 0xFFFFFF, 0x0, 0x0, 0x0, 0xFFFFFF, 0x1101⟩,
  ⟨0x5030, 1, 0x0, 1, 0x0, 0x0, 0xFFFFFFFF, 0x0, 0x0, 0x0, 0xFFFFFFFF, 0x41⟩,
  ⟨0x5034, 1, 0x0, 1, 0x0, 0x0, 0xFFFFFFFF, 0x0, 0x0, 0x0, 0xFFFFFFFF, 0x1⟩,
  ⟨0x5038, 1, 0x0, 1, 0x0, 0x0, 0xFFFFFFFF, 0x0, 0x0, 0x0, 0xFFFFFFFF, 0x41⟩,
  ⟨0x503C, 1, 0x0, 1, 0x0, 0x0, 0xFFFFFFFF, 0x0, 0x0, 0x0, 0xFFFFFFFF, 0x1⟩,
  ⟨0x5040, 1, 0x0, 1, 0x0, 0x0, 0x0, 0x0, 0x0, 0xFFFFFFFF, 0x0, 0x1⟩,
  ⟨0x5044, 1, 0x0, 1, 0x0, 0x0, 0x0, 0x0, 0x0, 0xFFFFFFFF, 0x0, 0x10001⟩,
  ⟨0x5048, 1, 0x0, 1, 0x0, 0x0, 0x0, 0x0, 0x0, 0xFFFFFFFF, 0x0, 0x10001⟩,
  ⟨0x504C, 1, 0x0, 1, 0x0, 0x0, 0x0, 0x0, 0x0, 0xFFFFFFFF, 0x0, 0x10001⟩,
  ⟨0x5050, 1, 0x0, 1, 0x0, 0x0, 0x0, 0x0, 0x0, 0xFFFFFFFF, 0x0, 0x10001⟩,
  ⟨0x5100, 4, 0x40, 8, 0x8, 0x0, 0x0, 0x0, 0x0, 0xFFFFFFFF, 0xFFFFFFFF, 0x1⟩,
  ⟨0x5104, 4, 0x40, 8, 0x8, 0x0, 0x0, 0x0, 0x0, 0x3FFFF, 0x3FFFF, 0x21001⟩]

/-- The CNV registers. -/
def regsCNV : List RegClass := [
  ⟨0x6000, 1, 0x0, 1, 0x0, 0x0, 0xF, 0x0, 0x0, 0x0, 0xF, 0xF⟩,
  ⟨0x6004, 1, 0x0, 1, 0x0, 0x0, 0x0, 0x0, 0x0, 0x7F7F7F7F, 0x0, 0x29292929⟩,
  ⟨0x6008, 1, 0x0, 1, 0x0, 0x0, 0x0, 0x0, 0x0, 0xFFFF, 0x0, 0x1111⟩,
  ⟨0x600C, 1, 0x0, 1, 0x0, 0x0, 0xF, 0x0, 0x0, 0x0, 0xF, 0xF⟩,
  ⟨0x6010, 1, 0x0, 1, 0x0, 0x0, 0x0, 0x0, 0x1, 0x0, 0x0, 0x1⟩,
  ⟨0x6100, 4, 0x100, 1, 0x0, 0x32191, 0x7FFFF, 0x0, 0x0, 0x0, 0x7FFFF, 0x809⟩,
  ⟨0x6104, 4, 0x100, 1, 0x0, 0x3432064, 0x3FFFFFFF, 0x0, 0x0, 0x0, 0x3FFFFFFF, 0x400801⟩,
  ⟨0x6108, 4, 0x100, 1, 0x0, 0xC814190F, 0xFFFFFFFF, 0x0, 0x0, 0x0, 0xFFFFFFFF, 0x1010101⟩,
  ⟨0x610C, 4, 0x100, 1, 0x0, 0x20A148, 0xFFFFFF, 0x0, 0x0, 0x0, 0xFFFFFF, 0x101011⟩,
  ⟨0x6110, 4, 0x100, 1, 0x0, 0x0, 0x3FFFF, 0x0, 0x0, 0x0, 0x3FFFF, 0x1⟩,
  ⟨0x6114, 4, 0x100, 1, 0x0, 0xC81400, 0x3FFFFFF, 0x0, 0x0, 0x0, 0x3FFFFFF, 0x40001⟩,
  ⟨0x6118, 4, 0x100, 1, 0x0, 0x19007D0, 0xFFFFFFFF, 0x0, 0x0, 0x0, 0xFFFFFFFF, 0x40001⟩,
  ⟨0x611C, 4, 0x100, 1, 0x0, 0x9614, 0xFFFFFF, 0x0, 0x0, 0x0, 0xFFFFFF, 0x101⟩,
  ⟨0x6120, 4, 0x100, 1, 0x0, 0x3E801F4, 0xFFFFFFFF, 0x0, 0x0, 0x0, 0xFFFFFFFF, 0x10001⟩,
  ⟨0x6124, 4, 0x100, 1, 0x0, 0xA, 0xFFFFFFFF, 0x0, 0x0, 0x0, 0xFFFFFFFF, 0x10001⟩,
  ⟨0x6128, 4, 0x100, 1, 0x0, 0xA14, 0xFFFF, 0x0, 0x0, 0x0, 0xFFFF, 0x101⟩,
  ⟨0x612C, 4, 0x100, 1, 0x0, 0x12840514, 0x3FFFFFFF, 0x0, 0x0, 0x0, 0x3FFFFFFF, 0x10110101⟩,
  ⟨0x6130, 4, 0x100, 1, 0x0, 0x0, 0x0, 0x1FFF, 0x0, 0x0, 0x0, 0x1FFF⟩,
  ⟨0x6134, 4, 0x100, 1, 0x0, 0x0, 0x0, 0x0, 0x0, 0x3FFFF, 0x0, 0x1⟩,
  ⟨0x6138, 4, 0x100, 1, 0x0, 0x0, 0x0, 0x0, 0x0, 0x3FFFF, 0x0, 0x1⟩,
  ⟨0x613C, 4, 0x100, 1, 0x0, 0x0, 0x0, 0x0, 0x0, 0x3FFFF, 0x0, 0x1⟩,
  ⟨0x6140, 4, 0x100, 1, 0x0, 0x0, 0x0, 0x0, 0x0, 0x3FFFF, 0x0, 0x1⟩,
  ⟨0x6144, 4, 0x100, 1, 0x0, 0x0, 0x0, 0x0, 0x0, 0x3FFFF, 0x0, 0x1⟩,
  ⟨0x6148, 4, 0x100, 1, 0x0, 0x0, 0x0, 0x0, 0x0, 0xFFFF, 0x0, 0x101⟩,
  ⟨0x614C, 4, 0x100, 1, 0x0, 0x0, 0x0, 0x0, 0x0, 0xFFFFFFFF, 0x0, 0x10001⟩,
  ⟨0x6500, 36, 0x8, 1, 0x0, 0x20000, 0x3FFFF, 0x0, 0x0, 0x0, 0x3FFFF, 0x1⟩,
  ⟨0x6504, 36, 0x8, 1, 0x0, 0x0, 0x3FFFF, 0x0, 0x0, 0x0, 0x3FFFF, 0x1⟩]

/-- The DSP registers. -/
def regsDSP : List RegClass := [
  ⟨0x7000, 1, 0x0, 1, 0x0, 0x7E, 0x7F, 0x0, 0x0, 0x0, 0x7F, 0xF⟩,
  ⟨0x7004, 1, 0x0, 1, 0x0, 0x0, 0x0, 0x0, 0x0, 0x7FFFFF, 0x400000, 0x402011⟩,
  ⟨0x7008, 1, 0x0, 1, 0x0, 0x0, 0x0, 0xFF, 0x0, 0x0, 0x0, 0xFF⟩,
  ⟨0x700C, 1, 0x0, 1, 0x0, 0x0, 0xFFFFFFFF, 0x0, 0x0, 0x0, 0xFFFFFFFF, 0x10001⟩,
  ⟨0x7010, 1, 0x0, 1, 0x0, 0x0, 0xFFFFFFFF, 0x0, 0x0, 0x0, 0xFFFFFFFF, 0x10001⟩,
  ⟨0x7014, 1, 0x0, 1, 0x0, 0x384, 0xFFFFFFF, 0x0, 0x0, 0x0, 0xFFFFFFF, 0x1001⟩,
  ⟨0x7018, 1, 0x0, 1, 0x0, 0x0, 0x0, 0x0, 0x0, 0xFFFFFFFF, 0x0, 0x1010101⟩,
  ⟨0x701C, 1, 0x0, 1, 0x0, 0x0, 0x0, 0x0, 0x1, 0x0, 0x0, 0x1⟩,
  ⟨0x7020, 1, 0x0, 1, 0x0, 0x0, 0x0, 0x0, 0x0, 0xFFFFFFFF, 0x0, 0x1⟩,
  ⟨0x7024, 1, 0x0, 1, 0x0, 0x0, 0x0, 0x0, 0x0, 0xFFFFFFFF, 0x0, 0x1⟩,
  ⟨0x7040, 1, 0x0, 1, 0x0, 0x0, 0x0, 0x0, 0x0, 0xFFFFFFFF, 0x0, 0x1⟩,
  ⟨0x7044, 1, 0x0, 1, 0x0, 0x0, 0x0, 0x0, 0x0, 0xFFFFFFFF, 0x0, 0x1⟩,
  ⟨0x7048, 1, 0x0, 1, 0x0, 0x0, 0x0, 0x0, 0x0, 0xFFFFFFFF, 0x0, 0x1⟩,
  ⟨0x704C, 1, 0x0, 1, 0x0, 0x0, 0x0, 0x0, 0x0, 0xFFFFFFFF, 0x0, 0x1⟩,
  ⟨0x7080, 4, 0x20, 8, 0x4, 0x0, 0x0, 0x0, 0x0, 0xFFFFFFFF, 0x0, 0x1⟩]

/-- The SAF registers. -/
def regsSAF : List RegClass := [
  ⟨0x8000, 1, 0x0, 1, 0x0, 0x0, 0x0, 0x0, 0x0, 0x1F, 0x1F, 0x1F⟩,
  ⟨0x8004, 1, 0x0, 1, 0x0, 0x0, 0x0, 0x7F, 0x0, 0x0, 0x7F, 0x7F⟩,
  ⟨0x8008, 1, 0x0, 1, 0x0, 0xC64, 0xFFFF, 0x0, 0x0, 0x0, 0xFFFF, 0x4401⟩,
  ⟨0x800C, 1, 0x0, 1, 0x0, 0x6415A32, 0xFFFFFFFF, 0x0, 0x0, 0x0, 0xFFFFFFFF, 0x104101⟩,
  ⟨0x8010, 1, 0x0, 1, 0x0, 0x152C0514, 0xFFFFFFFF, 0x0, 0x0, 0x0, 0xFFFFFFFF, 0x4010101⟩,
  ⟨0x8014, 1, 0x0, 1, 0x0, 0x1F414, 0x1FFFFF, 0x0, 0x0, 0x0, 0x1FFFFF, 0x101⟩,
  ⟨0x8018, 1, 0x0, 1, 0x0, 0x0, 0x0, 0x0, 0x0, 0xFFFFF, 0xFFFFF, 0x1⟩,
  ⟨0x801C, 1, 0x0, 1, 0x0, 0x0, 0x0, 0x0, 0x0, 0xFFFFFFFF, 0xFFFFFFFF, 0x10001⟩,
  ⟨0x8020, 1, 0x0, 1, 0x0, 0x0, 0x0, 0x0, 0x3, 0x0, 0x0, 0x3⟩,
  ⟨0x8100, 4, 0x20, 1, 0x0, 0x0, 0x0, 0x0, 0x0, 0xFF, 0xFF, 0xC9⟩,
  ⟨0x8104, 4, 0x20, 1, 0x0, 0x0, 0x0, 0x0, 0x0, 0x7FF, 0x7FF, 0x1⟩,
  ⟨0x8108, 4, 0x20, 1, 0x0, 0xDF43E8, 0x1FFFFFF, 0x0, 0x0, 0x0, 0x1FFFFFF, 0x400801⟩,
  ⟨0x810C, 4, 0x20, 1, 0x0, 0x0, 0x0, 0x0, 0x0, 0xFFFFFF, 0xFFFFFF, 0x1001⟩,
  ⟨0x8110, 4, 0x20, 1, 0x0, 0x0, 0x0, 0x0, 0x0, 0xFFFFFFFF, 0xFFFFFFFF, 0x10001⟩]

/-- The THM registers. -/
def regsTHM : List RegClass := [
  ⟨0x9000, 1, 0x0, 1, 0x0, 0x0, 0x0, 0x0, 0x0, 0xFFFFFFFF, 0x0, 0x200555⟩,
  ⟨0x9004, 1, 0x0, 1, 0x0, 0x0, 0x0, 0x1F, 0x0, 0x0, 0x8, 0x1F⟩,
  ⟨0x9008, 1, 0x0, 1, 0x0, 0x2552D, 0xFFFFF, 0x0, 0x0, 0x0, 0xFFFFF, 0x11101⟩,
  ⟨0x900C, 1, 0x0, 1, 0x0, 0x3555F, 0xFFFFF, 0x0, 0x0, 0x0, 0xFFFFF, 0x11101⟩,
  ⟨0x9010, 1, 0x0, 1, 0x0, 0x3554B, 0xFFFFF, 0x0, 0x0, 0x0, 0xFFFFF, 0x11101⟩,
  ⟨0x9014, 1, 0x0, 1, 0x0, 0x23523, 0xFFFFF, 0x0, 0x0, 0x0, 0xFFFFF, 0x11101⟩,
  ⟨0x9018, 1, 0x0, 1, 0x0, 0x3061030, 0xFFFFFFFF, 0x0, 0x0, 0x0, 0xFFFFFFFF, 0x1010101⟩,
  ⟨0x9030, 4, 0x8, 1, 0x0, 0x0, 0x0, 0x0, 0x0, 0xFFFFFFF, 0x0, 0xC040001⟩,
  ⟨0x9034, 4, 0x8, 1, 0x0, 0x0, 0x0, 0x0, 0x0, 0x3FFFF, 0x0, 0x1⟩,
  ⟨0x9050, 16, 0x4, 1, 0x0, 0x50000, 0x7FFFFF, 0x0, 0x0, 0x0, 0x7FFFFF, 0xC101⟩,
  ⟨0x90A0, 4, 0x4, 1, 0x0, 0x0, 0x3FFFF, 0x0, 0x0, 0x0, 0x3FFFF, 0x5⟩,
  ⟨0x90B0, 4, 0x4, 1, 0x0, 0x0, 0x0, 0x0, 0x0, 0x3FFFF, 0x3FFFF, 0x10001⟩]

/-- The HST registers. -/
def regsHST : List RegClass := [
  ⟨0xA000, 1, 0x0, 1, 0x0, 0x0, 0x1, 0x0, 0x0, 0x0, 0x0, 0x1⟩,
  ⟨0xA004, 1, 0x0, 1, 0x0, 0x0, 0x0, 0x0, 0x0, 0xF, 0x0, 0xF⟩,
  ⟨0xA008, 1, 0x0, 1, 0x0, 0x0, 0x0, 0x7FF, 0x0, 0x0, 0x0, 0x7FF⟩,
  ⟨0xA00C, 1, 0x0, 1, 0x0, 0x0, 0xFFFFFFFF, 0x0, 0x0, 0x0, 0x0, 0x1001⟩,
  ⟨0xA010, 1, 0x0, 1, 0x0, 0x0, 0xFFFFFFFF, 0x0, 0x0, 0x0, 0x0, 0x1⟩,
  ⟨0xA014, 1, 0x0, 1, 0x0, 0x0, 0xFFFFFFFF, 0x0, 0x0, 0x0, 0x0, 0x1001⟩,
  ⟨0xA018, 1, 0x0, 1, 0x0, 0x0, 0xFFFFFFFF, 0x0, 0x0, 0x0, 0x0, 0x1⟩,
  ⟨0xA01C, 1, 0x0, 1, 0x0, 0xC6, 0x3FF, 0x0, 0x0, 0x0, 0x0, 0x21⟩,
  ⟨0xA020, 1, 0x0, 1, 0x0, 0x0, 0x0, 0x0, 0x0, 0xFFFF, 0x0, 0x1⟩,
  ⟨0xA024, 1, 0x0, 1, 0x0, 0x0, 0x0, 0x0, 0x0, 0x1FFFFF, 0x0, 0x10001⟩,
  ⟨0xA028, 4, 0x4, 1, 0x0, 0x0, 0x0, 0x0, 0x0, 0xFFFFFFFF, 0x0, 0x1010101⟩,
  ⟨0xA038, 1, 0x0, 1, 0x0, 0x0, 0x0, 0x0, 0x0, 0x3FFFFFFF, 0x0, 0x20001⟩,
  ⟨0xA03C, 1, 0x0, 1, 0x0, 0x6978, 0x1FFFF, 0x0, 0x0, 0x0, 0x1FFFF, 0x10001⟩,
  ⟨0xA040, 1, 0x0, 1, 0x0, 0x0, 0x0, 0x0, 0x0, 0xFFFF01FF, 0x0, 0x10001⟩,
  ⟨0xA044, 1, 0x0, 1, 0x0, 0x5, 0xFF07, 0x0, 0x0, 0x0, 0x0, 0x101⟩,
  ⟨0xA048, 1, 0x0, 1, 0x0, 0x0, 0x0, 0x0, 0x3, 0x0, 0x0, 0x3⟩,
  ⟨0xA04C, 1, 0x0, 1, 0x0, 0x0, 0x0, 0x0, 0x0, 0xFFFF, 0x0, 0x1⟩,
  ⟨0xA080, 16, 0x4, 1, 0x0, 0x0, 0x0, 0xFFFFFFFF, 0x0, 0x0, 0x0, 0x1⟩,
  ⟨0xA100, 64, 0x4, 1, 0x0, 0x0, 0x0, 0x0, 0x0, 0xFFFFFFFF, 0x0, 0x5001001⟩,
  ⟨0xA200, 64, 0x4, 1, 0x0, 0x0, 0x0, 0x0, 0x0, 0x7FFFF, 0x0, 0x70001⟩,
  ⟨0xA800, 512, 0x4, 1, 0x0, 0x0, 0x7F, 0x0, 0x0, 0x0, 0x0, 0x41⟩]

/-- The LAN registers. -/
def regsLAN : List RegClass := [
  ⟨0xB000, 1, 0x0, 1, 0x0, 0xD2F2, 0x1FFFF, 0x0, 0x0, 0x0, 0x1FFFF, 0x3⟩,
  ⟨0xB004, 1, 0x0, 1, 0x0, 0x12, 0x0, 0x0, 0x0, 0x7FFFFF, 0x0, 0x482093⟩,
  ⟨0xB008, 1, 0x0, 1, 0x0, 0x0, 0x0, 0xFF, 0x0, 0x0, 0x20, 0xFF⟩,
  ⟨0xB00C, 1, 0x0, 1, 0x0, 0x203E833, 0x7FFFFFF, 0x0, 0x0, 0x0, 0x7FFFFFF, 0x1000111⟩,
  ⟨0xB010, 1, 0x0, 1, 0x0, 0x0, 0x0, 0x0, 0x0, 0xFFFFFFFF, 0x0, 0x10001⟩,
  ⟨0xB014, 1, 0x0, 1, 0x0, 0x0, 0x0, 0x0, 0x1, 0x0, 0x0, 0x1⟩,
  ⟨0xB018, 1, 0x0, 1, 0x0, 0x8, 0x0, 0x0, 0x0, 0x3FF, 0x3FF, 0x293⟩,
  ⟨0xB01C, 1, 0x0, 1, 0x0, 0x0, 0x0, 0x0, 0x0, 0xFFFFFFF, 0xFFFFFFF, 0x4001⟩,
  ⟨0xB020, 1, 0x0, 1, 0x0, 0x0, 0x0, 0x0, 0x0, 0xFFFFFFFF, 0xFFFFFFFF, 0x1⟩,
  ⟨0xB024, 1, 0x0, 1, 0x0, 0x0, 0x0, 0x0, 0x0, 0xFFFFFFFF, 0xFFFFFFFF, 0x1⟩,
  ⟨0xB028, 1, 0x0, 1, 0x0, 0x3020304, 0x0, 0x0, 0x0, 0xFFFFFFFF, 0xFFFFFFFF, 0x1⟩,
  ⟨0xB02C, 1, 0x0, 1, 0x0, 0x30201, 0x0, 0x0, 0x0, 0xFFFFFFF, 0xFFFFFFF, 0x1000001⟩]

/-- The REC registers. -/
def regsREC : List RegClass := [
  ⟨0xC000, 1, 0x0, 1, 0x0, 0x2004B0, 0x1FFFFFF, 0x0, 0x0, 0x0, 0x1FFFFFF, 0x20003⟩,
  ⟨0xC004, 1, 0x0, 1, 0x0, 0x0, 0x0, 0x0, 0x0, 0x3FFFF, 0x1FF2, 0x201F⟩,
  ⟨0xC008, 1, 0x0, 1, 0x0, 0x0, 0x0, 0xFF, 0x0, 0x0, 0x3F, 0xFF⟩,
  ⟨0xC00C, 1, 0x0, 1, 0x0, 0x0, 0x0, 0x0, 0x3, 0x0, 0x0, 0x3⟩,
  ⟨0xC010, 1, 0x0, 1, 0x0, 0x0, 0x0, 0x0, 0x0, 0xFFFFFFFF, 0xFFFFFFFF, 0x1⟩,
  ⟨0xC014, 1, 0x0, 1, 0x0, 0x0, 0x0, 0x0, 0x0, 0xFFFFFFFF, 0xFFFFFFFF, 0x1⟩,
  ⟨0xC018, 4, 0x4, 1, 0x0, 0x0, 0x0, 0x0, 0x0, 0xFFFFFFFF, 0xFFFFFFFF, 0x10001⟩,
  ⟨0xC028, 1, 0x0, 1, 0x0, 0x0, 0x0, 0x0, 0x0, 0xFFFF3FFF, 0xFFFF3FFF, 0x10001⟩,
  ⟨0xC030, 1, 0x0, 1, 0x0, 0x0, 0xFFFFFFFF, 0x0, 0x0, 0x0, 0xFFFFFFFF, 0x41⟩,
  ⟨0xC034, 1, 0x0, 1, 0x0, 0x0, 0xFFFFFFFF, 0x0, 0x0, 0x0, 0xFFFFFFFF, 0x1⟩,
  ⟨0xC038, 1, 0x0, 1, 0x0, 0x18, 0x3F, 0x0, 0x0, 0x0, 0x3F, 0x1⟩,
  ⟨0xC03C, 1, 0x0, 1, 0x0, 0x0, 0xFFFFFFFF, 0x0, 0x0, 0x0, 0x0, 0x1⟩,
  ⟨0xC040, 1, 0x0, 1, 0x0, 0x0, 0x0, 0x0, 0x0, 0xFFFFFFFF, 0x0, 0x1⟩,
  ⟨0xC044, 1, 0x0, 1, 0x0, 0x0, 0x0, 0x0, 0x0, 0xFFFFFFFF, 0x0, 0x1⟩,
  ⟨0xC048, 1, 0x0, 1, 0x0, 0x0, 0xFFFFFFFF, 0x0, 0x0, 0x0, 0xFFFFFFFF, 0x41⟩,
  ⟨0xC04C, 1, 0x0, 1, 0x0, 0x0, 0xFFFFFFFF, 0x0, 0x0, 0x0, 0xFFFFFFFF, 0x1⟩,
  ⟨0xC050, 1, 0x0, 1, 0x0, 0x0, 0xFFFFFFFF, 0x0, 0x0, 0x0, 0xFFFFFFFF, 0x41⟩,
  ⟨0xC054, 1, 0x0, 1, 0x0, 0x0, 0xFFFFFFFF, 0x0, 0x0, 0x0, 0xFFFFFFFF, 0x1⟩,
  ⟨0xC058, 1, 0x0, 1, 0x0, 0x0, 0x0, 0x0, 0x0, 0xFFFFFFFF, 0x0, 0x1⟩,
  ⟨0xC05C, 1, 0x0, 1, 0x0, 0x0, 0x7FFF, 0x0, 0x0, 0x0, 0x0, 0x1⟩,
  ⟨0xC060, 8, 0x4, 1, 0x0, 0x0, 0x0, 0x0, 0x0, 0xFFFFFFFF, 0x0, 0x1⟩,
  ⟨0xC080, 1, 0x0, 1, 0x0, 0x0, 0x0, 0x0, 0x0, 0xFFFF, 0x0, 0x1⟩,
  ⟨0xC100, 8, 0x4, 1, 0x0, 0x0, 0x0, 0x0, 0x0, 0xFFFFFFFF, 0xFFFFFFFF, 0x1⟩,
  ⟨0xC200, 16, 0x20, 8, 0x4, 0x0, 0x0, 0x0, 0x0, 0xFFFFFFFF, 0x0, 0x1⟩]

/-- The FIO registers. -/
def regsFIO : List RegClass := [
  ⟨0xD000, 1, 0x0, 1, 0x0, 0x0, 0x0, 0x0, 0x0, 0xF, 0x0, 0xF⟩,
  ⟨0xD004, 1, 0x0, 1, 0x0, 0x0, 0x0, 0x7F, 0x0, 0x0, 0x20, 0x7F⟩,
  ⟨0xD008, 1, 0x0, 1, 0x0, 0x0, 0x0, 0x0, 0x0, 0xFFFFFFFF, 0x0, 0x10001⟩,
  ⟨0xD00C, 1, 0x0, 1, 0x0, 0x0, 0x0, 0xFFFF, 0x0, 0x0, 0x0, 0x1⟩,
  ⟨0xD010, 1, 0x0, 1, 0x0, 0x0, 0x0, 0x0, 0x0, 0xFFFF01FF, 0x0, 0x10001⟩,
  ⟨0xD014, 1, 0x0, 1, 0x0, 0x0, 0x0, 0x0, 0x0, 0xFFFFFF, 0xFF, 0x10101⟩,
  ⟨0xD018, 1, 0x0, 1, 0x0, 0x80000, 0xFFFFFF, 0x0, 0x0, 0x0, 0xFFFFFF, 0x10001⟩,
  ⟨0xD01C, 1, 0x0, 1, 0x0, 0x0, 0x0, 0x0, 0x1, 0x0, 0x0, 0x1⟩,
  ⟨0xD040, 16, 0x4, 1, 0x0, 0x3C, 0xFFF, 0x0, 0x0, 0x0, 0xFFF, 0xE03⟩]

/-- The CAN registers. -/
def regsCAN : List RegClass := [
  ⟨0xE000, 1, 0x0, 1, 0x0, 0x0, 0x0, 0x0, 0x0, 0xFFFFFFFF, 0x0, 0x1⟩,
  ⟨0xE004, 1, 0x0, 1, 0x0, 0x0, 0x0, 0x0, 0x0, 0xFFFFFFFF, 0x0, 0x1⟩,
  ⟨0xE008, 1, 0x0, 1, 0x0, 0x0, 0x0, 0x0, 0x0, 0xFFFFFFFF, 0x0, 0x1⟩,
  ⟨0xE00C, 1, 0x0, 1, 0x0, 0x0, 0x0, 0x0, 0x0, 0xFFFFFFFF, 0x0, 0x1⟩,
  ⟨0xE010, 1, 0x0, 1, 0x0, 0x0, 0x0, 0x0, 0x0, 0xFFFFFFFF, 0x0, 0x1⟩,
  ⟨0xE100, 2, 0x100, 1, 0x0, 0x3210, 0x7FFF, 0x0, 0x0, 0x0, 0x7FFF, 0xBB⟩,
  ⟨0xE104, 2, 0x100, 1, 0x0, 0x10207E01, 0x7FFFFFFF, 0x0, 0x0, 0x0, 0x7FFFFFFF, 0x1020201⟩,
  ⟨0xE108, 2, 0x100, 1, 0x0, 0x27AABA0, 0x3FFFFFF, 0x0, 0x0, 0x0, 0x3FFFFFF, 0x2044421⟩,
  ⟨0xE10C, 2, 0x100, 1, 0x0, 0x0, 0x0, 0x0, 0x0, 0x7FFFF, 0x0, 0x809⟩,
  ⟨0xE110, 2, 0x100, 1, 0x0, 0x0, 0x0, 0x7F, 0x0, 0x0, 0x0, 0x7F⟩,
  ⟨0xE114, 2, 0x100, 1, 0x0, 0x0, 0x3FFFFFFF, 0x0, 0x0, 0x0, 0x3FFFFFFF, 0x1⟩,
  ⟨0xE118, 2, 0x100, 1, 0x0, 0x0, 0x1FFFFFFF, 0x0, 0x0, 0x0, 0x1FFFFFFF, 0x1⟩,
  ⟨0xE11C, 2, 0x100, 1, 0x0, 0x0, 0x0, 0x0, 0x0, 0xFFFFFFFF, 0x0, 0x10001⟩,
  ⟨0xE120, 2, 0x100, 1, 0x0, 0x0, 0x0, 0x0, 0x1, 0x0, 0x0, 0x1⟩,
  ⟨0xE300, 1, 0x0, 1, 0x0, 0x0, 0xFF, 0x0, 0x0, 0x0, 0x0, 0x1⟩,
  ⟨0xE304, 1, 0x0, 1, 0x0, 0x0, 0x0, 0x3, 0x0, 0x3FFFC, 0x0, 0x407⟩,
  ⟨0xE308, 1, 0x0, 1, 0x0, 0x0, 0x0, 0x0, 0x0, 0x3FFFFFFF, 0x0, 0x1⟩,
  ⟨0xE30C, 1, 0x0, 1, 0x0, 0x0, 0x0, 0x0, 0x0, 0xFFFFFFFF, 0x0, 0x1⟩,
  ⟨0xE310, 16, 0x4, 1, 0x0, 0x0, 0x0, 0x0, 0x0, 0xFFFFFFFF, 0x0, 0x1⟩,
  ⟨0xE800, 2, 0x400, 128, 0x8, 0x0, 0xFFFFFFFF, 0x0, 0x0, 0x0, 0xFFFFFFFF, 0xE0000001⟩,
  ⟨0xE804, 2, 0x400, 128, 0x8, 0x0, 0x1FFFFFFF, 0x0, 0x0, 0x0, 0x1FFFFFFF, 0x1⟩]

/-- The SEC registers. -/
def regsSEC : List RegClass := [
  ⟨0xF000, 1, 0x0, 1, 0x0, 0x0, 0x0, 0x0, 0x0, 0xFFFFFF, 0x0, 0x400061⟩,
  ⟨0xF004, 1, 0x0, 1, 0x0, 0x0, 0x0, 0xF, 0x0, 0x0, 0x0, 0xF⟩,
  ⟨0xF008, 1, 0x0, 1, 0x0, 0x50C0F, 0xFFFFF, 0x0, 0x0, 0x0, 0xFFFFF, 0x10101⟩,
  ⟨0xF010, 9, 0x4, 1, 0x0, 0x0, 0x0, 0x0, 0x0, 0xFFFFFFFF, 0xFFFFFFFF, 0x40045⟩,
  ⟨0xF040, 1, 0x0, 1, 0x0, 0x0, 0x0, 0x0, 0x0, 0xFFFFFF, 0x0, 0x10001⟩,
  ⟨0xF044, 1, 0x0, 1, 0x0, 0x0, 0x0, 0x0, 0x0, 0xFFFFFFFF, 0x0, 0x10001⟩,
  ⟨0xF048, 1, 0x0, 1, 0x0, 0x0, 0x0, 0x0, 0x1, 0x0, 0x0, 0x1⟩]

/-- The registers of block `b` in the order of R325. -/
def regsOf (b : Nat) : List RegClass :=
  match b with
  | 0 => regsSYS
  | 1 => regsTIM
  | 2 => regsCHN
  | 3 => regsTIL
  | 4 => regsEST
  | 5 => regsIMP
  | 6 => regsCNV
  | 7 => regsDSP
  | 8 => regsSAF
  | 9 => regsTHM
  | 10 => regsHST
  | 11 => regsLAN
  | 12 => regsREC
  | 13 => regsFIO
  | 14 => regsCAN
  | 15 => regsSEC
  | _ => []

/-- `off` is a register of the class. -/
def RegClass.has (r : RegClass) (off : Nat) : Bool :=
  if off < r.base then false
  else
    let d := off - r.base
    let i := if r.s1 = 0 then 0 else min (d / r.s1) (r.n1 - 1)
    let e := d - i * r.s1
    let j := if r.s2 = 0 then 0 else min (e / r.s2) (r.n2 - 1)
    e - j * r.s2 == 0

/-- The block (in the order of R325) whose 4 KiB hold BAR0 offset `off` (R454). -/
def blockOf (off : Nat) : Nat := off / 0x1000

/-- The register class of a BAR0 offset; `none` for an offset that no chapter assigns (R304). -/
def classOf (off : Nat) : Option RegClass := (regsOf (blockOf off)).find? (·.has off)

/-- The word that a register holds after a cold reset (R4, R455): the fitted variant and the image identifier of delivery
are the implementation's; key slots 0 and 1 hold the maker's and the installer's key (R415); the words restored from MRAM are written by the reset itself. -/
def coldWord (off : Nat) : Word :=
  if off = SYS_REV then (if Config.variantAX then 0x103 else 0x3)
  else if off = LAN_IMG_ID_A then Config.imageAtDelivery
  else if off = 0xF010 then 3
  else if off = 0xF014 then 2
  else if 0x3100 ≤ off ∧ off < 0x3500 then BitVec.ofNat 32 ((off - 0x3100) / 4)
  else match classOf off with
  | some r => BitVec.ofNat 32 r.cold
  | none => 0

/-- The offsets of a class, in rising order of instance. -/
def RegClass.offsets (r : RegClass) : List Nat :=
  (List.range r.n1).flatMap fun i => (List.range r.n2).map fun j => r.base + i * r.s1 + j * r.s2

end Sys2Proof.Machine
end

