-- ==== Sys2Proof/Machine/State.lean ====
section
/-! DEFINITION. The state of the card as plain data, and the card right after a cold reset. One structure per block;
registers live in `regs`, state that the spec gives but no register shows lives in the block's structure. -/

namespace Sys2Proof.Machine

/-! ### Operations in flight (R312, R313) -/

/-- A pending trigger of the time unit (R44, R49): KIND, WHEN, and whether a forward step has passed it (R47). -/
structure Trig where
  kind : Nat
  at' : Nat
  late : Bool := false
deriving DecidableEq, Repr

/-- An operation in flight: its descriptor, its place in acceptance order, its trigger and its progress. -/
structure Op where
  opcode : Nat
  desc : Desc
  cq : Nat
  index : Nat
  role : Nat
  order : Nat
  frame : BitVec 32
  committed : Bool := false
  trig : Option Trig := none
  produced : Bool := false
  abortLost : Bool := false
  orphan : Bool := false
  phase : Nat := 0
  data : List Nat := []
deriving DecidableEq, Repr

/-- A completion (R311) that waits in the tracker, with the commit mark of R321. -/
structure Cpl where
  cq : Nat
  sq : Nat
  index : Nat
  tag : BitVec 18
  result : Word
  reason : Nat
  status : Nat
  abortLost : Bool := false
  noEvent : Bool := false
  owner : Option Nat := none
  committed : Bool := false
  dataLost : Bool := false
deriving DecidableEq, Repr

/-! ### Host interface -/

/-- A submission ring (R307): STATE 0 ABSENT, 1 RUN, 2 ERROR, 3 DELETING. `deleters` are the slots of the
HST_SQ_DELETE operations that wait on it. -/
structure Sq where
  state : Nat := 0
  cq : Nat := 0
  prio : Nat := 0
  weight : Nat := 0
  log2 : Nat := 0
  base : Nat := 0
  head : Nat := 0
  tail : Nat := 0
  deleters : List Nat := []
deriving DecidableEq, Repr

/-- A completion ring (R307). -/
structure Cq where
  present : Bool := false
  base : Nat := 0
  log2 : Nat := 0
  head : Nat := 0
  tail : Nat := 0
  phase : Bool := false
  full : Bool := false
deriving DecidableEq, Repr

/-- An MSI-X vector (R326): its table entry, its Pending Bit Array bit, when it last sent, and whether firings wait. -/
structure Vec where
  addr : Nat := 0
  data : Word := 0
  masked : Bool := true
  pending : Bool := false
  last : Option Nat := none
  merged : Bool := false
  sent : Nat := 0
deriving DecidableEq, Repr

/-- An entry of the plant source table (R329). -/
structure Src where
  node : BitVec 18
  seq : BitVec 32
  pm : Nat
deriving DecidableEq, Repr

/-- An entry of the dead-letter queue (R330). -/
structure Dead where
  pm : Nat
  reason : Nat
  port : Nat
  bytes : List Byte
deriving DecidableEq, Repr

/-- The host interface. `arriving` are fetched descriptors (SQ, index) whose bytes have not yet arrived; `held` are
arrived descriptors that a FENCE keeps from acceptance (R314): opcode, descriptor, index. -/
structure Hst where
  ready : Bool := false
  linkUp : Bool := false
  busMaster : Bool := false
  d3 : Bool := false
  adminActive : Bool := false
  sqs : Store Sq := []
  cqs : Store Cq := []
  turn : Store Nat := []
  arriving : List (Nat × Nat) := []
  held : List (Nat × Desc × Nat) := []
  acceptedInSlot : Nat := 0
  ops : Store (Option Op) := []
  order : Nat := 0
  waiting : List Cpl := []
  orphans : List (List Byte) := []
  vecs : Store Vec := []
  inbox : List (List Byte) := []
  recvs : List Nat := []
  dlq : List Dead := []
  dlqInFrame : Nat := 0
  dbNoRingInFrame : Bool := false
  sources : List Src := []
  txSeq : BitVec 32 := 0
  txPlant : List (Nat × List Byte) := []
  mem : Store Byte := []
deriving DecidableEq, Repr

/-! ### Time unit -/

/-- A P2 Ethernet port of the time unit: link, the last dataset heard and its time, the path delay in use. -/
structure TimPort where
  link : Bool := true
  ann : Option Announce := none
  delay : Int := 0
  lastSync : Nat := 0
deriving DecidableEq, Repr

/-- The time unit. `clock` counts card nanoseconds since the cold reset; `now` is the time counter in units of
2^-32 ns (R51); `prop` and `integ` are the servo's terms in units of 2^-32 (R30). `laneHold` are the holding registers of
the lanes' internal path (R53): the high words of NOW and FRAME_PM, and FRAME_NUM. -/
structure Tim where
  clock : Nat := 0
  now : Nat := 0
  prop : Int := 0
  integ : Int := 0
  stepRun : Nat := 0
  stepDue : Option Int := none
  lockRun : Nat := 0
  gm : Option (BitVec 64) := none
  qual : List Int := []
  qualified : Bool := false
  changed : Bool := false
  everLocked : Bool := false
  firstStep : Bool := false
  holdSince : Nat := 0
  moveDue : Option (Nat × Nat) := none
  ports : Store TimPort := []
  tsq : List (Nat × Nat × Nat) := []
  frame : BitVec 32 := 0
  slot : Nat := 0
  elapsed : Nat := 0
  framePm : Nat := 0
  corr : Int := 0
  corrNext : Int := 0
  gotCur : Bool := true
  gotNext : Bool := false
  missRun : Nat := 0
  validRun : Nat := 0
  spurSince : Option Nat := none
  laneHold : Nat × Nat × BitVec 32 := (0, 0, 0)
deriving DecidableEq, Repr

/-! ### Recorder and journal -/

/-- A record (R366): code, severity and flag bits, SEQ, postmark, parameters. -/
structure Record where
  code : Nat
  sevflags : Nat
  seq : Nat := 0
  pm : Nat
  p : List Word
deriving DecidableEq, Repr

/-- An origin being captured (R381, R382): frame S and its postmark, buffer, the operation that asked, and the sections
captured so far: TYPE, string, content. -/
structure Origin where
  frame : BitVec 32
  pm : Nat
  buffer : Nat
  op : Option Nat
  parts : List (Nat × Nat × List Byte) := []
deriving DecidableEq, Repr

/-- The precise samples of a string in the frame's journal entry (R378): the postmark of the first, the channel that comes
next in the open group, and the groups' bytes so far. -/
structure PreciseRun where
  first : Nat
  next : Nat := 0
  bytes : List Byte := []
deriving DecidableEq, Repr

/-- The recorder, the journal and replay. `feeds` are the REC_REPLAY_FEED operations with the entries still to run and the
frames that each has run; `entry` is the entry of the frame that runs; `started` says that a frame of the loaded origin
has run, `heldTold` that the present hold has been recorded. `handed` are
the records of the command at hand, before the intake (R369). `digest` is the draw of the frame's digests, once made. -/
structure Rec where
  handed : List Record := []
  intake : List Record := []
  store : Store (Option Record) := []
  mirror : Store (Option Record) := []
  gasp : Store (Option Record) := []
  ceiling : Nat := 1
  seqStarted : Bool := false
  corrected : List (Nat × Nat) := []
  dropsNow : List Nat := [0, 0, 0, 0, 0, 0, 0, 0]
  boot : Nat := 0
  items : List (Nat × Nat × List Byte) := []
  precise : Store (Option PreciseRun) := []
  flags : Nat := 0
  skipped : Nat := 0
  gapFirst : BitVec 32 := 0
  sinceEv : Nat := 0
  blackBox : List (BitVec 32 × List Byte) := []
  origin : Option Origin := none
  orgNextB : Bool := false
  replay : Bool := false
  loadedFrame : Option (BitVec 32) := none
  feeds : List (Nat × List (List Byte) × Nat) := []
  entry : Option (List Byte) := none
  started : Bool := false
  heldTold : Bool := false
  digest : Option Nat := none
  orgSeq : Nat := 0
deriving DecidableEq, Repr

/-! ### Sessions, keys and debug -/

/-- An open session (R420): identifier, role 1 to 3, path 0 PCIe or 1 J9, opening time and last use in card ns. -/
structure Session where
  id : BitVec 16
  role : Nat
  path : Nat
  opened : Nat
  last : Nat
deriving DecidableEq, Repr

/-- A challenge handle (R417). -/
structure Challenge where
  handle : BitVec 16
  slot : Nat
  path : Nat
  nonce : BitVec 256
  issued : Nat
deriving DecidableEq, Repr

/-- A key slot, or the verifier as slot 8 (R415, R419): role 0 is empty. For the verifier `key` is the PBKDF2 output
and `salt`, `iter` are in use. `blockEnd` is the card time at which a block ends. -/
structure KeySlot where
  role : Nat := 0
  key : BitVec 256 := 0
  salt : BitVec 128 := 0
  iter : Nat := 0
  fails : Nat := 0
  blockEnd : Nat := 0
  version : Nat := 0
deriving DecidableEq, Repr

/-- The test access port and debug unit (R426, R427). `holder` is the session that attached. -/
structure Dbg where
  j9 : Option (BitVec 16) := none
  ir : Nat := 1
  boundary : BitVec 612 := 0
  driving : Bool := false
  bypass : Bool := false
  chalNonce : BitVec 256 := 0
  chalStatus : Nat := 0
  respStatus : Nat := 0
  respSession : BitVec 16 := 0
  tdr : Word := 0
  state : Nat := 0
  busy : Option Nat := none
  detachCause : Nat := 0
  holder : BitVec 16 := 0
  error : Nat := 0
  cause : Nat := 0
  bpHit : Nat := 0
  data : Word := 0
  bps : Store (Option (Nat × Word)) := []
deriving DecidableEq, Repr

/-- Roles, sessions and debug. -/
structure Sec where
  sessions : List Session := []
  unlock : Option (BitVec 16) := none
  challenges : List Challenge := []
  keys : Store KeySlot := []
  dbg : Dbg := {}
deriving DecidableEq, Repr

/-! ### Card power and slot -/

/-- Feeds, seat, drain and the power-loss record (R435 to R450). `lostFeeds` are the feeds out of range, `onB` the card time at
which feed B took over; `drainOps` the SYS_DRAIN operations that wait; `lossForced` says that the record shows a forced
removal. A warm reset leaves its cause, what it ended, and `restarting` until its restart is complete (R459); `booting` says
that no lane has yet booted since a cold reset. -/
structure Sys where
  powered : Bool := true
  seated : Bool := true
  lostFeeds : List Nat := []
  onB : Nat := 0
  drainFrame : BitVec 32 := 0
  drainPending : Bool := false
  drainOps : List Nat := []
  lossPm : Nat := 0
  lossFrame : BitVec 32 := 0
  lossForced : Bool := false
  resetCause : Nat := 0
  opsEnded : Nat := 0
  requestsEnded : Nat := 0
  sessionsEnded : List (BitVec 16) := []
  restarting : Bool := false
  booting : Bool := true
deriving DecidableEq, Repr

/-! ### Control lanes, images and configuration -/

/-- A core of a lane (R335, R345): general registers, program counter, CSRs, the reservation of a load-reserve, and
whether it has stopped. -/
structure Core where
  x : Store Word := []
  pc : Word := 0
  csr : Store Word := []
  resv : Option Nat := none
  stopped : Bool := false
deriving DecidableEq, Repr

/-- A control lane beside its LAN_STATUS fields: health line, disagreements of the last 65,536 frames (core, frame
count), cores resynchronised in this frame, the bank it booted, failed imports, and what awaits a frame boundary. `mem` is lane
memory over what firmware has left in it, the free bytes of draw `seed` (zero after a boot). -/
structure Lane where
  health : Bool := false
  toggled : Bool := false
  faults : List (Nat × Nat) := []
  resynced : List Nat := []
  mismatches : List Nat := []
  bank : Nat := 0
  imports : Nat := 0
  resetDue : Bool := false
  mem : Store Byte := []
  seed : Option Nat := none
deriving DecidableEq, Repr

/-- A NOR flash bank (R347): whether it still holds the package of delivery, whose bytes the spec does not give; the
manifest, or no bytes when erased; the parcels held. -/
structure Bank where
  delivered : Bool := false
  manifest : List Byte := []
  parcels : Store (Option (List Byte)) := []
deriving DecidableEq, Repr

/-- A configuration copy (R359): sequence, postmark, register words by offset, tables by identifier. -/
structure CfgCopy where
  valid : Bool := false
  seq : Nat := 0
  pm : Nat := 0
  words : Store Word := []
  tables : Store (List Byte) := []
deriving DecidableEq, Repr

/-- Parcels being assembled from plant datagrams (R350): image, parcel index, pieces by number. -/
structure Assembly where
  image : BitVec 32
  index : Nat
  pieces : Store (List Byte)
deriving DecidableEq, Repr

/-- A satellite update of a string (R354): operation, bank, places still to do, the step of the first of them, the next
piece, skips; `waiting` while its requests are unanswered, `found` for a satellite in DISCOVERED state. -/
structure SatUpd where
  op : Nat
  bank : Nat
  places : List Nat
  step : Nat := 0
  piece : Nat := 0
  skipped : Nat := 0
  waitFrame : BitVec 32 := 0
  waiting : Bool := false
  found : Bool := false
  begun : Bool := false
deriving DecidableEq, Repr

/-- The lanes, the images in flash and the configuration. `live` are the tables of the live image by identifier; `counted`
is the lane whose health line was counted last. -/
structure Lan where
  lanes : Store Lane := []
  cores : Store Core := []
  split : Bool := false
  takeoverDue : Option (Nat × Nat) := none
  prepareOp : Option Nat := none
  prepareDue : Bool := false
  updFrames : Nat := 0
  abortOp : Option Nat := none
  formerDue : Option Nat := none
  bootFrames : Nat := 0
  banks : Store Bank := []
  copies : Store CfgCopy := []
  live : Store (List Byte) := []
  liveOk : Bool := true
  counted : Option Nat := none
  chooseDue : Option Nat := none
  chooseOp : Option Nat := none
  assemblies : List Assembly := []
  satUpd : Store (Option SatUpd) := []
  recovery : Bool := false
  attached : Bool := false
  resetOps : List (Nat × Nat) := []
deriving DecidableEq, Repr
/-! ### Cell chains (R68 to R108) -/

/-- Who asked for a chain request: a host operation by slot, an admission step (R94), the tone plan (R176, R177), the
balancing plan (R153), the temperature poll (R287), or a satellite update (R354). -/
inductive Owner where
  | host (slot : Nat)
  | ident
  | assign
  | confirm
  | plan
  | planRead
  | balance
  | update
deriving DecidableEq, Repr

/-- A request packet (R85, R90): TYPE, destination address, payload, SEQ, port, resends made, last sending frame. -/
structure Req where
  typ : Nat
  payload : List Byte
  owner : Owner
  seq : BitVec 8 := 0
  port : Nat := 0
  resends : Nat := 0
  sentAt : BitVec 32 := 0
deriving DecidableEq, Repr

/-- A balancing order of a satellite (R98). -/
structure BalOrder where
  pos : Nat
  mode : Nat
  current : Nat
  frames : Nat
  since : BitVec 32
deriving DecidableEq, Repr

/-- The module's record of the satellite at a ring place beside CHN_SAT_STATE. `volts`, `exps` and `tones` are the
last accepted segment's. `alarm` is the silence of R97 that only an accepted segment ends. -/
structure Sat where
  uid : BitVec 64 := 0
  cls : Nat := 0
  fw : Nat := 0
  compat : Nat := 0
  hw : Nat := 0
  latency : Nat := 0
  temps : List Nat := []
  addr : Nat := 0
  dcompH : Nat := 0
  dcompT : Nat := 0
  probeH : Bool := false
  probeT : Bool := false
  seq : BitVec 8 := 0
  out : Option Req := none
  queue : List Req := []
  readmit : Bool := false
  admitOp : Option Nat := none
  admitting : Bool := false
  planDue : Bool := false
  accepted : Bool := false
  silent : Nat := 0
  alarm : Bool := false
  lastFrame : BitVec 32 := 0
  status : Nat := 0
  flags : Nat := 0
  toneSel : Nat := 0
  volts : List Nat := []
  exps : List Nat := []
  tones : List Nat := []
  order : Option BalOrder := none
deriving DecidableEq, Repr

/-- A chain controller: split of the next frame, TONE_SEL and the last SYNC_TIME payload, the trains' progress, census
and reset requests, and the limit-violation line (R97). -/
structure Chain where
  splitNext : Nat := 0
  toneSel : Nat := 0
  balPermit : Bool := true
  sync : List Byte := []
  trainHead : Nat := 33
  trainTail : Nat := 0
  censusDue : Bool := false
  censusOps : List Nat := []
  everCensus : Bool := false
  resumeSeq : Bool := false
  resetCause : Option Nat := none
  resetOps : List Nat := []
  resetFrames : Nat := 0
  downFrames : Nat := 0
  line : Bool := false
  pollMask : List Byte := []
deriving DecidableEq, Repr

/-- The chain side. `sats` is keyed by 32·(string − 1) + place − 1; `map` is the ring map in MRAM (R460): UID and
battery-module class of the satellite last admitted. `swapped` lists the places whose swap the estimator has yet to
take (R95). -/
structure Chn where
  chains : Store Chain := []
  sats : Store Sat := []
  map : Store (Option (BitVec 64 × Nat)) := []
  swapped : List Nat := []
deriving DecidableEq, Repr

/-! ### Estimation tile array (R109 to R137) -/

/-- A lane of a tile (R113): two accumulators, the predicate and the flag word of R63. -/
structure LaneRegs where
  acc0 : Int := 0
  acc1 : Int := 0
  p : Bool := true
  flags : Nat := 0
deriving DecidableEq, Repr

/-- What a tile stalls on (R118, R119): the input window, its reductions, a channel's result, or an exchange with the
values of A that its lanes read. -/
inductive Stall where
  | input
  | reductions
  | channel (x : TileOp)
  | exchange (x : TileOp) (vals : List Nat)
deriving DecidableEq, Repr

/-- A physical tile: memory, registers, lanes and progress. `run` is 0 idle, 1 running, 2 paused, 3 trapped, 4 past its
last batch, 5 cut. `clean` is the mask of classes completed cleanly in the frame; `tags` are the mirror's frame numbers
by section. -/
structure Tile where
  mem : Store W18 := []
  b : Store Nat := []
  l : Store Nat := []
  pc : Nat := 0
  lanes : Store LaneRegs := []
  run : Nat := 0
  stall : Option Stall := none
  batch : Nat := 0
  cycles : Store Nat := []
  contributed : List Nat := []
  edges : Store (List Nat) := []
  clean : Nat := 0
  stepped : Bool := false
  trapRun : Nat := 0
  laneCheck : Option (BitVec 32) := none
  lastUe : Option (BitVec 32) := none
  ueAddrs : List Nat := []
  ce : List (BitVec 32) := []
  tags : Store (BitVec 32) := []
  restore : Nat := 0
deriving DecidableEq, Repr

/-- A reduction channel of a string (R119): value so far (none until a lane contributes), whether it is a sum, and the tiles that contributed. -/
structure Chan where
  val : Option Int := none
  sum : Bool := false
  tiles : List Nat := []
deriving DecidableEq, Repr

/-- A kernel set in a code bank (R124): image identifier, compatibility class, batches (entry, class), and
whether the spec or a load gives its instructions (it does not for the set of delivery). -/
structure KSet where
  id : Word := 0
  cls : Nat := 0
  batches : List (Nat × Nat) := []
  known : Bool := false
deriving DecidableEq, Repr

/-- The tile array. `tiles` is keyed by physical tile, `chans` by 64·(string − 1) + channel, `sets` by bank. `satRun`
holds each string's run of frames with saturation and their OR (R66); `cellFlags` the OR of each lane's flags since the last state page (R65),
by logical tile and lane; `tests` the running self-tests (operation, physical tile, whether to unretire); `bootSet` the
set of the active image when a package brought one. `tracked` is the frame of each logical tile's last TRACKING run (R183); `broken` the
sections that a trap, a cut or a repair has restored since (R152, R155). -/
structure Til where
  tiles : Store Tile := []
  chans : Store Chan := []
  sets : Store KSet := []
  loadDue : Bool := true
  filled : Bool := false
  nextLevel : Nat := 0
  shedSeen : Bool := false
  trapped : List (Nat × Nat × Nat) := []
  satRun : Store (Nat × Nat) := []
  cellFlags : Store Nat := []
  retireDue : List (Nat × Nat) := []
  retiredNow : List Nat := []
  tests : List (Nat × Nat × Bool) := []
  bootSet : Option (KSet × List W18) := none
  tracked : Store (Option (BitVec 32)) := []
  broken : Store Nat := []
deriving DecidableEq, Repr

/-! ### Cell models, limits and learned values (R140 to R173) -/

/-- A copy of a string's learned values in MRAM (R161): header fields and 512 records of Q, R and the two counts. -/
structure LearnCopy where
  valid : Bool := false
  seq : Nat := 0
  frame : BitVec 32 := 0
  pm : Nat := 0
  cls : Nat := 0
  cause : Nat := 0
  recs : List (List Nat) := []
deriving DecidableEq, Repr

/-- What the kernels keep of a position beside its checkpoint words (words 0x30B to 0x33F of R140): the voltage that its
last minute is held against and for how many frames it has held (R154), whether the position is at rest, and the last frame's
voltage, if measured and free of the bits that R156 names. -/
structure CellLearn where
  held : Nat := 0
  steady : Nat := 0
  atRest : Bool := false
  last : Option Nat := none
deriving DecidableEq, Repr

/-- The estimator's record of a string: the latched set (channels 0 to 15, six powers; R150), the frames since a fresh
one (R16), the lookahead bounds (R152), the header (R145, R146), and the commit under way (R163): `phase` 0 idle, 1
waiting for the end of slot 5, 2 and 3 writing, 4 awaiting the read back; its `causes`, and those `queued` for one more.
`due` are the causes that ask for a commit.
`codes`, `mean0` and `mean1` are the current of the frame at hand and the slot 0 mean of the frame before; `rest` the frames
that the current has stayed below REST_I (R154); `isolated` that R155's ISOLATION has come about. `slice`, `lo`, `hi` and
`outside` are the lookahead window: next slice, bounds by direction, and whether the run has left its limits (R151). -/
structure EstStr where
  chans : List Int := []
  powers : List Nat := []
  everFresh : Bool := false
  missed : Nat := 0
  zeroed : Bool := false
  chargePause : Bool := false
  laChg : Nat := 0
  laDis : Nat := 0
  laFrames : Nat := 0
  laFallback : Bool := false
  headerOk : Bool := false
  cls : Nat := 0
  mismatch : List Nat := []
  loadDue : Bool := true
  phase : Nat := 0
  causes : List Nat := []
  queued : List Nat := []
  attempt : Nat := 0
  snap : LearnCopy := {}
  due : List Nat := []
  since : Nat := 0
  codes : List Int := []
  mean0 : Option Int := none
  mean1 : Option Int := none
  rest : Nat := 0
  isolated : Bool := false
  slice : Nat := 0
  lo : Nat × Nat := (0, 0)
  hi : Nat × Nat := (0, 0)
  outside : Bool := false
deriving DecidableEq, Repr

/-- The estimator. `copies` is keyed by 2·(string − 1) + copy; `started` marks the cells (512·(string − 1) + position
− 1) whose model has restarted since it last had to (R160); `staleAny` and `swapAny` collect a page period's flags by
place; `sig` holds each place's thermistor signatures of the last round (R158); `opened` the strings whose main contactor
was open since then; `learn` is keyed as `started`. `pageAt` is the frame of the last state page,
`pageHeld` a page that an overrun of slot 7 has put off (R37). -/
structure Est where
  strs : Store EstStr := []
  copies : Store LearnCopy := []
  started : Store Bool := []
  staleAny : List Nat := []
  swapAny : List Nat := []
  swapDue : List Nat := []
  swapNow : List Nat := []
  pageB : Bool := false
  pageAt : Option (BitVec 32) := none
  pageHeld : List Byte := []
  commitOps : List (Nat × List Nat × Bool) := []
  sig : Store (List (Option Int)) := []
  opened : List Nat := []
  learn : Store CellLearn := []
deriving DecidableEq, Repr

/-! ### Impedance tracking (R174 to R198) -/

/-- A tone plan (R174): identifier, T0, EN, BASE_SHIFT and FREQ, AMP after clipping and A of each tone; the activation
frame, and the 80-byte record it came in. -/
structure Plan where
  id : Nat := 0
  t0 : Nat := 0
  en : Nat := 0
  base : Nat := 0
  tones : List (Nat × Nat × Nat) := []
  at' : BitVec 32 := 0
  record : List Byte := []
deriving DecidableEq, Repr

/-- A copy of a string's impedance history in MRAM (R186): header fields and 512 records of H by tone and the count. -/
structure HistCopy where
  valid : Bool := false
  seq : Nat := 0
  frame : BitVec 32 := 0
  pm : Nat := 0
  plan : Plan := {}
  recs : List (List Int) := []
deriving DecidableEq, Repr

/-- The tracker's record of a string. `plan` is active, `pend` accepted and waiting with its operation; `seen` is the
plan under which the samples of the frame at hand were taken (R182), `resetTones` the tones that it changed. `unconf`
and `confPend` are places (R179). `base` and `filt` are the demodulator's baseline and phasors in 2^-16 code units, `g`
the reference words, `carried` the mask of R181; `ampNow` the injected amplitudes in mA, `ramp` the ramp in sixteenths;
`hist` the phase of a history commit. -/
structure ImpStr where
  plan : Option Plan := none
  pend : Option Plan := none
  pendOp : Option Nat := none
  seen : Option Plan := none
  resetTones : Nat := 0
  sent : List (Nat × List Byte) := []
  unconf : List Nat := []
  confPend : List Nat := []
  hostSusp : Bool := false
  clear : Nat := 0
  ramp : Nat := 0
  down : Bool := false
  ampNext : List Nat := []
  ampNow : List Nat := []
  injAll : Nat := 0
  injPrev : Nat := 0
  base : Option Int := none
  filt : Store (Int × Int) := []
  g : Store Nat := []
  carried : Nat := 0
  mean1 : Option Int := none
  mean2 : Option Int := none
  hold : Nat := 0
  loadDue : Bool := true
  hist : Nat := 0
  learnSeen : Nat := 0
deriving DecidableEq, Repr

/-- The impedance tracker. `copies` is keyed by 2·(string − 1) + copy; `runs` holds each position's runs of page frames
above and below the thresholds and whether an anomaly is declared (R189), by 512·(string − 1) + position − 1. `histAt` is
the frame of the last history update (R186); the page fields are as the estimator's. -/
structure Imp where
  strs : Store ImpStr := []
  copies : Store HistCopy := []
  runs : Store (Nat × Nat × Bool) := []
  pageB : Bool := false
  pageAt : Option (BitVec 32) := none
  pageHeld : List Byte := []
  histAt : Option (BitVec 32) := none
deriving DecidableEq, Repr

/-! ### The converter engine (R199 to R233) -/

/-- A phase of a stage: its two switches and when each last changed (card ns), a switch that waits out DEAD, the end of
an on-time, and what the interleave, the current limit, the charge error and the synthesised ripple keep (R210 to R217).
Currents are in units of 2^-16 of a fast code, the ripple in 2^-16 of a precise code. -/
structure Phase where
  gh : Bool := false
  gl : Bool := false
  ghAt : Nat := 0
  glAt : Nat := 0
  due : Option (Bool × Nat) := none
  offAt : Option Nat := none
  limited : Nat := 0
  rises : Nat := 0
  riseAt : Nat := 0
  period : Nat := 0
  ofs : Int := 0
  err : Int := 0
  rip : Int := 0
  ripMin : Int := 0
  ripMax : Int := 0
  ripAt : Nat := 0
deriving DecidableEq, Repr

/-- A CNV_CAPTURE that is taking samples: operation, path, channel j, frames left, whether it has begun, the first
sample's postmark, and the samples. -/
structure Capture where
  slot : Nat
  fast : Bool
  chan : Nat
  left : Nat
  begun : Bool := false
  firstPm : Option Nat := none
  samples : List Nat := []
deriving DecidableEq, Repr

/-- A string's engine. Setpoint, bounds, trim, integrator and demand are in 2^-16 of a precise current code, V_ref in
2^-16 of a precise voltage code, the bands in 2^-16 of a fast code. `rating` and `target` are the values in force;
`dspSet` and `manSet` what the dispatcher and CNV_SETPOINT ask for; `glide` moves the setpoint at START_RAMP in RUN;
`still` counts frames without a change of setpoint or bounds. -/
structure CnvStr where
  rating : Nat := 100
  target : Nat := 0
  dspSet : Int := 0
  manSet : Int := 0
  eff : Int := 0
  hi : Int := 0
  lo : Int := 0
  glide : Bool := false
  zeroRun : Nat := 0
  still : Nat := 0
  trim : Int := 0
  band : Int := 0
  bandUsed : Option Int := none
  phases : Store Phase := []
  vref : Int := 0
  iInt : Int := 0
  iDem : Int := 0
  turn : Nat := 1
  pulseAt : Nat := 0
  below : Nat := 0
  burst : Nat := 0
  derate : Nat := 0
  oscSign : Int := 0
  oscOver : Bool := false
  oscSince : Nat := 0
  oscNow : Nat := 0
  oscPast : List Nat := []
  ocv : List Nat := []
  res : List Nat := []
  ffMiss : Nat := 0
  phOc : Nat := 0
  deBelow : Bool := false
  prec : Store Int := []
  fastI : Int := 0
  last8 : List Int := []
  hist : List (Nat × Int) := []
  sums : Store (Int × Nat) := []
  refSum : Int × Nat := (0, 0)
  regAt : Option (BitVec 32) := none
  lost : Nat := 0
  ends : Nat := 0
  endsPrev : Nat := 0
  gap : Bool := false
  caps : List Capture := []
deriving DecidableEq, Repr

/-- The engines, the gains and offsets in force by channel and those of the frame before (R204), and the postmarks of the present and last frame
start. -/
structure Cnv where
  strs : Store CnvStr := []
  gains : Store Nat := []
  ofss : Store Nat := []
  oldGains : Store Nat := []
  oldOfss : Store Nat := []
  curPm : Nat := 0
  prevPm : Nat := 0
deriving DecidableEq, Repr

/-! ### The safety fabric (R263 to R284) -/

/-- A string's contactors and sequences: the drivers HS_P, HS_N, LS_PM, LS_NM, LS_PC that are on, the coils in hold duty
(0 PM, 1 NM, 2 PC), the card times of the sequence, the operations that wait, the last weld-sense samples in units of
0.1 V, and what R265, R272 and R276 count and keep. `offDue` waits for OPEN_DELAY; `lockAt` is the card
time of the last lock-out, `vch` the sum V_CH in V (R276); `wasClosed` marks an opening from
CLOSED; `weldRec` is the WELDED record in MRAM. -/
structure SafStr where
  drivers : List Nat := []
  held : List Nat := []
  seqAt : Nat := 0
  closeOp : Option Nat := none
  openOps : List Nat := []
  underLoad : Bool := false
  openCode : Int := 0
  wasClosed : Bool := false
  testOp : Option (Nat × Nat) := none
  offDue : Bool := false
  vpm : Int := 0
  vnm : Int := 0
  oc : Nat := 0
  limitRun : Nat := 0
  lockAt : Option Nat := none
  vch : Nat := 0
  weldRec : Bool := false
  drvOp : Option Nat := none
  drvDone : List Nat := []
  drvBad : Bool := false
deriving DecidableEq, Repr

/-- The fabric: its strings, the open–close sequence of R268 in card ns, RESET_IN (R270), and the lane health count of
R266. `watching` says that the count runs; `quiet` counts frames since the reset without a primary lane. -/
structure Saf where
  strs : Store SafStr := []
  openSince : Option Nat := none
  openDone : Bool := false
  closedSince : Option Nat := none
  diff : Option (Nat × Bool × Bool) := none
  disc : Bool := false
  resetSince : Option (Nat × BitVec 32) := none
  resetCounts : Bool := true
  idleSince : Nat := 0
  stuck : Bool := false
  needIdle : Bool := false
  lh : Nat := 0
  watching : Bool := false
  quiet : Nat := 0
deriving DecidableEq, Repr

/-! ### Dispatch and energy accounts (R234 to R262) -/

/-- A request that the dispatcher holds (R236 to R238): source (bit 31 the host, else a node), ID, class, REPLACE, asked
W, DURATION, MIN_FRAC, MAX_DEFER in frames, its trigger, its place in arrival order; the slot of its host operation or
the port that brought it, `open'` while its operation has not completed; `state` 1 pending, 2 waiting, 3 running; served
W and reason; the bounds of its decision frame and of the last frame; admission and decision frames; `full` when it was
served in full last. -/
structure DspReq where
  source : Nat
  id : Nat
  cls : Nat
  replace : Bool
  asked : Int
  duration : Nat
  minFrac : Nat
  maxDefer : Nat
  trig : Trig
  order : Nat
  slot : Option Nat := none
  port : Nat := 0
  open' : Bool := true
  fired : Bool := false
  state : Nat := 1
  served : Int := 0
  reason : Nat := 0
  bound : Nat := 0
  last : Nat := 0
  admitted : BitVec 32 := 0
  decided : BitVec 32 := 0
  full : Bool := false
deriving DecidableEq, Repr

/-- A billing interval (R254 to R258): start and end postmarks on the grid, the whole intervals passed over before it, record flags, frames booked, and the
mWh of each string by 2·(string − 1) + direction (0 charge, 1 discharge). -/
structure Ivl where
  start : Int := 0
  stop : Int := 900000000000
  skipped : Nat := 0
  flags : Nat := 0
  frames : Nat := 0
  mwh : Store Nat := []
deriving DecidableEq, Repr

/-- What a commit of the accounts keeps (R259). -/
structure AcctCopy where
  valid : Bool := false
  seq : Nat := 0
  ivls : List Ivl := [{}]
  len : Nat := 900
  align : Int := 0
  life : Store Nat := []
  fine : Store Nat := []
  hwm : Nat := 0
deriving DecidableEq, Repr

/-- The dispatcher and the accounts. `entries` is the request table by entry 0 to 255; `cancels` are the plant cancels
that wait for slot 6 (source, ID, port); `joined` counts the frames since a string became eligible, 0 while it is not.
`ivls` are the intervals not yet closed, the last of which takes energy; `fine` and `life` are keyed as `Ivl.mwh`;
`half` holds a sample of channel 6 or 7 that waits for its pair; `len` and `align` are the grid in force; `booked` is the
start of the frame at hand. `shown`, `shownPm` and `shownOpen` are the counters (by 4·(string − 1) + 2·lifetime +
direction), last booked frame and open interval of the last frame boundary. `ring` keeps the closed records by sequence modulo
1,024. -/
structure Dsp where
  entries : Store (Option DspReq) := []
  order : Nat := 0
  cancels : List (Nat × Nat × Nat) := []
  joined : Store Nat := []
  ivls : List Ivl := [{}]
  len : Nat := 900
  align : Int := 0
  fine : Store Nat := []
  life : Store Nat := []
  half : Store (Option (Nat × Int)) := []
  hwm : Nat := 0
  behind : Option Nat := none
  booked : Nat := 0
  shown : Store Nat := []
  shownPm : Nat := 0
  shownOpen : Int := 0
  seq : Nat := 1
  ring : Store (List Byte) := []
  copyA : AcctCopy := {}
  copyB : AcctCopy := {}
  since : Nat := 0
deriving DecidableEq, Repr

/-! ### Temperature and thermal duty (R285 to R301) -/

/-- A temperature channel (R285 to R290): the last reading and the frame count at which it came, the frame count at
which the channel became active, a reading that waits for slot 6 (code, open or short), whether it is broken and its good
readings since, whether it is watched, and the UPD count last used (R405). -/
structure ThmChan where
  active : Bool := false
  code : Int := 0
  readAt : Option Nat := none
  since : Nat := 0
  pend : Option (Int × Bool) := none
  broken : Bool := false
  good : Nat := 0
  watch : Bool := false
  upd : Nat := 0
  limited : Bool := false
deriving DecidableEq, Repr

/-- An analog output (R295 to R297): the range inside its stage, the frame of the write whose change runs and its
progress 0 to 3, whether it drives its SAFE code, and whether a safe state met a change. -/
structure AnalogOut where
  range : Nat := 0
  change : Option (BitVec 32) := none
  phase : Nat := 0
  onSafe : Bool := false
  safeMet : Bool := false
deriving DecidableEq, Repr

/-- The thermal block. `frames` counts the frames since reset; `die` and `card` are the old levels of R292, `crit` a
second-highest die reading at LIM + 3 × STEP; `levels` are the string levels evaluated, `applied` those in force with
the frames since they were entered. `setNow` are the outputs set at the slot boundary at hand, with their operations'
places in submission order. -/
structure Thm where
  chans : Store ThmChan := []
  frames : Nat := 0
  die : Nat := 0
  card : Nat := 0
  crit : Bool := false
  levels : Store Nat := []
  applied : Store (Nat × Nat) := []
  outs : Store AnalogOut := []
  setNow : List (Nat × Nat) := []
deriving DecidableEq, Repr

/-! ### Field I/O and CAN FD (R391 to R413) -/

/-- A change-of-state entry (R395). -/
structure CosEntry where
  pm : Nat
  input : Nat
  level : Bool
  broken : Bool
deriving DecidableEq, Repr

/-- A safe-state table (R399): DO actions, TIMEOUT, and the AO ranges and SAFE codes. -/
structure SafeTable where
  actions : Nat
  timeout : Nat
  aos : List (Nat × Nat)
deriving DecidableEq, Repr

/-- The field side. `levels` are the filtered levels, `runs` the samples at a new level and the postmark of the first;
`drive` are the output levels driven; `table` is what the field side holds; `silent` a safe state in force, `report` its
cause waiting to be reported; `safeDo` and `safeAo` are the outputs that wait for a write (R401); `tripped` are the outputs
off in fault (R398); `late` are the wire breaks of a silent time, told when the link returns. -/
structure Fio where
  levels : BitVec 16 := 0
  runs : Store (Nat × Nat) := []
  cos : List CosEntry := []
  lostNow : Nat := 0
  powered : Bool := true
  drive : BitVec 8 := 0
  table : Option SafeTable := none
  tableDue : Bool := true
  tableAge : Nat := 0
  silent : Bool := false
  report : Option Nat := none
  safeDo : BitVec 8 := 0
  safeAo : Nat := 0
  lostAt : BitVec 32 := 0
  setNow : List (Nat × BitVec 8) := []
  tripped : BitVec 8 := 0
  late : List (Nat × Bool) := []
deriving DecidableEq, Repr

/-- A pigeonhole (R403, R404): the frame last stored, its stamp and postmark, the UPD count and flags; the data and DLC of
the last CAN_SEND, a request, its operation and the frame of its trigger; stores over unread data in the frame; the CAN_SEND
that waits behind one past its commit point, with the frame of its trigger. -/
structure Hole where
  id : BitVec 30 := 0
  dlc : Nat := 0
  fdf : Bool := false
  brs : Bool := false
  esi : Bool := false
  data : List Byte := []
  stamp : BitVec 32 := 0
  pm : Nat := 0
  upd : Nat := 0
  fresh : Bool := false
  lost : Bool := false
  lostNow : Nat := 0
  send : Option (Nat × List Byte) := none
  asked : Bool := false
  op : Option Nat := none
  at' : BitVec 32 := 0
  next : Option (Nat × BitVec 32) := none
deriving DecidableEq, Repr

/-- The CAN controllers. `holes` is keyed by 128·controller + hole; `wasOff` marks controllers that have left error active
by error and not returned; `asks` marks sleeping ones with a send request since they fell asleep, `lastFrames` those with
a frame in progress when the logic side fell silent (R400); `count` is the CAN time counter as last reported, `cap` and `capPrev` the captures of the
last two frame boundaries (count, postmark), `capFrame` the frame of the last (R406). -/
structure Can where
  holes : Store Hole := []
  wasOff : List Nat := []
  asks : List Nat := []
  lastFrames : List Nat := []
  count : BitVec 32 := 0
  cap : BitVec 32 × Nat := (0, 0)
  capPrev : BitVec 32 × Nat := (0, 0)
  capFrame : BitVec 32 := 0
deriving DecidableEq, Repr


/-! ### The card and the machine -/

/-- Everything the spec gives the card. `free` counts the free values drawn (the model's own field). -/
structure Card where
  regs : Store Word := []
  sys : Sys := {}
  tim : Tim := {}
  hst : Hst := {}
  rcd : Rec := {}
  sec : Sec := {}
  lan : Lan := {}
  chn : Chn := {}
  til : Til := {}
  est : Est := {}
  imp : Imp := {}
  cnv : Cnv := {}
  saf : Saf := {}
  dsp : Dsp := {}
  thm : Thm := {}
  fio : Fio := {}
  can : Can := {}
  free : Nat := 0
deriving DecidableEq, Repr

/-- The machine: the card, and the commands that wait, first in first out. -/
structure State where
  card : Card
  pending : List Instr
deriving DecidableEq, Repr

/-- Why a command stops the machine: no command of the spec does, so there is no fault (safe). -/
inductive Fault where
deriving DecidableEq, Repr

/-- Why a command has no meaning here. -/
inductive Refusal where
  /-- No meaning yet for the command of this mnemonic. Raised by exec's arms only (safe). -/
  | notModelled (mnemonic : String)
deriving DecidableEq, Repr

/-- The card right after the release of a cold reset: every register at the Cold reset column, every structure empty,
and the card's delivery contents in MRAM and flash. -/
def Card.reset : Card := {}

/-- The machine right after a cold reset, with no command waiting. -/
def State.reset : State := { card := Card.reset, pending := [] }

end Sys2Proof.Machine
end

