-- ==== Sys2Proof/Machine/Operands.lean ====
section
/-! DEFINITION. Operand forms: bytes and little-endian words, the parameters of a descriptor (R310), the trigger word
(R44), serial comparison (R52), and checksums of byte strings. -/

namespace Sys2Proof.Machine

/-- The value of a little-endian byte string. -/
def fromLe (bs : List Byte) : Nat :=
  match bs with
  | [] => 0
  | b :: r => b.toNat + 256 * fromLe r

/-- The value of a big-endian byte string. -/
def fromBe (bs : List Byte) : Nat := fromLe bs.reverse

/-- The `n` low bytes of `v`, lowest first. -/
def le (n v : Nat) : List Byte :=
  match n with
  | 0 => []
  | n + 1 => BitVec.ofNat 8 v :: le n (v / 256)

/-- The `n` low bytes of `v`, highest first. -/
def be (n v : Nat) : List Byte := (le n v).reverse

/-- Two's complement reading of the `w` low bits of `v`. -/
def signed (w v : Nat) : Int :=
  let u := v % 2 ^ w
  if u < 2 ^ (w - 1) then (u : Int) else (u : Int) - (2 ^ w : Nat)

/-- The two's complement code of `v` in `w` bits. -/
def code (w : Nat) (v : Int) : Nat := (v % (2 ^ w : Nat)).toNat

/-- `v` held within `lo` to `hi`. -/
def clampInt (lo hi v : Int) : Int := if v < lo then lo else if hi < v then hi else v

/-- A 32-bit parameter from an integer, two's complement (R366). -/
def p32 (v : Int) : Word := BitVec.ofInt 32 v

/-- A 32-bit parameter from a count. -/
def pN (v : Nat) : Word := BitVec.ofNat 32 v

/-- The low and high words of a 64-bit parameter (R366). -/
def pLoHi (v : Nat) : List Word := [BitVec.ofNat 32 v, BitVec.ofNat 32 (v / 2 ^ 32)]

/-- A quotient whose rounding the spec does not state: exact where it is whole, otherwise the whole number below or
above, by a free choice. -/
def quot (n d : Int) : Int :=
  if d = 0 then 0 else if n % d = 0 then n / d else n / d + (if Config.roundUp n d then 1 else 0)

/-- Frame number `a` is after `b` (R52). -/
def after (a b : BitVec 32) : Bool :=
  let d := (a - b).toNat
  decide (1 ≤ d) && decide (d < 2 ^ 31)

/-- Frames from `b` to `a`, modulo 2^32. -/
def framesSince (a b : BitVec 32) : Nat := (a - b).toNat

/-! ### Descriptor parameters -/

end Sys2Proof.Machine

namespace Sys2Proof
open Sys2Proof.Machine

/-- Byte `i` of the opcode-specific area (offsets count from byte 16, R310). -/
def Desc.byte (d : Desc) (i : Nat) : Nat := d.area.toNat / 2 ^ (8 * i) % 256

/-- The little-endian field of `n` bytes at offset `i` of the area. -/
def Desc.at (d : Desc) (i n : Nat) : Nat := d.area.toNat / 2 ^ (8 * i) % 2 ^ (8 * n)

/-- The signed field of `n` bytes at offset `i`. -/
def Desc.signedAt (d : Desc) (i n : Nat) : Int := signed (8 * n) (d.at i n)

/-- The area holds ones only in the listed fields (offset, bytes): every byte not listed is zero (R310). -/
def Desc.only (d : Desc) (fields : List (Nat × Nat)) : Bool :=
  (List.range 48).all fun i => d.byte i == 0 || fields.any fun f => decide (f.1 ≤ i) && decide (i < f.1 + f.2)

/-- The slot of a TAG: bits 15:0. -/
def Desc.slot (d : Desc) : Nat := d.tag.toNat % 2 ^ 16

/-- FENCE, FLAGS bit 0. -/
def Desc.fence (d : Desc) : Bool := d.flags.getLsbD 0

/-- NO_EVENT, FLAGS bit 1. -/
def Desc.noEvent (d : Desc) : Bool := d.flags.getLsbD 1

/-- Byte 1 bits 7:2, TAG bits 31:18 or bytes 8 to 15 nonzero: HDR_RESERVED (R312 step 2). -/
def Desc.hdrReserved (d : Desc) : Bool :=
  decide (d.flags.toNat / 4 ≠ 0) || decide (d.tag.toNat / 2 ^ 18 ≠ 0) || decide (d.rsvd.toNat ≠ 0)

/-- The whole descriptor as 64 bytes (R310). -/
def Desc.bytes (opcode : Nat) (d : Desc) : List Byte :=
  le 1 opcode ++ le 1 d.flags.toNat ++ le 2 d.session.toNat ++ le 4 d.tag.toNat ++ le 8 d.rsvd.toNat
    ++ le 48 d.area.toNat

end Sys2Proof

namespace Sys2Proof.Machine

/-! ### The trigger word (R44) -/

/-- KIND. -/
def trigKind (w : Nat) : Nat := w / 2 ^ 62 % 4

/-- WHEN. -/
def trigWhen (w : Nat) : Nat := w % 2 ^ 62

/-- The trigger word completes RESERVED_FIELD: KIND 0b11, or a one in a bit that must be zero. -/
def trigReserved (w : Nat) : Bool :=
  match trigKind w with
  | 0 => decide (trigWhen w ≠ 0)
  | 1 => decide (trigWhen w / 2 ^ 35 ≠ 0)
  | 2 => false
  | _ => true

/-- Frame number of a FRAME trigger's WHEN. -/
def whenFrame (w : Nat) : BitVec 32 := BitVec.ofNat 32 w

/-- Slot of a FRAME trigger's WHEN. -/
def whenSlot (w : Nat) : Nat := w / 2 ^ 32 % 8

/-! ### Checksums -/

/-- One byte into a reflected CRC of the given polynomial: eight shifts. -/
def crcByte (poly : Nat) (k : Nat) (c : Nat) : Nat :=
  match k with
  | 0 => c
  | k + 1 => crcByte poly k (if c % 2 = 1 then (c / 2) ^^^ poly else c / 2)

/-- CRC-32 of IEEE 802.3. -/
def crc32 (bs : List Byte) : Nat :=
  (bs.foldl (fun c b => crcByte 0xEDB88320 8 (c ^^^ b.toNat)) 0xFFFFFFFF) ^^^ 0xFFFFFFFF

/-- Pads with zeros to a multiple of `n` bytes. -/
def padTo (n : Nat) (bs : List Byte) : List Byte := bs ++ List.replicate ((n - bs.length % n) % n) 0

/-- Bytes `i` to `i + n - 1` of a byte string. -/
def slice (bs : List Byte) (i n : Nat) : List Byte := (bs.drop i).take n

/-- The little-endian field of `n` bytes at offset `i` of a byte string. -/
def leAt (bs : List Byte) (i n : Nat) : Nat := fromLe (slice bs i n)

/-- Every byte from `i` on, `n` of them, is zero. -/
def zeroAt (bs : List Byte) (i n : Nat) : Bool := (slice bs i n).all (· == 0)

end Sys2Proof.Machine
end

