-- ==== Sys2Proof/Machine/Ops.lean ====
section
/-! DEFINITION. The named operations that every block uses: register fields, counters and flags, postmarks and time,
records, event sources, host memory, the operation tracker, triggers, sessions and descriptor acceptance. -/

namespace Sys2Proof.Machine

/-! ### Register fields -/

/-- A register's word. -/
def Card.reg (c : Card) (off : Nat) : Word := c.regs.get coldWord off

/-- Places a word in a register. -/
def Card.setReg (c : Card) (off : Nat) (v : Word) : Card := { c with regs := c.regs.set coldWord off v }

/-- A word's field. -/
def Fld.of (f : Fld) (w : Word) : Nat := w.toNat / 2 ^ f.lo % 2 ^ f.w

/-- A word with a field replaced by the low bits of `v`. -/
def Fld.put (f : Fld) (w : Word) (v : Nat) : Word :=
  let m := BitVec.ofNat 32 ((2 ^ f.w - 1) * 2 ^ f.lo)
  (w &&& ~~~m) ||| BitVec.ofNat 32 (v % 2 ^ f.w * 2 ^ f.lo)

/-- A register field's value. -/
def Card.fld (c : Card) (f : Fld) : Nat := f.of (c.reg f.off)

/-- A register field read as two's complement. -/
def Card.sfld (c : Card) (f : Fld) : Int := signed f.w (c.fld f)

/-- A one-bit field. -/
def Card.bit (c : Card) (f : Fld) : Bool := decide (c.fld f ≠ 0)

/-- Writes a register field. -/
def Card.setFld (c : Card) (f : Fld) (v : Nat) : Card := c.setReg f.off (f.put (c.reg f.off) v)

/-- Writes a one-bit field. -/
def Card.setBit (c : Card) (f : Fld) (b : Bool) : Card := c.setFld f (if b then 1 else 0)

/-- Writes a two's complement field. -/
def Card.setSfld (c : Card) (f : Fld) (v : Int) : Card := c.setFld f (code f.w v)

/-- Sets a sticky flag. The block's summary source fires when the flag rises (`settle`). -/
def Card.stick (c : Card) (f : Fld) : Card := c.setFld f 1

/-- Counts up by `n`, saturating at the field's greatest value. -/
def Card.count (c : Card) (f : Fld) (n : Nat := 1) : Card := c.setFld f (min (c.fld f + n) (2 ^ f.w - 1))

/-- Applies a change where a condition holds. -/
def Card.when (c : Card) (b : Bool) (f : Card → Card) : Card := if b then f c else c

/-- Applies a change for each element of a list, in order. -/
def Card.each {α : Type} (c : Card) (l : List α) (f : Card → α → Card) : Card := l.foldl f c

/-- The strings 1 to 4. -/
def strings : List Nat := [1, 2, 3, 4]

/-- Draws the next free value's number. -/
def Card.draw (c : Card) : Nat × Card := (c.free, { c with free := c.free + 1 })

/-! ### Time -/

/-- The postmark now: whole nanoseconds of the time counter (R51). -/
def Card.pm (c : Card) : Nat := c.tim.now / 2 ^ 32 % 2 ^ 64

/-- The present frame number (R36). -/
def Card.frame (c : Card) : BitVec 32 := c.tim.frame

/-- Lets `ns` nanoseconds of the time counter pass. -/
def Card.advance (c : Card) (ns : Nat) : Card :=
  { c with tim.clock := c.tim.clock + ns, tim.now := c.tim.now + ns * 2 ^ 32, tim.elapsed := c.tim.elapsed + ns }

/-- One cycle of the 250 MHz card reference: 4 ns plus the rate correction (R30). -/
def Card.cycle (c : Card) : Card :=
  { c with
    tim.clock := c.tim.clock + 4
    tim.now := ((c.tim.now : Int) + 4 * 2 ^ 32 + 4 * c.sfld TIM_RATE_ADJ.RATE_ADJ).toNat
    tim.elapsed := c.tim.elapsed + 4 }

/-- TIME_STATE UNQUALIFIED. -/
def Card.unqualified (c : Card) : Bool := decide (c.fld TIM_STATUS.TIME_STATE = 0)

/-! ### Event sources and MSI-X (R325, R326) -/

/-- Whether the module may master the bus: Bus Master Enable, and not in D3hot (R302, R320). -/
def Card.masters (c : Card) : Bool := c.hst.busMaster && !c.hst.d3

/-- An MSI-X vector's record. -/
def Card.vec (c : Card) (v : Nat) : Vec := c.hst.vecs.get (fun _ => {}) v

/-- Writes an MSI-X vector's record. -/
def Card.setVec (c : Card) (v : Nat) (x : Vec) : Card := { c with hst.vecs := c.hst.vecs.set (fun _ => {}) v x }

/-- Sends the vector's message now. -/
def Card.sendVec (c : Card) (v : Nat) : Card :=
  let x := c.vec v
  c.setVec v { x with pending := false, merged := false, last := some c.tim.clock, sent := x.sent + 1 }

/-- The interval MOD has passed since the vector last sent. -/
def Card.modPassed (c : Card) (v : Nat) : Bool :=
  match (c.vec v).last with
  | none => true
  | some t => decide (t + 1000 * c.fld HST_EV_CFG.MOD ≤ c.tim.clock)

/-- A firing routed to a vector: masked, pending; within MOD of the last message, merged; otherwise sent (R326). -/
def Card.fireVec (c : Card) (v : Nat) : Card :=
  let x := c.vec v
  if x.masked || !c.masters then c.setVec v { x with pending := true }
  else if c.modPassed v then c.sendVec v
  else c.setVec v { x with merged := true }

/-- Source `n`, one of 512, fires: its pending bit is set, and its vector's message goes when EN is 1. -/
def Card.fire (c : Card) (n : Nat) : Card :=
  if 512 ≤ n then c
  else
  let c := c.setFld ⟨HST_EV_PEND (n / 32), n % 32, 1⟩ 1
  if c.bit (HST_EV_MAP.EN n) then c.fireVec (c.fld (HST_EV_MAP.VECTOR n)) else c

/-! ### Records (R366, R369) -/

/-- The severity of each event code (R367), from the event tables of the chapters; `none` for a code that no table
lists, which the module never records. -/
def eventSev (code : Nat) : Option Nat :=
  match code with
  | 0x0001 => some 4
  | 0x0002 => some 2
  | 0x0003 => some 4
  | 0x0004 => some 2
  | 0x0005 => some 6
  | 0x0010 => some 2
  | 0x0011 => some 3
  | 0x0012 => some 2
  | 0x0013 => some 2
  | 0x0014 => some 5
  | 0x0015 => some 4
  | 0x0016 => some 3
  | 0x0061 => some 4
  | 0x0062 => some 5
  | 0x0063 => some 2
  | 0x1001 => some 2
  | 0x1002 => some 4
  | 0x1003 => some 5
  | 0x1004 => some 4
  | 0x1005 => some 3
  | 0x1006 => some 3
  | 0x1010 => some 4
  | 0x1011 => some 3
  | 0x1020 => some 4
  | 0x1021 => some 2
  | 0x1022 => some 1
  | 0x1030 => some 3
  | 0x1031 => some 1
  | 0x2001 => some 4
  | 0x2002 => some 2
  | 0x2003 => some 2
  | 0x2004 => some 2
  | 0x2005 => some 5
  | 0x2006 => some 4
  | 0x2007 => some 4
  | 0x2009 => some 5
  | 0x200A => some 4
  | 0x200B => some 4
  | 0x200C => some 5
  | 0x3001 => some 2
  | 0x3002 => some 3
  | 0x3010 => some 2
  | 0x3020 => some 4
  | 0x3021 => some 5
  | 0x3022 => some 5
  | 0x3023 => some 6
  | 0x3025 => some 3
  | 0x3030 => some 3
  | 0x3032 => some 2
  | 0x3080 => some 2
  | 0x3081 => some 4
  | 0x4003 => some 5
  | 0x4004 => some 5
  | 0x4005 => some 5
  | 0x4010 => some 1
  | 0x4018 => some 4
  | 0x4019 => some 4
  | 0x4020 => some 5
  | 0x4021 => some 1
  | 0x4022 => some 5
  | 0x4030 => some 4
  | 0x4031 => some 2
  | 0x5001 => some 2
  | 0x5002 => some 4
  | 0x5003 => some 3
  | 0x5004 => some 2
  | 0x5005 => some 3
  | 0x5010 => some 5
  | 0x5011 => some 2
  | 0x5020 => some 5
  | 0x5021 => some 1
  | 0x6001 => some 2
  | 0x6002 => some 2
  | 0x6003 => some 5
  | 0x6004 => some 3
  | 0x6006 => some 4
  | 0x6008 => some 4
  | 0x6010 => some 4
  | 0x6011 => some 4
  | 0x6012 => some 3
  | 0x6013 => some 2
  | 0x6020 => some 3
  | 0x6021 => some 5
  | 0x7001 => some 3
  | 0x7002 => some 2
  | 0x7003 => some 3
  | 0x7004 => some 5
  | 0x7005 => some 4
  | 0x7006 => some 2
  | 0x7007 => some 5
  | 0x7010 => some 1
  | 0x7011 => some 4
  | 0x7012 => some 2
  | 0x7013 => some 4
  | 0x7014 => some 5
  | 0x7015 => some 3
  | 0x8001 => some 7
  | 0x8002 => some 2
  | 0x8003 => some 3
  | 0x8004 => some 4
  | 0x8005 => some 2
  | 0x8006 => some 5
  | 0x8010 => some 2
  | 0x8011 => some 2
  | 0x8012 => some 4
  | 0x8013 => some 4
  | 0x8014 => some 4
  | 0x8020 => some 6
  | 0x8021 => some 3
  | 0x8030 => some 6
  | 0x8031 => some 3
  | 0x9001 => some 4
  | 0x9002 => some 2
  | 0x9003 => some 1
  | 0x9004 => some 1
  | 0x9010 => some 3
  | 0x9012 => some 6
  | 0x9013 => some 3
  | 0x9020 => some 2
  | 0x9021 => some 4
  | 0xA001 => some 4
  | 0xA002 => some 2
  | 0xA003 => some 5
  | 0xA010 => some 3
  | 0xA011 => some 3
  | 0xA020 => some 4
  | 0xA021 => some 3
  | 0xA022 => some 4
  | 0xA030 => some 3
  | 0xA040 => some 1
  | 0xB001 => some 4
  | 0xB002 => some 2
  | 0xB003 => some 5
  | 0xB004 => some 5
  | 0xB010 => some 4
  | 0xB011 => some 5
  | 0xB012 => some 5
  | 0xB013 => some 2
  | 0xB014 => some 5
  | 0xB020 => some 6
  | 0xB030 => some 3
  | 0xB031 => some 3
  | 0xB032 => some 3
  | 0xB033 => some 4
  | 0xB040 => some 2
  | 0xB041 => some 4
  | 0xB042 => some 5
  | 0xB050 => some 2
  | 0xB051 => some 4
  | 0xC001 => some 5
  | 0xC002 => some 3
  | 0xC010 => some 5
  | 0xC012 => some 4
  | 0xC020 => some 4
  | 0xC021 => some 2
  | 0xC022 => some 4
  | 0xC030 => some 2
  | 0xC031 => some 5
  | 0xC032 => some 2
  | 0xD001 => some 4
  | 0xD002 => some 2
  | 0xD003 => some 3
  | 0xD010 => some 4
  | 0xD011 => some 4
  | 0xD020 => some 5
  | 0xD021 => some 2
  | 0xD022 => some 5
  | 0xD023 => some 4
  | 0xE001 => some 3
  | 0xE002 => some 5
  | 0xE003 => some 2
  | 0xE004 => some 3
  | 0xE005 => some 2
  | 0xE006 => some 2
  | 0xE007 => some 4
  | 0xF001 => some 3
  | 0xF002 => some 2
  | 0xF003 => some 4
  | 0xF004 => some 5
  | 0xF010 => some 1
  | 0xF011 => some 1
  | 0xF012 => some 1
  | 0xF013 => some 3
  | 0xF020 => some 4
  | 0xF021 => some 4
  | 0xF030 => some 4
  | 0xF031 => some 3
  | 0xF032 => some 2
  | 0xF033 => some 4
  | _ => none

/-- Counts a dropped record of a severity: its REC_DROP field, the frame's drops, DROPPED (R370). -/
def Card.countDrop (c : Card) (sev : Nat) : Card :=
  let f := if sev % 2 = 0 then REC_DROP.EVEN (sev % 8 / 2) else REC_DROP.ODD (sev % 8 / 2)
  { (c.count f).stick REC_STICKY.DROPPED with
    rcd.dropsNow := c.rcd.dropsNow.modify sev (fun n => min (n + 1) 255) }

/-- The string event source of R325 that a code fires: k of source 96 + 8(s − 1) + k. -/
def stringSource (ev : Nat) : Option Nat :=
  match ev with
  | 0x8001 => some 0
  | 0x6003 => some 1
  | 0x4001 => some 2
  | 0x4002 => some 3
  | 0x7005 => some 4
  | 0x9010 => some 5
  | 0x2001 => some 6
  | 0x2002 => some 6
  | 0x5010 => some 7
  | _ => none

/-- Hands over a record of postmark `pm`, for the intake after the command (R366, R369). A code outside the tables is never
recorded (R367). -/
def Card.recordAt (c : Card) (pm : Nat) (ev : Nat) (ps : List Word) : Card :=
  match eventSev ev with
  | none => c
  | some sev =>
    let fl := sev + (if c.rcd.replay then 16 else 0) + (if c.tim.everLocked then 0 else 32)
    { c with rcd.handed := c.rcd.handed ++
        [{ code := ev, sevflags := fl, pm := pm, p := (ps ++ List.replicate 4 0).take 4 }] }

/-- Hands over a record of the present postmark. -/
def Card.record (c : Card) (ev : Nat) (ps : List Word := []) : Card := c.recordAt c.pm ev ps

/-- A string event: the record, and the string's event source of R325. -/
def Card.recordStr (c : Card) (s ev : Nat) (ps : List Word) : Card :=
  let c := c.record ev ps
  match stringSource ev with
  | some k => c.fire (96 + 8 * (s - 1) + k)
  | none => c

/-! ### Journal items and host memory -/

/-- Adds an item to the open journal entry: section TYPE, INDEX and bytes (R378). -/
def Card.jrn (c : Card) (typ idx : Nat) (bs : List Byte) : Card :=
  { c with rcd.items := c.rcd.items ++ [(typ, idx, bs)] }

/-- A 16-byte TIME item (R378): kind, zeros, value. -/
def Card.jrnTime (c : Card) (kind : Nat) (v : Int) : Card :=
  c.jrn 0x01 0 (le 8 kind ++ le 8 (code 64 v))

/-- A 16-byte item whose layout R378 leaves to the module (HOST writes, ARBITRATION): the happening's code, then free
bytes. -/
def Card.jrnFree (c : Card) (typ : Nat) : Card :=
  let (n, c) := c.draw
  c.jrn typ 0 (Config.freeBytes n 16)

/-- A FIELD item (R378): input number, data, time from the frame start, value. -/
def Card.jrnField (c : Card) (input : Nat) (v : Int) (data : List Byte := []) : Card :=
  let t := c.pm - c.tim.framePm
  c.jrn 0x05 0 (le 2 input ++ le 2 data.length ++ le 4 t ++ le 8 (code 64 v) ++ padTo 8 data)

/-- A SWITCHING item (R378): a crossing of kind `kind` that the engine or the fabric acts on, at phase `k` of string `s`.
A crossing of a whole string bears its phase 1. -/
def Card.jrnSwitch (c : Card) (s k kind : Nat) : Card :=
  c.jrn 0x04 0 (le 4 ((c.pm - c.tim.framePm) / 4 % 2 ^ 18 + (6 * (s - 1) + k - 1) % 32 * 2 ^ 18 + kind * 2 ^ 23))

/-- A precise sample enters the frame's journal entry: groups of the 9 channel codes in channel order, 3 bytes each; a
channel without a sample reads zero (R378). -/
def Card.jrnPrecise (c : Card) (s j : Nat) (v : Int) (pm : Nat) : Card :=
  let x : PreciseRun := (c.rcd.precise.get (fun _ => none) s).getD { first := pm }
  let gap := if x.next ≤ j then j - x.next else 9 - x.next + j
  let y : PreciseRun := { x with next := j + 1, bytes := x.bytes ++ le (3 * gap) 0 ++ le 3 (code 18 v) }
  { c with rcd.precise := c.rcd.precise.set (fun _ => none) s (some y) }

/-- A byte of host memory that the module has written; zero where it has written nothing. -/
def noByte : Nat → Byte := fun _ => 0

/-- The module writes bytes into host memory, when it may master the bus. -/
def Card.dma (c : Card) (addr : Nat) (bs : List Byte) : Card :=
  if c.masters then { c with hst.mem := c.hst.mem.setRange noByte addr bs } else c

/-! ### The live configuration image's tables -/

/-- The bytes of a table that begin at `at'` become `bs`; bytes never written before them are zero. -/
def overlay (old : List Byte) (at' : Nat) (bs : List Byte) : List Byte :=
  (old ++ List.replicate at' 0).take at' ++ bs ++ old.drop (at' + bs.length)

/-- The identifier of a table of the configuration: kind 1 TIL_TABLE_LOAD, 2 CNV_FF_LOAD, 3 IMP_PLAN_LOAD, of a string. -/
def tableId (kind s : Nat) : Nat := 16 * kind + s

/-- The live image follows an applied table load (R359). -/
def Card.setLive (c : Card) (kind s at' : Nat) (bs : List Byte) : Card :=
  let k := tableId kind s
  { c with lan.live := c.lan.live.set (fun _ => []) k (overlay (c.lan.live.get (fun _ => []) k) at' bs) }

/-! ### The operation tracker (R311 to R316, R321) -/

/-- The operation in flight in a slot. -/
def Card.op (c : Card) (slot : Nat) : Option Op := c.hst.ops.get (fun _ => none) slot

/-- Places or removes an operation. -/
def Card.setOp (c : Card) (slot : Nat) (o : Option Op) : Card :=
  { c with hst.ops := c.hst.ops.set (fun _ => none) slot o }

/-- Changes the operation in a slot. -/
def Card.modOp (c : Card) (slot : Nat) (f : Op → Op) : Card :=
  match c.op slot with
  | some o => c.setOp slot (some (f o))
  | none => c

/-- The slots in flight, with their operations. -/
def Card.flights (c : Card) : List (Nat × Op) := c.hst.ops.filterMap fun x => x.2.map fun o => (x.1, o)

/-- The slots whose operations have not completed, with their operations. -/
def Card.running (c : Card) : List (Nat × Op) := c.flights.filter fun x => !x.2.produced

/-- Marks an operation's commit point reached. -/
def Card.commit (c : Card) (slot : Nat) : Card := c.modOp slot fun o => { o with committed := true }

/-- Sets an operation's progress number. -/
def Card.setPhase (c : Card) (slot n : Nat) : Card := c.modOp slot fun o => { o with phase := n }

/-- A submission ring. -/
def Card.sq (c : Card) (n : Nat) : Sq := c.hst.sqs.get (fun _ => {}) n

/-- Writes a submission ring's record. -/
def Card.setSq (c : Card) (n : Nat) (q : Sq) : Card := { c with hst.sqs := c.hst.sqs.set (fun _ => {}) n q }

/-- A completion ring. -/
def Card.cq (c : Card) (n : Nat) : Cq := c.hst.cqs.get (fun _ => {}) n

/-- Writes a completion ring's record. -/
def Card.setCq (c : Card) (n : Nat) (q : Cq) : Card := { c with hst.cqs := c.hst.cqs.set (fun _ => {}) n q }

/-- The bytes of a completion (R311). -/
def Cpl.bytes (p : Cpl) (phase : Bool) (sqHead : Nat) : List Byte :=
  le 4 p.result.toNat ++ le 2 p.reason ++ le 1 p.status
    ++ le 1 ((if phase then 1 else 0) + (if p.abortLost then 2 else 0))
    ++ le 4 (p.tag.toNat + p.sq * 2 ^ 18) ++ le 2 p.index ++ le 2 sqHead

/-- A CQ is full while (tail + 1) mod entries equals its head (R316). -/
def Cq.isFull (q : Cq) : Bool := decide ((q.tail + 1) % 2 ^ q.log2 = q.head)

/-- A completion ring after one more entry: tail, PHASE by pass, and whether it is full (R311, R316). -/
def Cq.next (q : Cq) : Cq :=
  let t := (q.tail + 1) % 2 ^ q.log2
  let q' := { q with tail := t, phase := if t = 0 then !q.phase else q.phase }
  { q' with full := q'.isFull }

/-- The slot of a completed operation falls free (R313). -/
def Card.freeSlot (c : Card) (owner : Option Nat) : Card :=
  match owner with
  | some slot => c.setOp slot none
  | none => c

/-- A CQ becomes full: CQ_FULL, source 87 and event 0xA021 with the completions that wait for it (R316). -/
def Card.cqFull (c : Card) (n : Nat) : Card :=
  ((c.stick HST_STICKY.CQ_FULL).fire 87).record 0xA021 [pN n, pN (c.hst.waiting.filter (·.cq == n)).length]

/-- Posts a completion into its CQ: 16 bytes, the CQ's source, and the slot falls free (R311, R313, R325). A CQ that
becomes full says so (R316). -/
def Card.post (c : Card) (p : Cpl) : Card :=
  let q := c.cq p.cq
  let bs := p.bytes q.phase (c.sq p.sq).head
  let c := ((c.dma (q.base + 16 * q.tail) bs).setCq p.cq q.next).freeSlot p.owner
  let c := if p.noEvent then c else c.fire p.cq
  if q.next.full && !q.full then c.cqFull p.cq else c

/-- A completion enters the orphan table (R321); a full table drops its oldest entry. -/
def Card.orphan (c : Card) (p : Cpl) : Card :=
  let e := p.bytes false (c.sq p.sq).head ++ le 8 c.pm
    ++ le 1 ((if p.committed then 1 else 0) + (if p.dataLost then 2 else 0)) ++ le 7 0
  let c := if 4096 ≤ c.hst.orphans.length then
      ({ c with hst.orphans := c.hst.orphans.drop 1 }.stick HST_STICKY.ORPHAN_LOST).record 0xA022 [1]
    else c
  ({ c with hst.orphans := c.hst.orphans ++ [e] }.freeSlot p.owner).fire 88

/-- A completion is produced: posted at once where its CQ has room and none waits for it, and the module masters the
bus; otherwise it waits in the tracker in completion order (R314, R316). -/
def Card.produce (c : Card) (p : Cpl) : Card :=
  if c.masters && !(c.cq p.cq).isFull && !c.hst.waiting.any (·.cq == p.cq) then c.post p
  else { c with hst.waiting := c.hst.waiting ++ [p] }

/-- Posts waiting completions, oldest first, while their CQs have room; at most `n` of them. -/
def Card.drainWaiting (n : Nat) (c : Card) : Card :=
  match n with
  | 0 => c
  | n + 1 =>
    match c.hst.waiting.find? fun p => !(c.cq p.cq).isFull with
    | some p => if c.masters then
        Card.drainWaiting n ({ c with hst.waiting := c.hst.waiting.erase p }.post p) else c
    | none => c

/-- The opcodes whose completion records no 0xF010 (R424). -/
def unaudited : List Nat :=
  [0x00, 0xC0, 0xC1, 0xC2, 0xC5, 0x07, 0x08, 0x0A, 0x23, 0x26, 0x33, 0x42, 0x53, 0x58, 0x65, 0x72, 0x73, 0x91, 0x93,
   0xA0, 0xA1, 0xB2]

/-- The audit record 0xF010 of a completion (R424). -/
def Card.audit (c : Card) (opcode role : Nat) (session : BitVec 16) (status reason : Nat) : Card :=
  if unaudited.contains opcode then c
  else c.record 0xF010 [pN session.toNat, pN role, pN opcode, pN (status * 65536 + reason)]

/-- Completes the operation in a slot with a status, reason and RESULT. Its trigger leaves the time unit. An
operation accepted before a host-interface reset completes into the orphan table (R321). -/
def Card.complete (c : Card) (slot status reason : Nat) (result : Word := 0) : Card :=
  match c.op slot with
  | none => c
  | some o =>
    if o.produced then c
    else
      let p : Cpl := {
        cq := o.cq, sq := o.desc.sq, index := o.index, tag := o.desc.tag.setWidth 18
        result := result, reason := reason, status := status
        noEvent := o.desc.noEvent, owner := some slot, committed := o.committed
        abortLost := o.abortLost, dataLost := decide (reason = 0xA041) }
      let c := c.audit o.opcode o.role o.desc.session status reason
      let c := c.setOp slot (some { o with produced := true, trig := none })
      if o.orphan then c.orphan p else c.produce p

/-- Completes DONE with reason 0. -/
def Card.done (c : Card) (slot : Nat) (result : Word := 0) : Card := c.complete slot 0 0 result

/-- An aborted-too-late target keeps the mark ABORT_LOST for its completion (R317). -/
def Card.markAbortLost (c : Card) (slot : Nat) : Card :=
  let c := c.modOp slot fun o => { o with abortLost := true }
  { c with hst.waiting := c.hst.waiting.map fun p =>
      if p.owner = some slot then { p with abortLost := true } else p }

/-- Completes DONE after writing a host buffer. An operation accepted before a host-interface reset makes no such
access and completes FLUSHED with HOST_RESET_DMA (R320). -/
def Card.doneWith (c : Card) (slot addr : Nat) (bs : List Byte) (result : Word := 0) : Card :=
  match c.op slot with
  | some o => if o.orphan then c.complete slot 0x0A 0xA041 else (c.dma addr bs).done slot result
  | none => c

/-- The descriptor of the operation in a slot. -/
def Card.descOf (c : Card) (slot : Nat) : Desc :=
  match c.op slot with
  | some o => o.desc
  | none => {}

/-! ### Triggers (R44 to R50, R462) -/

/-- The pending triggers: of the tracker's operations, and of plant requests. -/
def Card.opTriggers (c : Card) : Nat :=
  (c.flights.filter fun x => x.2.trig.isSome).length
    + (c.dsp.entries.filter fun x => x.2.any fun e => e.state == 1 && e.slot.isNone).length

/-- The trigger checks of R462 against `held` triggers in the table: status and reason of the first that fails. -/
def Card.trigCheck (c : Card) (held : Nat) (w : Nat) : Option (Nat × Nat) :=
  let k := trigKind w
  let wh := trigWhen w
  if k = 2 ∧ c.unqualified then some (3, 0xF003)
  else if k = 1 ∧ (after c.frame (whenFrame wh) ∨ framesSince (whenFrame wh) c.frame = 2 ^ 31
      ∨ (whenFrame wh = c.frame ∧ whenSlot wh ≤ c.tim.slot)) then some (3, 0xF001)
  else if k = 2 ∧ wh < c.pm then some (3, 0xF001)
  else if k = 2 ∧ c.pm + 2 ^ 31 * 1000000 < wh then some (3, 0xF002)
  else if 1024 ≤ held then some (3, 0xF004)
  else none

/-- A trigger has come due at the present instant (R44). IMMEDIATE is due at every slot boundary. -/
def Card.trigDue (c : Card) (t : Trig) : Bool :=
  match t.kind with
  | 0 => true
  | 1 => after c.frame (whenFrame t.at') || (decide (whenFrame t.at' = c.frame) && decide (whenSlot t.at' ≤ c.tim.slot))
  | _ => decide (t.at' ≤ c.pm) || t.late

/-! ### Sessions (R422) -/

/-- The open session of an identifier. -/
def Card.session (c : Card) (id : BitVec 16) : Option Session := c.sec.sessions.find? (·.id == id)

/-- The session check of R422 for an opcode that needs role `need` (0: none). -/
def Card.sessionCheck (c : Card) (need : Nat) (id : BitVec 16) : Option (Nat × Nat) :=
  if need = 0 then none
  else match c.session id with
    | none => some (8, 0xF102)
    | some x => if x.path = 1 then some (8, 0xF102) else if x.role < need then some (8, 0xF103) else none

/-- The role of a session; 0 without one. -/
def Card.roleOf (c : Card) (id : BitVec 16) : Nat :=
  match c.session id with
  | some x => x.role
  | none => 0

/-- A passed session check counts as a use of the session (R421). -/
def Card.touch (c : Card) (id : BitVec 16) : Card :=
  { c with sec.sessions := c.sec.sessions.map fun x => if x.id = id then { x with last := c.tim.clock } else x }

/-! ### The card's modes -/

/-- SYS_CFG_STAT.STATE is HOLD (R361). -/
def Card.holding (c : Card) : Bool := decide (c.fld SYS_CFG_STAT.STATE = 1)

/-- REMOVE is not IN_SERVICE, from the slot boundary at which the drain opens the strings (R446). -/
def Card.draining (c : Card) : Bool := decide (c.fld SYS_SLOT.REMOVE ≠ 0) && !c.sys.drainPending

/-- The opcodes that replay mode serves (R384); LAN_HANDOVER only in mode 1. -/
def replayServes (opcode : Nat) (d : Desc) : Bool :=
  decide (opcode ≤ 0x0A) || [0x11, 0x30, 0x31, 0xA0, 0xA1, 0xA2, 0xA3, 0xA4, 0xA5, 0xB0, 0xB1, 0xB2, 0xC0, 0xC1, 0xC2,
    0xC3, 0xC4, 0xC5, 0xC6, 0xC7].contains opcode || (decide (opcode = 0xB4) && decide (d.byte 0 = 1))

/-- The opcodes that recovery serves (R352). -/
def recoveryServes (opcode : Nat) (d : Desc) : Bool :=
  decide (opcode ≤ 0x0A) || [0x11, 0xB0, 0xB1, 0xB2, 0xC0, 0xC1, 0xC2, 0xC3, 0xC4, 0xC5, 0xC6, 0xC7].contains opcode
    || (decide (opcode = 0xB4) && decide (d.byte 0 = 1))

/-! ### Acceptance (R312) -/

/-- What an opcode adds to acceptance: its code and role; the chapter's RESERVED_FIELD checks; whether CFG_HOLD and
DRAINING apply; the chapter's other checks; its trigger word; what the accepted operation does at once; what it does
when its trigger fires; and at which slot boundaries its block accepts work. -/
structure Row where
  opcode : Nat
  role : Nat
  args : Card → Desc → Option (Nat × Nat)
  hold : Bool := false
  drain : Desc → Bool := fun _ => false
  checks : Card → Desc → Option (Nat × Nat × Word) := fun _ _ => none
  trig : Desc → Option Nat := fun _ => none
  start : Nat → Card → Card
  fire : Nat → Card → Card := fun _ c => c
  slots : Nat → Bool := fun _ => true

/-- A SEC_RESPOND uses up the handle that it names, whatever its outcome (R417). -/
def Card.spendHandle (c : Card) (opcode : Nat) (d : Desc) : Card :=
  if opcode ≠ 0xC1 then c
  else { c with sec.challenges := c.sec.challenges.filter fun x => x.path != 0 || x.handle.toNat != d.at 0 2 }

/-- A descriptor that a check refuses completes at once and never becomes an operation in flight. -/
def Card.refuse (c : Card) (opcode : Nat) (d : Desc) (index status reason : Nat) (result : Word := 0) : Card :=
  let c := c.audit opcode (c.roleOf d.session) d.session status reason
  c.produce {
    cq := (c.sq d.sq).cq, sq := d.sq, index := index, tag := d.tag.setWidth 18, result := result
    reason := reason, status := status, noEvent := d.noEvent }

/-- The steps 2 to 4 of R312, with IN_REPLAY and NO_FIRMWARE after the session check (R384, R352). -/
def Card.headChecks (c : Card) (r : Row) (d : Desc) : Option (Nat × Nat) :=
  if d.hdrReserved then some (7, 0xA002)
  else if (c.op d.slot).isSome then some (9, 0xA004)
  else match c.sessionCheck r.role d.session with
    | some e => some e
    | none =>
      if c.rcd.replay && !replayServes r.opcode d then some (3, 0xC00D)
      else if c.lan.recovery && !recoveryServes r.opcode d then some (3, 0xB015)
      else none

/-- Step 5 of R312 with the order of R361 and R462: RESERVED_FIELD checks, CFG_HOLD, DRAINING, the chapter's other
checks, then the trigger's. -/
def Card.ownChecks (c : Card) (r : Row) (d : Desc) : Option (Nat × Nat × Word) :=
  match r.args c d with
  | some e => some (e.1, e.2, 0)
  | none =>
    if r.hold && c.holding then some (3, 0xB0F0, 0)
    else if r.drain d && c.draining then some (3, 0x0003, 0)
    else match r.checks c d with
      | some e => some e
      | none =>
        match r.trig d with
        | none => none
        | some w => (c.trigCheck c.opTriggers w).map fun e => (e.1, e.2, 0)

/-- The accepted descriptor becomes the operation in flight of its slot. -/
def Card.enter (c : Card) (r : Row) (d : Desc) (index : Nat) : Card :=
  let c := if r.role = 0 then c else c.touch d.session
  let o : Op := {
    opcode := r.opcode, desc := d, cq := (c.sq d.sq).cq, index := index, role := c.roleOf d.session
    order := c.hst.order, frame := c.frame
    trig := (r.trig d).map fun w => { kind := trigKind w, at' := trigWhen w } }
  { c.setOp d.slot (some o) with hst.order := c.hst.order + 1 }

/-- A descriptor enters the journal: itself, the buffer it reads but for chapter 16's secrets, and its session's outcome
(R378). -/
def Card.noteArrival (c : Card) (r : Row) (d : Desc) (index : Nat) : Card :=
  let c := c.jrn 0x06 0 (le 2 d.sq ++ le 2 index ++ le 4 c.tim.slot ++ d.bytes r.opcode)
  let c := if d.buf = [] ∨ r.opcode / 16 = 0xC then c
    else c.jrn 0x07 0 (le 4 d.tag.toNat ++ le 4 d.buf.length ++ d.buf)
  if r.role = 0 then c else c.jrnFree 0x09

/-- Acceptance of a descriptor that has arrived whole (R312). -/
def Card.acceptNow (c : Card) (r : Row) (d : Desc) (index : Nat) : Card :=
  let c := c.noteArrival r d index
  match c.headChecks r d with
  | some e => (c.spendHandle r.opcode d).refuse r.opcode d index e.1 e.2
  | none =>
    match c.ownChecks r d with
    | some e => ((if r.role = 0 then c else c.touch d.session).spendHandle r.opcode d).refuse r.opcode d index e.1 e.2.1 e.2.2
    | none => r.start d.slot (c.enter r d index)

/-- A FENCE holds this descriptor back: an earlier operation of its SQ has no posted completion, or an earlier
descriptor of its SQ is held (R314). -/
def Card.fenced (c : Card) (d : Desc) : Bool :=
  c.hst.held.any (·.2.1.sq == d.sq)
    || (d.fence && (c.flights.any (fun x => x.2.desc.sq == d.sq) || c.hst.waiting.any (·.sq == d.sq)))

/-- The bytes of the oldest fetched entry of an SQ arrive. Where nothing was fetched from that SQ there is no such
arrival, and nothing happens. -/
def Card.accept (c : Card) (r : Row) (d : Desc) : Card :=
  match c.hst.arriving.find? (·.1 == d.sq) with
  | none => c
  | some a =>
    let c := { c with hst.arriving := c.hst.arriving.erase a }
    if c.fenced d then { c with hst.held := c.hst.held ++ [(r.opcode, d, a.2)] }
    else c.acceptNow r d a.2

end Sys2Proof.Machine
end

