-- ==== Sys2Proof/Machine/Views.lean ====
section
/-! DEFINITION. What follows every command at once: the summary sources (R325), ring deletions that can now end (R331),
and the registers that show live contents. -/

namespace Sys2Proof.Machine

/-! ### The control lanes' states (R335) -/

/-- A core's record. -/
def Card.core (c : Card) (l k : Nat) : Core := c.lan.cores.get (fun _ => {}) (3 * l + k)

/-- Writes a core's record. -/
def Card.setCore (c : Card) (l k : Nat) (x : Core) : Card :=
  { c with lan.cores := c.lan.cores.set (fun _ => {}) (3 * l + k) x }

/-- The state field of a lane. -/
def laneFld (l : Nat) : Fld := if l = 0 then LAN_STATUS.A_STATE else LAN_STATUS.B_STATE

/-- A lane's state: 0 RESET, 1 BOOTING, 2 IMPORTING, 3 SHADOW, 4 PRIMARY, 5 UPD_SHADOW, 6 FAILED, 7 SPLIT. -/
def Card.laneState (c : Card) (l : Nat) : Nat := c.fld (laneFld l)

/-- Puts a lane in a state. -/
def Card.setLaneState (c : Card) (l v : Nat) : Card := c.setFld (laneFld l) v

/-- The primary lane (LAN_STATUS.PRIMARY). -/
def Card.primary (c : Card) : Nat := c.fld LAN_STATUS.PRIMARY

/-- The lane that is not primary. -/
def Card.shadow (c : Card) : Nat := 1 - c.primary

/-- A debugger has halted lane A's cores (R427, R429). -/
def Card.halted (c : Card) : Bool := decide (c.sec.dbg.state = 2)

/-- A lane decides for the module: the primary lane in service, or in split mode core A0 running; not lane A halted. -/
def Card.laneRuns (c : Card) : Bool :=
  if c.lan.split then decide (c.laneState 0 = 7) && !(c.core 0 0).stopped && !c.halted
  else decide (c.laneState c.primary = 4) && !(decide (c.primary = 0) && c.halted)

/-! ### Records (R366, R52) -/

/-- The 32 bytes of a record. -/
def Record.bytes (r : Record) : List Byte :=
  le 2 r.code ++ le 2 r.sevflags ++ le 4 r.seq ++ le 8 r.pm ++ (r.p.take 4).flatMap fun w => le 4 w.toNat

/-- Severity, SEVFLAGS bits 2:0. -/
def Record.sev (r : Record) : Nat := r.sevflags % 8

/-- The serial order of R52 on sequence numbers: `a` is older than `b`. -/
def olderSeq (a b : Nat) : Bool := after (BitVec.ofNat 32 b) (BitVec.ofNat 32 a)

/-! ### Key slots (R415, R419) -/

/-- The key store at delivery: a maker key in slot 0, an installer key in slot 1, the rest empty (R415). -/
def keyDelivered (n : Nat) : KeySlot :=
  match n with
  | 0 => { role := 3, key := Config.keyAtDelivery 0 }
  | 1 => { role := 2, key := Config.keyAtDelivery 1 }
  | _ => {}

/-- A key slot; slot 8 is the password verifier. -/
def Card.key (c : Card) (n : Nat) : KeySlot := c.sec.keys.get keyDelivered n

/-- Writes a key slot. -/
def Card.setKey (c : Card) (n : Nat) (k : KeySlot) : Card := { c with sec.keys := c.sec.keys.set keyDelivered n k }

/-! ### Live registers

A live register shows what the block holds at this moment. After every command each of them holds the word below. -/

/-- A word with a bit for each number that a test accepts, below `n`. -/
def bitmap (n : Nat) (f : Nat → Bool) : Nat := (List.range n).foldl (fun m k => if f k then m + 2 ^ k else m) 0

/-- HST_STATUS (R307, R320, R322). -/
def Card.hstStatus (c : Card) : Nat :=
  (if c.hst.ready then 1 else 0) + (if c.hst.adminActive then 2 else 0) + (if c.hst.busMaster then 4 else 0)
    + (if c.hst.linkUp then 8 else 0)

/-- HST_TAGS: the operations in flight and the orphans held (R313, R321). -/
def Card.hstTags (c : Card) : Nat := c.flights.length % 2 ^ 17 + c.hst.orphans.length % 2 ^ 13 * 2 ^ 17

/-- HST_SQ_STATn: fetch head, tail, state and CQ of a submission ring (R308). -/
def Card.sqStat (c : Card) (n : Nat) : Nat :=
  let q := c.sq n
  q.head % 2 ^ 12 + q.tail % 2 ^ 12 * 2 ^ 12 + q.state % 4 * 2 ^ 24 + q.cq % 64 * 2 ^ 26

/-- HST_CQ_STATn: next entry, PHASE, FULL and PRESENT of a completion ring (R316). -/
def Card.cqStat (c : Card) (n : Nat) : Nat :=
  let q := c.cq n
  q.tail % 2 ^ 16 + (if q.phase then 2 ^ 16 else 0) + (if q.full then 2 ^ 17 else 0) + (if q.present then 2 ^ 18 else 0)

/-- HST_EV_SUMMARY: the words of HST_EV_PEND that hold a set bit (R326). -/
def Card.evSummary (c : Card) : Nat := bitmap 16 fun w => decide (c.reg (HST_EV_PEND w) ≠ 0)

/-- The lowest SEQ held in the store, or 0. -/
def Card.seqOldest (c : Card) : Nat :=
  (c.rcd.store.filterMap fun x => x.2.map (·.seq)).foldl (fun a b => if a = 0 || olderSeq b a then b else a) 0

/-- The oldest frame held in the black box, or 0 (R380). -/
def Card.oldestFrame (c : Card) : BitVec 32 :=
  match c.rcd.blackBox with
  | [] => 0
  | x :: _ => x.1

/-- Word `w` of a slot of records; an empty slot reads zero (R372, R374). -/
def recordWord (m : Store (Option Record)) (slot w : Nat) : Nat :=
  match m.get (fun _ => none) slot with
  | some r => leAt r.bytes (4 * w) 4
  | none => 0

/-- SEC_STATUS: open sessions, the unlock and its session, the debug state (R420, R423, R426). -/
def Card.secStatus (c : Card) : Nat :=
  c.sec.sessions.length % 32 + (match c.sec.unlock with
    | some id => 32 + id.toNat * 64
    | none => 0) + c.sec.dbg.state % 4 * 2 ^ 22

/-- SEC_SLOTn: role, failures, seconds of block remaining, and writes of a key slot (R415, R419). -/
def Card.secSlot (c : Card) (n : Nat) : Nat :=
  let k := c.key n
  k.role % 4 + min k.fails 15 * 4 + min ((k.blockEnd - c.tim.clock + 999999999) / 1000000000) 4095 * 64 + min k.version 16383 * 2 ^ 18

/-- SEC_DBG_STAT: the J9 session and the breakpoints set (R426, R427). -/
def Card.dbgStat (c : Card) : Nat :=
  (match c.sec.dbg.j9 with
    | some id => id.toNat
    | none => 0) + bitmap 8 (fun n => (c.sec.dbg.bps.get (fun _ => none) n).isSome) * 2 ^ 16

/-- The word that a live register shows; any other register's own word. -/
def Card.live (c : Card) (off : Nat) : Word :=
  if off = TIM_FRAME_LIVE then c.frame
  else if off = TIM_TSQ_STAT then TIM_TSQ_STAT.FILL.put (c.reg off) c.tim.tsq.length
  else if off = TIM_TRIG_STAT then TIM_TRIG_STAT.PENDING.put (c.reg off) c.opTriggers
  else if off = HST_STATUS then pN c.hstStatus
  else if off = HST_TAGS then pN c.hstTags
  else if off = HST_DLQ_STAT then HST_DLQ_STAT.FILL.put (c.reg off) c.hst.dlq.length
  else if off = HST_EV_SUMMARY then pN c.evSummary
  else if 0xA100 ≤ off ∧ off < 0xA200 then pN (c.sqStat ((off - 0xA100) / 4))
  else if 0xA200 ≤ off ∧ off < 0xA300 then pN (c.cqStat ((off - 0xA200) / 4))
  else if off = REC_STATUS then
    REC_STATUS.LG_FILL.put (REC_STATUS.REPLAY.put (c.reg off) (if c.rcd.replay then 1 else 0))
      (c.rcd.gasp.filter (·.2.isSome)).length
  else if off = REC_MIRROR_STAT then REC_MIRROR_STAT.FILL.put (c.reg off) (c.rcd.mirror.filter (·.2.isSome)).length
  else if off = REC_SEQ_OLDEST then pN c.seqOldest
  else if off = REC_BB_OLDEST then c.oldestFrame
  else if 0xC060 ≤ off ∧ off < 0xC080 then pN (recordWord c.rcd.store (c.fld REC_WIN_IDX.IDX) ((off - 0xC060) / 4))
  else if off = REC_LG_STAT then pN (bitmap 16 fun n => (c.rcd.gasp.get (fun _ => none) n).isSome)
  else if 0xC200 ≤ off ∧ off < 0xC400 then pN (recordWord c.rcd.gasp ((off - 0xC200) / 32) ((off - 0xC200) / 4 % 8))
  else if off = SEC_STATUS then pN c.secStatus
  else if 0xF010 ≤ off ∧ off < 0xF034 then pN (c.secSlot ((off - 0xF010) / 4))
  else if off = SEC_DBG_STAT then pN c.dbgStat
  else c.reg off

/-- Registers at `n` rising word offsets from `base`. -/
def wordsFrom (base n : Nat) : List Nat := (List.range n).map fun i => base + 4 * i

/-- The offsets of the live registers. -/
def liveRegs : List Nat :=
  [TIM_FRAME_LIVE, TIM_TSQ_STAT, TIM_TRIG_STAT, HST_STATUS, HST_TAGS, HST_DLQ_STAT, HST_EV_SUMMARY, REC_STATUS,
    REC_MIRROR_STAT, REC_SEQ_OLDEST, REC_BB_OLDEST, REC_LG_STAT, SEC_STATUS, SEC_DBG_STAT]
    ++ wordsFrom 0xA100 64 ++ wordsFrom 0xA200 64 ++ wordsFrom 0xC060 8 ++ wordsFrom 0xC200 128 ++ wordsFrom 0xF010 9

/-- Every live register shows its word. -/
def Card.showLive (c : Card) : Card :=
  liveRegs.foldl (fun x off => if x.reg off = c.live off then x else x.setReg off (c.live off)) c

/-! ### After every command -/

/-- The registers of a block whose W1C flags count for its summary source: every W1C register but HST_EV_PEND, and but
CAN_WIN_STAT, which shows flags of the hole selected and whose stores fire source 78 themselves (R403). -/
def stickyRegs (b : Nat) : List (Nat × Nat) :=
  (regsOf b).flatMap fun r =>
    if r.w1c = 0 || r.base == 0xA080 || r.base == 0xE304 then [] else r.offsets.map fun o => (o, r.w1c)

/-- A W1C flag of block `b` is 1 in `new` and was 0 in `old`. -/
def stickyRose (old new : Card) (b : Nat) : Bool :=
  (stickyRegs b).any fun x => (new.reg x.1 &&& ~~~(old.reg x.1) &&& BitVec.ofNat 32 x.2) != 0

/-- Source 64 + b fires for every block b in which a sticky bit went from 0 to 1 (R325). -/
def fireSummaries (old new : Card) : Card :=
  (List.range 16).foldl (fun c b => if stickyRose old new b then c.fire (64 + b) else c) new

/-- An SQ in DELETING with no operation but its deleters becomes absent, and the deleters complete DONE (R331). -/
def Card.finishDeletes (c : Card) : Card :=
  c.hst.sqs.foldl (fun c x =>
    let q := x.2
    if q.state = 3 && !(c.flights.any fun y => y.2.desc.sq == x.1 && !q.deleters.contains y.1)
        && !c.hst.waiting.any (·.sq == x.1) && !c.hst.held.any (·.2.1.sq == x.1)
        && !c.hst.arriving.any (·.1 == x.1)
    then (c.setSq x.1 {}).each q.deleters fun c s => c.done s
    else c) c

/-- A record enters the intake; a full intake drops it (R369). -/
def Card.intakeOne (c : Card) (r : Record) : Card :=
  if 64 ≤ c.rcd.intake.length then c.countDrop r.sev else { c with rcd.intake := c.rcd.intake ++ [r] }

/-- The records of one instant in the block order of R367 (R369). -/
def blockOrder (l : List Record) : List Record := (List.range 16).flatMap fun b => l.filter fun r => r.code / 0x1000 == b

/-- The records that a command has made enter the intake in block order; the order of several is journaled (R369). -/
def Card.takeHanded (c : Card) : Card :=
  let l := blockOrder c.rcd.handed
  let c := if l.length < 2 then c
    else c.jrn 0x09 0 ((Config.intakeItem (l.map Record.code) ++ List.replicate 16 0).take 16)
  { c with rcd.handed := [] }.each l Card.intakeOne

/-- What follows every command at once: ring deletions that can now end, the intake, summary sources, live registers. -/
def settle (old new : Card) : Card := (fireSummaries old new.finishDeletes.takeHanded).showLive

/-- A command's effect on the card. A card without power takes no command. -/
def State.on (s : State) (f : Card → Card) : Host.Outcome State Fault Refusal :=
  .next (if s.card.sys.powered then { s with card := settle s.card (f s.card) } else s)

end Sys2Proof.Machine
end

