-- ==== Sys2Proof/Machine/Sec.lean ====
section
/-! DEFINITION. Roles, sessions, the key store and the session opcodes (R414 to R425, R432). -/

namespace Sys2Proof.Machine

/-! ### Keys and blocks (R415, R419) -/

/-- The slot is blocked (R419). -/
def Card.blocked (c : Card) (n : Nat) : Bool := decide (c.tim.clock < (c.key n).blockEnd)

/-- A key's 32 bytes. -/
def KeySlot.bytes (k : KeySlot) : List Byte := le 32 k.key.toNat

/-- The block that the k-th consecutive failure brings, in seconds; 0 for none (R419). -/
def blockSeconds (k limit : Nat) : Nat := if k < limit then 0 else min 3600 (60 * 2 ^ (k - limit))

/-- A failure of a slot counts; from FAIL_LIMIT on it blocks the slot (R419). `path` is the event's parameter. -/
def Card.authFail (c : Card) (slot : Nat) (path : Word) : Card :=
  let k := c.key slot
  let n := k.fails + 1
  let secs := blockSeconds n (c.fld SEC_CFG.FAIL_LIMIT)
  let c := c.setKey slot { k with fails := n, blockEnd := if secs = 0 then k.blockEnd else c.tim.clock + secs * 1000000000 }
  let c := ((c.stick SEC_STICKY.AUTH_FAIL).count SEC_CNT.AUTH_FAIL).record 0xF003 [pN slot, path, pN n]
  if secs = 0 then c else c.record 0xF004 [pN slot, pN secs]

/-- A success clears the slot's count (R419). -/
def Card.authPass (c : Card) (slot : Nat) : Card := c.setKey slot { c.key slot with fails := 0 }

/-! ### Sessions (R420, R421) -/

/-- A nonzero 16-bit identifier that `used` does not hold: the first fit of `n` random draws, else the lowest one. -/
def Card.pickId (n : Nat) (used : BitVec 16 → Bool) (c : Card) : BitVec 16 × Card :=
  match n with
  | 0 => (((List.range 65536).map fun i => BitVec.ofNat 16 (i + 1)).find? (fun x => x != 0 && !used x) |>.getD 1, c)
  | n + 1 =>
    let (k, c) := c.draw
    let x := Config.sessionDraw k
    if x != 0 && !used x then (x, c) else Card.pickId n used c

/-- Opens a session: event 0xF001 (R420). -/
def Card.openSession (c : Card) (role slot path : Nat) : BitVec 16 × Card :=
  let (id, c) := Card.pickId 32 (fun x => c.sec.sessions.any (·.id == x)) c
  let x : Session := { id := id, role := role, path := path, opened := c.tim.clock, last := c.tim.clock }
  (id, { c with sec.sessions := c.sec.sessions ++ [x] }.record 0xF001 [pN id.toNat, pN role, pN slot, pN path])

/-- The J9 session is gone: lane A resets at the next frame boundary when a debugger was attached (R430), and an ATTACH
that waits for it is void. -/
def Card.endJ9 (c : Card) (cause : Nat) : Card :=
  let c := { c with sec.dbg.j9 := none }
  if c.sec.dbg.state = 0 then { c with sec.dbg.busy := none } else { c with sec.dbg.busy := some 2, sec.dbg.detachCause := cause }

/-- Ends a session: event 0xF002 with the cause; the unlock ends with it (R421, R423). -/
def Card.endSession (c : Card) (id : BitVec 16) (cause : Nat) : Card :=
  match c.session id with
  | none => c
  | some x =>
    let c := { c with sec.sessions := c.sec.sessions.filter (·.id != id)
                      sec.unlock := if c.sec.unlock = some id then none else c.sec.unlock }
    let c := c.record 0xF002 [pN id.toNat, pN cause]
    if x.path = 1 then c.endJ9 1 else c

/-- SESSION_EXPIRY (R421): cause 2 when the lifetime has passed, else cause 1 when the idle limit has. -/
def execSessionExpiry (session : Nat) (s : State) : Host.Outcome State Fault Refusal :=
  s.on fun c =>
    let id := BitVec.ofNat 16 session
    match c.session id with
    | none => c
    | some x =>
      let life := c.fld SEC_CFG.LIFE * 3600 * 1000000000
      let idle := c.fld SEC_CFG.IDLE * 60 * 1000000000
      if x.opened + life ≤ c.tim.clock then c.endSession id 2
      else if x.last + idle ≤ c.tim.clock then c.endSession id 1
      else c

/-- SLOT_BLOCK_EXPIRY (R419): the block time of a slot, or of the verifier as slot 8, runs out. -/
def execSlotBlockExpiry (slot : Nat) (s : State) : Host.Outcome State Fault Refusal :=
  s.on fun c => if slot ≤ 8 ∧ !c.blocked slot then c.setKey slot { c.key slot with blockEnd := 0 } else c

/-! ### Challenge and response (R417) -/

/-- Draws a challenge for a slot: its handle and nonce. -/
def Card.challenge (c : Card) (slot path : Nat) : BitVec 16 × BitVec 256 × Card :=
  let (h, c) := Card.pickId 32 (fun x => c.sec.challenges.any (·.handle == x)) c
  let (n, c) := c.draw
  let nonce := Config.nonce n
  let x : Challenge := { handle := h, slot := slot, path := path, nonce := nonce, issued := c.tim.clock }
  (h, nonce, { c with sec.challenges := c.sec.challenges ++ [x] })

/-- The valid challenge of a handle on a path: issued within 10 s and not yet used. -/
def Card.findChallenge (c : Card) (h : BitVec 16) (path : Nat) : Option Challenge :=
  c.sec.challenges.find? fun x => x.handle == h && x.path == path && decide (c.tim.clock ≤ x.issued + 10000000000)

/-- The handle is used up. -/
def Card.useChallenge (c : Card) (h : BitVec 16) : Card :=
  { c with sec.challenges := c.sec.challenges.filter (·.handle != h) }

/-- The HMAC that answers a challenge (R417). -/
def Card.expected (c : Card) (x : Challenge) : List Byte :=
  let k := c.key x.slot
  (hmac k.bytes (le 32 x.nonce.toNat ++ le 1 x.slot ++ le 1 k.role ++ le 1 x.path ++ [0])).take 32

/-- SEC_CHALLENGE (0xC0). -/
def rowSecChallenge : Row where
  opcode := 0xC0
  role := 0
  args := fun _ d => if d.only [(0, 1), (8, 8)] && decide (d.byte 0 ≤ 7) then none else some (7, 0xF101)
  checks := fun c d =>
    let n := d.byte 0
    if (c.key n).role = 0 then some (3, 0xF106, 0) else if c.blocked n then some (3, 0xF107, 0)
    else if 16 ≤ c.sec.sessions.length then some (3, 0xF108, 0) else none
  start := fun slot c =>
    let d := c.descOf slot
    let (h, nonce, c) := (c.commit slot).challenge (d.byte 0) 0
    c.doneWith slot (d.at 8 8) (le 32 nonce.toNat) (pN h.toNat)

/-- SEC_RESPOND (0xC1): the checks of R417 in order; the handle is used up whatever the outcome. -/
def rowSecRespond : Row where
  opcode := 0xC1
  role := 0
  args := fun _ d => if d.only [(0, 2), (8, 8)] then none else some (7, 0xF101)
  start := fun slot c =>
    let d := c.descOf slot
    let h := BitVec.ofNat 16 (d.at 0 2)
    match c.findChallenge h 0 with
    | none => c.complete slot 3 0xF109
    | some x =>
      let c := c.useChallenge h
      if c.blocked x.slot then c.complete slot 3 0xF107
      else if 16 ≤ c.sec.sessions.length then c.complete slot 3 0xF108
      else if d.buf.take 32 = c.expected x then
        let (id, c) := ((c.commit slot).authPass x.slot).openSession (c.key x.slot).role x.slot 0
        c.done slot (pN id.toNat)
      else ((c.commit slot).authFail x.slot 0).complete slot 8 0xF104

/-- SEC_PASSWORD (0xC2): PBKDF2 against the verifier (R418). -/
def rowSecPassword : Row where
  opcode := 0xC2
  role := 0
  args := fun _ d =>
    if d.only [(0, 1), (8, 8)] && decide (8 ≤ d.byte 0) && decide (d.byte 0 ≤ 64) then none else some (7, 0xF101)
  checks := fun c _ =>
    if (c.key 8).role = 0 then some (3, 0xF10A, 0) else if c.blocked 8 then some (3, 0xF107, 0)
    else if 16 ≤ c.sec.sessions.length then some (3, 0xF108, 0) else none
  start := fun slot c =>
    let d := c.descOf slot
    let k := c.key 8
    let c := c.commit slot
    if pbkdf2 (d.buf.take (d.byte 0)) (le 16 k.salt.toNat) k.iter = k.bytes then
      let (id, c) := (c.authPass 8).openSession 1 8 0
      c.done slot (pN id.toNat)
    else (c.authFail 8 0).complete slot 8 0xF105

/-- SEC_CLOSE (0xC3): cause 0 for the session's own close, 4 for another's (R421). -/
def rowSecClose : Row where
  opcode := 0xC3
  role := 1
  args := fun _ d => if d.only [(0, 2)] then none else some (7, 0xF101)
  checks := fun c d =>
    let id := BitVec.ofNat 16 (d.at 0 2)
    if id = 0 ∨ id = d.session then none
    else if (c.session id).isNone then some (3, 0xF10C, 0)
    else if c.roleOf d.session < 2 then some (8, 0xF103, 0) else none
  start := fun slot c =>
    let d := c.descOf slot
    let id := BitVec.ofNat 16 (d.at 0 2)
    let c := c.commit slot
    if id = 0 ∨ id = d.session then (c.endSession d.session 0).done slot else (c.endSession id 4).done slot

/-- SEC_UNLOCK (0xC4): sets or clears the register write unlock (R423). -/
def rowSecUnlock : Row where
  opcode := 0xC4
  role := 2
  args := fun _ d => if d.only [(0, 1)] && decide (d.byte 0 ≤ 1) then none else some (7, 0xF101)
  checks := fun c d =>
    match c.sec.unlock with
    | some id => if id = d.session then none else some (3, 0xF10D, 0)
    | none => none
  start := fun slot c =>
    let d := c.descOf slot
    { c.commit slot with sec.unlock := if d.byte 0 = 1 then some d.session else none }.done slot

/-- The 16 bytes of a session in SEC_LIST. -/
def Session.bytes (now : Nat) (x : Session) : List Byte :=
  le 2 x.id.toNat ++ le 1 x.role ++ le 1 x.path ++ le 4 ((now - x.opened) / 60000000000) ++ le 8 0

/-- SEC_LIST (0xC5): 16 entries of 16 bytes. -/
def rowSecList : Row where
  opcode := 0xC5
  role := 1
  args := fun _ d => if d.only [(8, 8)] then none else some (7, 0xF101)
  start := fun slot c =>
    let d := c.descOf slot
    let bs := c.sec.sessions.flatMap (Session.bytes c.tim.clock)
    (c.commit slot).doneWith slot (d.at 8 8) ((bs ++ List.replicate 256 0).take 256)

/-- SEC_KEY_SET (0xC6): writes or erases a slot (R416): count, block and challenges of the slot end. -/
def rowSecKeySet : Row where
  opcode := 0xC6
  role := 2
  args := fun _ d =>
    let set := d.byte 2 = 0
    if d.only [(0, 3), (8, 8)] && decide (d.byte 0 ≤ 7) && decide (d.byte 2 ≤ 1)
        && (if set then decide (1 ≤ d.byte 1 ∧ d.byte 1 ≤ 3) else decide (d.byte 1 = 0 ∧ d.at 8 8 = 0))
    then none else some (7, 0xF101)
  checks := fun c d =>
    let r := c.roleOf d.session
    if r < (c.key (d.byte 0)).role ∨ r < d.byte 1 ∨ (d.byte 0 = 0 ∧ (r < 3 ∨ d.byte 2 = 1))
    then some (3, 0xF10B, 0) else none
  start := fun slot c =>
    let d := c.descOf slot
    let n := d.byte 0
    let set := d.byte 2 = 0
    let k := c.key n
    let c := (c.commit slot).setKey n {
      role := if set then d.byte 1 else 0, key := if set then BitVec.ofNat 256 (fromLe (d.buf.take 32)) else 0
      version := min 16383 (k.version + 1) }
    let c := { c with sec.challenges := c.sec.challenges.filter (·.slot != n) }
    (c.record 0xF020 [pN n, pN (d.byte 1), pN (d.byte 2), pN d.session.toNat]).done slot

/-- SEC_PASSWORD_SET (0xC7): sets the verifier with a fresh salt, or removes it (R418). -/
def rowSecPasswordSet : Row where
  opcode := 0xC7
  role := 2
  args := fun _ d =>
    let n := d.byte 0
    let it := d.at 4 4
    if d.only [(0, 1), (4, 4), (8, 8)]
        && (if n = 0 then decide (it = 0 ∧ d.at 8 8 = 0)
            else decide (8 ≤ n ∧ n ≤ 64 ∧ 10000 ≤ it ∧ it ≤ 1000000))
    then none else some (7, 0xF101)
  start := fun slot c =>
    let d := c.descOf slot
    let n := d.byte 0
    let it := d.at 4 4
    let k := c.key 8
    let (i, c) := (c.commit slot).draw
    let salt := Config.salt i
    let v := min 16383 (k.version + 1)
    let c := c.setKey 8 (if n = 0 then { version := v } else {
      role := 1, salt := salt, iter := it, version := v
      key := BitVec.ofNat 256 (fromLe (pbkdf2 (d.buf.take n) (le 16 salt.toNat) it)) })
    (c.record 0xF021 [pN d.session.toNat, pN it]).done slot

/-- SEC_CHALLENGE. -/
def execSecChallenge (d : Desc) (s : State) : Host.Outcome State Fault Refusal := s.on fun c => c.accept rowSecChallenge d
/-- SEC_RESPOND. -/
def execSecRespond (d : Desc) (s : State) : Host.Outcome State Fault Refusal := s.on fun c => c.accept rowSecRespond d
/-- SEC_PASSWORD. -/
def execSecPassword (d : Desc) (s : State) : Host.Outcome State Fault Refusal := s.on fun c => c.accept rowSecPassword d
/-- SEC_CLOSE. -/
def execSecClose (d : Desc) (s : State) : Host.Outcome State Fault Refusal := s.on fun c => c.accept rowSecClose d
/-- SEC_UNLOCK. -/
def execSecUnlock (d : Desc) (s : State) : Host.Outcome State Fault Refusal := s.on fun c => c.accept rowSecUnlock d
/-- SEC_LIST. -/
def execSecList (d : Desc) (s : State) : Host.Outcome State Fault Refusal := s.on fun c => c.accept rowSecList d
/-- SEC_KEY_SET. -/
def execSecKeySet (d : Desc) (s : State) : Host.Outcome State Fault Refusal := s.on fun c => c.accept rowSecKeySet d
/-- SEC_PASSWORD_SET. -/
def execSecPasswordSet (d : Desc) (s : State) : Host.Outcome State Fault Refusal :=
  s.on fun c => c.accept rowSecPasswordSet d

end Sys2Proof.Machine
end

