-- ==== Sys2Proof/Machine/Host.lean ====
section
/-! DEFINITION. The host interface (R302 to R334): ring control, doorbells, MSI-X, event pending bits, plant messages
to and from the host. Fetching, aborts and the host-interface reset, which touch every block's operations, stand in
Tracker.lean. -/

namespace Sys2Proof.Machine

/-- BAD_ARGUMENT of this chapter unless `b` holds. -/
def hstArgs (b : Bool) : Option (Nat × Nat) := if b then none else some (7, 0xA003)

/-- A value lies in `lo` to `hi`. -/
def within (lo hi v : Nat) : Bool := decide (lo ≤ v) && decide (v ≤ hi)

/-- ADMIN_ONLY comes before the range checks (R331). -/
def adminOnly (d : Desc) (b : Bool) : Option (Nat × Nat) := if d.sq ≠ 0 then some (3, 0xA005) else hstArgs b

/-- NOP (0x00, R310). -/
def rowNop : Row where
  opcode := 0x00
  role := 0
  args := fun _ d => hstArgs (d.only [])
  start := fun slot c => (c.commit slot).done slot

/-- HST_SQ_CREATE (0x01). -/
def rowSqCreate : Row where
  opcode := 0x01
  role := 1
  args := fun _ d => adminOnly d (d.only [(0, 5), (8, 8)] && within 1 63 (d.byte 0) && within 0 63 (d.byte 1)
    && within 0 3 (d.byte 2) && within 1 16 (d.byte 3) && within 6 12 (d.byte 4) && decide (d.at 8 8 % 4096 = 0))
  checks := fun c d =>
    if (c.sq (d.byte 0)).state ≠ 0 then some (3, 0xA006, 0)
    else if !(c.cq (d.byte 1)).present then some (3, 0xA007, 0) else none
  start := fun slot c =>
    let d := c.descOf slot
    ((c.commit slot).setSq (d.byte 0) { state := 1, cq := d.byte 1, prio := d.byte 2, weight := d.byte 3,
                                        log2 := d.byte 4, base := d.at 8 8 }).done slot

/-- HST_CQ_CREATE (0x02). -/
def rowCqCreate : Row where
  opcode := 0x02
  role := 1
  args := fun _ d => adminOnly d (d.only [(0, 1), (4, 1), (8, 8)] && within 1 63 (d.byte 0) && within 6 16 (d.byte 4)
    && decide (d.at 8 8 % 4096 = 0))
  checks := fun c d => if (c.cq (d.byte 0)).present then some (3, 0xA006, 0) else none
  start := fun slot c =>
    let d := c.descOf slot
    ((c.commit slot).setCq (d.byte 0) { present := true, base := d.at 8 8, log2 := d.byte 4, phase := true }).done slot

/-- HST_SQ_DELETE (0x03): the SQ stops fetching at once; the operation ends when the SQ's others have (`settle`). A
waiting HST_PLANT_RECV from the SQ completes FLUSHED SQ_DELETED. -/
def rowSqDelete : Row where
  opcode := 0x03
  role := 1
  args := fun _ d => adminOnly d (d.only [(0, 1)] && within 1 63 (d.byte 0))
  checks := fun c d => if (c.sq (d.byte 0)).state = 0 then some (3, 0xA007, 0) else none
  start := fun slot c =>
    let n := (c.descOf slot).byte 0
    let q := c.sq n
    let c := (c.commit slot).setSq n { q with state := 3, deleters := q.deleters ++ [slot] }
    let c := c.each (c.hst.recvs.filter fun r => (c.descOf r).sq == n) fun c r => c.complete r 0x0A 0xA042
    { c with hst.recvs := c.hst.recvs.filter fun r => (c.op r).isSome && (c.descOf r).sq != n }

/-- HST_CQ_DELETE (0x04). -/
def rowCqDelete : Row where
  opcode := 0x04
  role := 1
  args := fun _ d => adminOnly d (d.only [(0, 1)] && within 1 63 (d.byte 0))
  checks := fun c d =>
    if !(c.cq (d.byte 0)).present then some (3, 0xA007, 0)
    else if c.hst.sqs.any fun x => x.2.state ≠ 0 ∧ x.2.cq = d.byte 0 then some (3, 0xA008, 0) else none
  start := fun slot c => ((c.commit slot).setCq ((c.descOf slot).byte 0) {}).done slot

/-- HST_SQ_RESTART (0x06): the range of the new head is checked last (R331). -/
def rowSqRestart : Row where
  opcode := 0x06
  role := 1
  args := fun _ d => adminOnly d (d.only [(0, 1), (2, 2)] && within 1 63 (d.byte 0))
  checks := fun c d =>
    let q := c.sq (d.byte 0)
    if q.state ≠ 2 then some (3, 0xA009, 0)
    else if 2 ^ q.log2 ≤ d.at 2 2 then some (7, 0xA003, 0) else none
  start := fun slot c =>
    let d := c.descOf slot
    ((c.commit slot).setSq (d.byte 0) { c.sq (d.byte 0) with state := 1, head := d.at 2 2 }).done slot

/-- HST_ORPHAN_READ (0x07): oldest first; the entries are freed. -/
def rowOrphanRead : Row where
  opcode := 0x07
  role := 1
  args := fun _ d => hstArgs (d.only [(0, 2), (8, 8)] && within 1 4096 (d.at 0 2))
  start := fun slot c =>
    let d := c.descOf slot
    let es := c.hst.orphans.take (d.at 0 2)
    { c.commit slot with hst.orphans := c.hst.orphans.drop (d.at 0 2) }.doneWith slot (d.at 8 8) es.flatten
      (pN es.length)

/-- The bytes of a dead-letter entry: 1,024 with its 16-byte header (R330). -/
def Dead.image (x : Dead) : List Byte :=
  ((le 8 x.pm ++ le 1 x.reason ++ le 1 x.port ++ le 2 x.bytes.length ++ le 4 0 ++ x.bytes)
    ++ List.replicate 1024 0).take 1024

/-- HST_DLQ_READ (0x0A): oldest first; the entries are freed. -/
def rowDlqRead : Row where
  opcode := 0x0A
  role := 1
  args := fun _ d => hstArgs (d.only [(0, 2), (8, 8)] && within 1 256 (d.at 0 2))
  start := fun slot c =>
    let d := c.descOf slot
    let es := c.hst.dlq.take (d.at 0 2)
    { c.commit slot with hst.dlq := c.hst.dlq.drop (d.at 0 2) }.doneWith slot (d.at 8 8) (es.flatMap Dead.image)
      (pN es.length)

/-- Delivers a plant message into a waiting HST_PLANT_RECV (R331, R332). -/
def Card.deliver (c : Card) (slot : Nat) (bs : List Byte) : Card :=
  (c.commit slot).doneWith slot ((c.descOf slot).at 8 8) bs (pN bs.length)

/-- HST_PLANT_RECV (0x08): the oldest inbox envelope, or a wait until one arrives. -/
def rowPlantRecv : Row where
  opcode := 0x08
  role := 1
  args := fun _ d => hstArgs (d.only [(8, 8)])
  start := fun slot c =>
    match c.hst.inbox with
    | [] => { c with hst.recvs := c.hst.recvs ++ [slot] }
    | m :: r => { c with hst.inbox := r }.deliver slot m

/-- The module's own node address: its number in bits 17:8 (R328, R444). -/
def Card.node (c : Card) : Nat := c.fld SYS_SLOT.MODULE * 256

/-- The module sends a plant envelope of a type to a node (R327): its SEQ counts up; AUTH under key slot `slot`, over
bytes 0 to 31 + LEN (R425). In replay mode nothing is sent (R384). -/
def Card.sendPlant (c : Card) (port typ dest slot : Nat) (body : List Byte) : Card :=
  if c.rcd.replay then c
  else
    let h := le 1 1 ++ le 1 typ ++ le 2 body.length ++ le 4 dest ++ le 4 c.node ++ le 4 c.hst.txSeq.toNat ++ le 8 c.pm
      ++ le 2 slot ++ le 6 0 ++ body
    { c with hst.txSeq := c.hst.txSeq + 1
             hst.txPlant := c.hst.txPlant ++ [(port, h ++ (hmac (c.key slot).bytes h).take 16)] }

/-- The P2 port with link that the module sends by: the active one where it has link. -/
def Card.sendPort (c : Card) : Option Nat :=
  let a := c.fld TIM_STATUS.ACTIVE_PORT
  let link (p : Nat) : Bool := (c.tim.ports.get (fun _ => {}) p).link
  if link a then some a else if link (1 - a) then some (1 - a) else none

/-- HST_PLANT_SEND (0x09): a HOST_FORWARD message through a port. The key slot of its AUTH is a free value. -/
def rowPlantSend : Row where
  opcode := 0x09
  role := 1
  args := fun _ d => hstArgs (d.only [(0, 7), (8, 8)] && within 0 960 (d.at 4 2) && decide (d.byte 6 = 4)
    && decide (d.at 0 4 < 2 ^ 18))
  checks := fun c _ => if c.sendPort.isNone then some (3, 0xA00A, 0) else none
  start := fun slot c =>
    let d := c.descOf slot
    let (n, c) := (c.commit slot).draw
    (c.sendPlant (c.sendPort.getD 0) 0x04 (d.at 0 4) ((Config.freeValue n).toNat % 8) (d.buf.take (d.at 4 2))).done slot

/-- NOP. -/
def execNop (d : Desc) (s : State) : Host.Outcome State Fault Refusal := s.on fun c => c.accept rowNop d
/-- HST_SQ_CREATE. -/
def execHstSqCreate (d : Desc) (s : State) : Host.Outcome State Fault Refusal := s.on fun c => c.accept rowSqCreate d
/-- HST_CQ_CREATE. -/
def execHstCqCreate (d : Desc) (s : State) : Host.Outcome State Fault Refusal := s.on fun c => c.accept rowCqCreate d
/-- HST_SQ_DELETE. -/
def execHstSqDelete (d : Desc) (s : State) : Host.Outcome State Fault Refusal := s.on fun c => c.accept rowSqDelete d
/-- HST_CQ_DELETE. -/
def execHstCqDelete (d : Desc) (s : State) : Host.Outcome State Fault Refusal := s.on fun c => c.accept rowCqDelete d
/-- HST_SQ_RESTART. -/
def execHstSqRestart (d : Desc) (s : State) : Host.Outcome State Fault Refusal := s.on fun c => c.accept rowSqRestart d
/-- HST_ORPHAN_READ. -/
def execHstOrphanRead (d : Desc) (s : State) : Host.Outcome State Fault Refusal := s.on fun c => c.accept rowOrphanRead d
/-- HST_PLANT_RECV. -/
def execHstPlantRecv (d : Desc) (s : State) : Host.Outcome State Fault Refusal := s.on fun c => c.accept rowPlantRecv d
/-- HST_PLANT_SEND. -/
def execHstPlantSend (d : Desc) (s : State) : Host.Outcome State Fault Refusal := s.on fun c => c.accept rowPlantSend d
/-- HST_DLQ_READ. -/
def execHstDlqRead (d : Desc) (s : State) : Host.Outcome State Fault Refusal := s.on fun c => c.accept rowDlqRead d

/-! ### Doorbells (R308, R309) -/

/-- A doorbell write that reaches no ring: DB_NO_RING, and event 0xA011 at most once per frame (R309). -/
def Card.discardDoorbell (c : Card) (offset : Nat) (v : Word) : Card :=
  let c := c.stick HST_STICKY.DB_NO_RING
  if c.hst.dbNoRingInFrame then c
  else { c with hst.dbNoRingInFrame := true }.record 0xA011 [pN offset, v]

/-- An SQ enters ERROR: SQ_ERROR, source 86, event 0xA020 (R308, R323). -/
def Card.sqError (c : Card) (n cause : Nat) (tail : Word) : Card :=
  let q := c.sq n
  (((c.setSq n { q with state := 2 }).stick HST_STICKY.SQ_ERROR).fire 86).record 0xA020 [pN n, pN cause, pN q.head, tail]

/-- SQ_TAIL_DOORBELL (R308). -/
def execSqTailDoorbell (ring : Nat) (value : BitVec 32) (s : State) : Host.Outcome State Fault Refusal :=
  s.on fun c =>
    let q := c.sq ring
    let v := value.toNat
    if 64 ≤ ring || q.state = 0 then c.discardDoorbell (8 * ring) value
    else
      let c := c.jrnFree 0x06
      if q.state = 3 then c.stick HST_STICKY.DB_NO_RING
      else if v < 2 ^ q.log2 then c.setSq ring { q with tail := v }
      else if q.state = 2 then c.stick HST_STICKY.DB_NO_RING
      else c.sqError ring 0 value

/-- CQ_HEAD_DOORBELL (R308): frees entries and lets waiting completions post; a head just past the tail fills the ring
(R316). -/
def execCqHeadDoorbell (ring : Nat) (value : BitVec 32) (s : State) : Host.Outcome State Fault Refusal :=
  s.on fun c =>
    let q := c.cq ring
    let v := value.toNat
    if 64 ≤ ring || !q.present then c.discardDoorbell (8 * ring + 4) value
    else if 2 ^ q.log2 ≤ v then (c.jrnFree 0x06).stick HST_STICKY.DB_NO_RING
    else
      let q' := { q with head := v }
      let c := (c.jrnFree 0x06).setCq ring { q' with full := q'.isFull }
      let c := if q'.isFull && !q.full then c.cqFull ring else c
      Card.drainWaiting c.hst.waiting.length c

/-- DOORBELL_DISCARDED (R309). -/
def execDoorbellDiscarded (offset : Nat) (value : BitVec 32) (s : State) : Host.Outcome State Fault Refusal :=
  s.on fun c => c.discardDoorbell offset value

/-! ### The function's state (R302, R307, R320, R322) -/

/-- HOST_READY (R322): READY becomes 1, event 0xA002, source 89. -/
def execHostReady (s : State) : Host.Outcome State Fault Refusal :=
  s.on fun c =>
    if c.hst.ready || c.sys.restarting then c
    else ({ c with hst.ready := true }.record 0xA002 [pN c.frame.toNat]).fire 89

/-- Mastering resumes: waiting completions go out, and the messages of unmasked vectors that are pending. -/
def Card.resumeMaster (c : Card) : Card :=
  let c := Card.drainWaiting c.hst.waiting.length c
  c.each (List.range 64) fun c v =>
    let x := c.vec v
    if x.pending && !x.masked && c.masters then c.sendVec v else c

/-- BUS_MASTER_ENABLE (R320): mastering resumes. -/
def execBusMasterEnable (s : State) : Host.Outcome State Fault Refusal :=
  s.on fun c => { c with hst.busMaster := true }.resumeMaster

/-- PCIE_LINK_UP (R322). -/
def execPcieLinkUp (s : State) : Host.Outcome State Fault Refusal := s.on fun c => { c with hst.linkUp := true }

/-- D3HOT_TRANSITION (R302): in D3hot the module masters nothing. -/
def execD3hotTransition (toD3 : Bool) (s : State) : Host.Outcome State Fault Refusal :=
  s.on fun c => { c with hst.d3 := toD3 }.resumeMaster

/-! ### MSI-X and pending bits (R306, R326) -/

/-- MSIX_MESSAGE (R326): the message of merged firings goes when MOD has passed. -/
def execMsixMessage (vector : Nat) (s : State) : Host.Outcome State Fault Refusal :=
  s.on fun c =>
    let x := c.vec vector
    if !x.merged || !c.modPassed vector then c
    else if x.masked || !c.masters then c.setVec vector { x with pending := true, merged := false }
    else c.sendVec vector

/-- MSIX_UNMASK (R326): a pending message is sent. -/
def execMsixUnmask (vector : Nat) (s : State) : Host.Outcome State Fault Refusal :=
  s.on fun c =>
    if 64 ≤ vector then c
    else
      let c := c.setVec vector { c.vec vector with masked := false }
      if (c.vec vector).pending && c.masters then c.sendVec vector else c

/-- Counts a recurrence of R306 in the block's counter and names it in HST_RECUR_LAST: event 0xA040. -/
def Card.recur (c : Card) (off bit : Nat) : Card :=
  let b := blockOf off
  let c := c.count (HST_RECUR.COUNT (b / 4) (b % 4))
  ((c.setFld HST_RECUR_LAST.OFFSET off).setFld HST_RECUR_LAST.BIT bit).record 0xA040 [pN off, pN bit]

/-- The set bits of a word, lowest first. -/
def bitsOf (w : Word) : List Nat := (List.range 32).filter fun i => w.getLsbD i

/-! ### Plant messages (R327 to R330) -/

/-- The bytes of an envelope of a TYPE. -/
def envBytes (typ : Nat) (e : Envelope) : List Byte :=
  le 1 e.version.toNat ++ le 1 typ ++ le 2 e.len.toNat ++ le 4 e.dest.toNat ++ le 4 e.src.toNat ++ le 4 e.seq.toNat
    ++ le 8 e.postmark.toNat ++ le 2 e.keyId.toNat ++ le 6 e.zero.toNat ++ e.body ++ e.auth

/-- The dead-letter queue takes a message: the oldest entry is overwritten when it is full; event 0xA030 for the first
of the frame; source 85 (R330). -/
def Card.deadLetter (c : Card) (reason typ : Nat) (e : Envelope) : Card :=
  let x : Dead := { pm := c.pm, reason := reason, port := e.port, bytes := envBytes typ e }
  let c := if 256 ≤ c.hst.dlq.length
    then { (c.stick HST_STICKY.DLQ_LOST).count HST_DLQ_STAT.LOST with hst.dlq := c.hst.dlq.drop 1 } else c
  let n := c.hst.dlqInFrame + 1
  let c := { c with hst.dlq := c.hst.dlq ++ [x], hst.dlqInFrame := n }.fire 85
  if n = 1 then c.record 0xA030 [pN reason, e.src, pN typ, pN n] else c

/-- The envelope is malformed (R327): version, lengths, zero fields; and the body length of its TYPE. -/
def envMalformed (typ : Nat) (e : Envelope) : Bool :=
  e.version != 1 || decide (e.len.toNat ≠ e.body.length) || decide (960 < e.body.length) || decide (e.auth.length ≠ 16)
    || decide (2 ^ 18 ≤ e.dest.toNat) || decide (2 ^ 18 ≤ e.src.toNat) || e.zero != 0 || decide (8 ≤ e.keyId.toNat)
    || (match typ with
      | 1 => decide (e.body.length ≠ 24)
      | 2 => decide (e.body.length ≠ 4) || !zeroAt e.body 2 2
      | 0x20 => decide (e.body.length ≠ 520) || !zeroAt e.body 7 1
      | _ => false)

/-- AUTH verifies under the slot of KEY_ID (R425): not empty, not blocked, of sufficient role, and matching. -/
def Card.authentic (c : Card) (typ : Nat) (e : Envelope) : Bool :=
  let n := e.keyId.toNat % 8
  let k := c.key n
  let msg := (envBytes typ e).take (32 + e.len.toNat)
  decide ((if typ = 0x20 then 2 else 1) ≤ k.role) && !c.blocked n && decide (e.auth = (hmac k.bytes msg).take 16)

/-- The source table's entry of a node. -/
def Card.source (c : Card) (src : BitVec 32) : Option Src := c.hst.sources.find? (·.node == src.setWidth 18)

/-- The source table has room for a new source: a free entry, or an oldest one silent for more than 2 s (R329). -/
def Card.sourceRoom (c : Card) : Bool :=
  decide (c.hst.sources.length < 1024) || c.hst.sources.any fun x => decide (x.pm + 2000000000 < c.pm)

/-- The entry of a source after acceptance: updated, or placed, giving up the oldest when the table is full. -/
def Card.noteSource (c : Card) (e : Envelope) : Card :=
  let x : Src := { node := e.src.setWidth 18, seq := e.seq, pm := c.pm }
  let rest := c.hst.sources.filter (·.node != x.node)
  let oldest := rest.foldl (fun a y => min a y.pm) (2 ^ 64)
  let rest := if 1024 ≤ rest.length then
      (match rest.find? (·.pm == oldest) with
       | some y => rest.erase y
       | none => rest)
    else rest
  { c with hst.sources := rest ++ [x] }

/-- The dead-letter reason of the first check of R328 that fails, of those up to WRONG_MODULE. -/
def Card.plantCheck (c : Card) (typ : Nat) (e : Envelope) : Option Nat :=
  if envMalformed typ e then some 1
  else if !c.authentic typ e then some 2
  else
    let seqBad := match c.source e.src with
      | some x => !after e.seq x.seq
      | none => false
    let isNew := (c.source e.src).isNone
    let pm := e.postmark.toNat
    if seqBad then some 3
    else if isNew && !c.unqualified && decide (pm + 2000000000 < c.pm ∨ c.pm + 2000000000 < pm) then some 8
    else if isNew && !c.sourceRoom then some 9
    else if e.dest.toNat / 256 ≠ c.fld SYS_SLOT.MODULE || !c.bit SYS_SLOT.ID_VALID then some 4
    else none

/-- The remaining checks of R328: node and TYPE, and room for a HOST_FORWARD. -/
def Card.plantCheck2 (c : Card) (typ : Nat) (e : Envelope) : Option Nat :=
  match c.plantCheck typ e with
  | some r => some r
  | none =>
    if e.dest.toNat % 256 ≠ 0 then some 5
    else if typ ≠ 1 ∧ typ ≠ 2 ∧ typ ≠ 4 then some 6
    else if typ = 4 ∧ c.hst.recvs = [] ∧ 64 ≤ c.hst.inbox.length then some 7
    else none

/-- A failed message: an AUTH failure counts against its slot (R425) unless the slot is blocked (R419). -/
def Card.plantFail (c : Card) (reason typ : Nat) (e : Envelope) : Card :=
  let n := e.keyId.toNat % 8
  let c := if reason = 2 && !c.blocked n then
      let (i, c) := c.draw
      c.authFail n ((Config.freeValue i).setWidth 32)
    else c
  c.deadLetter reason typ e

/-- A datagram received enters the journal, with the 16-byte header of R330 (R378). -/
def Card.jrnPlant (c : Card) (typ : Nat) (e : Envelope) : Card :=
  let bs := envBytes typ e
  c.jrn 0x08 e.port (le 8 c.pm ++ le 1 0 ++ le 1 e.port ++ le 2 bs.length ++ le 4 0 ++ bs)

/-- A datagram on the plant message port: journaled, checked, and handed to `act` when every check passes (R328). Off
the port, or with PM_EN 0, it is no plant message. -/
def Card.plantMessage (c : Card) (typ : Nat) (e : Envelope) (act : Card → Card) : Card :=
  if !c.bit HST_PM_CFG.PM_EN || e.udp ≠ c.fld HST_PM_CFG.PORT then c
  else
    let c := c.jrnPlant typ e
    match c.plantCheck2 typ e with
    | some r => c.plantFail r typ e
    | none => act ((c.noteSource e).record 0xF012 [pN (e.keyId.toNat % 8), e.src, pN typ, e.seq])

/-- HOST_FORWARD (R328): into a waiting HST_PLANT_RECV, else the inbox, which fires source 84. -/
def execHostForward (e : Envelope) (s : State) : Host.Outcome State Fault Refusal :=
  s.on fun c => c.plantMessage 4 e fun c =>
    match c.hst.recvs with
    | r :: rest => { c with hst.recvs := rest }.deliver r (envBytes 4 e)
    | [] => { c with hst.inbox := c.hst.inbox ++ [envBytes 4 e] }.fire 84

/-- PLANT_MESSAGE_INVALID (R328): a datagram of a TYPE that the module does not deliver. -/
def execPlantMessageInvalid (typ : Nat) (e : Envelope) (s : State) : Host.Outcome State Fault Refusal :=
  s.on fun c => if (c.plantCheck2 typ e).isNone then c else c.plantMessage typ e fun c => c

end Sys2Proof.Machine
end

