-- ==== Sys2Proof/Machine/Chain.lean ====
section
/-! DEFINITION. The cell chains (R68 to R108): packets and segments, the requests of a satellite, upload trains,
census, admission and chain reset. What a response means to other blocks stands in Machine/Answer.lean. -/

namespace Sys2Proof.Machine

/-! ### Records of places and chains -/

/-- A chain controller's record. -/
def Card.chain (c : Card) (s : Nat) : Chain := c.chn.chains.get (fun _ => {}) s

/-- Writes a chain controller's record. -/
def Card.setChain (c : Card) (s : Nat) (x : Chain) : Card := { c with chn.chains := c.chn.chains.set (fun _ => {}) s x }

/-- The key of a ring place. -/
def placeKey (s p : Nat) : Nat := 32 * (s - 1) + p - 1

/-- The record of a ring place. -/
def Card.sat (c : Card) (s p : Nat) : Sat := c.chn.sats.get (fun _ => {}) (placeKey s p)

/-- Writes the record of a ring place. -/
def Card.setSat (c : Card) (s p : Nat) (x : Sat) : Card :=
  { c with chn.sats := c.chn.sats.set (fun _ => {}) (placeKey s p) x }

/-- Changes the record of a ring place. -/
def Card.modSat (c : Card) (s p : Nat) (f : Sat → Sat) : Card := c.setSat s p (f (c.sat s p))

/-- Changes a chain controller's record. -/
def Card.modChain (c : Card) (s : Nat) (f : Chain → Chain) : Card := c.setChain s (f (c.chain s))

/-- The ring map entry of a place (R460). -/
def Card.mapEntry (c : Card) (s p : Nat) : Option (BitVec 64 × Nat) := c.chn.map.get (fun _ => none) (placeKey s p)

/-- The ring places. -/
def places : List Nat := (List.range 32).map (· + 1)

/-- The ring positions in use (R68). -/
def Card.satCount (c : Card) (s : Nat) : Nat := c.fld (CHN_CTRL.SAT_COUNT s)

/-- CHN_SAT_STATE.STATE of a place. -/
def Card.satState (c : Card) (s p : Nat) : Nat := c.fld (CHN_SAT_STATE.STATE s p)

/-- A place's satellite is IN_SERVICE. -/
def Card.inService (c : Card) (s p : Nat) : Bool := decide (c.satState s p = 2)

/-- A place's STATE changes: CHN_SAT_STATE, CHN_ADMITTED, and the place's event source (R325). -/
def Card.setSatState (c : Card) (s p v : Nat) : Card :=
  if c.satState s p = v then c
  else
    let c := c.setFld (CHN_SAT_STATE.STATE s p) v
    let c := c.setFld ⟨CHN_ADMITTED s, p - 1, 1⟩ (if v = 2 then 1 else 0)
    c.fire (128 + placeKey s p)

/-! ### Checksums and packed fields (R73, R75) -/

/-- Eight shifts of the CRC-16 of R75. -/
def crc16Bits (k c : Nat) : Nat :=
  match k with
  | 0 => c
  | k + 1 => crc16Bits k (if c / 0x8000 % 2 = 1 then (c * 2 % 65536) ^^^ 0x1021 else c * 2 % 65536)

/-- The CRC-16 of R75: polynomial 0x1021, initial value 0xFFFF, no reflection, no final XOR. -/
def crc16 (bs : List Byte) : Nat := bs.foldl (fun c b => crc16Bits 8 (c ^^^ (b.toNat * 256))) 0xFFFF

/-- The big-endian field of `n` bytes at offset `i`. -/
def beAt (bs : List Byte) (i n : Nat) : Nat := fromBe (slice bs i n)

/-- The body of a byte string that ends in its CRC, when the CRC is good. -/
def crcBody (bs : List Byte) : Option (List Byte) :=
  let n := bs.length - 2
  if 2 ≤ bs.length ∧ crc16 (bs.take n) = beAt bs n 2 then some (bs.take n) else none

/-- `n` fields of `w` bits packed most significant bit first. -/
def unpack (w n : Nat) (bs : List Byte) : List Nat :=
  let v := fromBe bs
  let total := 8 * bs.length
  (List.range n).map fun i => v / 2 ^ (total - w * (i + 1)) % 2 ^ w

/-- Fields of `w` bits packed most significant bit first and padded with zeros to whole bytes. -/
def pack (w : Nat) (l : List Nat) : List Byte :=
  let total := w * l.length
  let bytes := (total + 7) / 8
  be bytes (l.foldl (fun v x => v * 2 ^ w + x % 2 ^ w) 0 * 2 ^ (8 * bytes - total))

/-- A UID as sent, most significant byte first. -/
def uidBytes (u : BitVec 64) : List Byte := be 8 u.toNat

/-- Journals an accepted packet of a chain (R378). -/
def Card.jrnPacket (c : Card) (s : Nat) (bs : List Byte) : Card := c.jrn 0x02 (s + 16) (le 4 bs.length ++ bs)

/-! ### Requests (R85 to R91) -/

/-- The port a place reports to: 0 HEAD, 1 TAIL (R69). -/
def Card.portOf (c : Card) (s p : Nat) : Nat := if p ≤ c.fld (CHN_STATUS.SPLIT s) then 0 else 1

/-- The operation of a host-owned request reaches its commit point when the request is sent; so does CHN_ADMIT. -/
def Card.commitOwner (c : Card) (s p : Nat) (o : Owner) : Card :=
  match o with
  | .host slot => c.commit slot
  | .assign => match (c.sat s p).admitOp with
    | some slot => c.commit slot
    | none => c
  | _ => c

/-- The ASSIGN payload of a place (R87): UID, ring position, the SEQ that follows the ASSIGN's own, both DCOMP values. -/
def Card.assignPayload (c : Card) (s p : Nat) : List Byte :=
  let x := c.sat s p
  uidBytes x.uid ++ be 1 p ++ be 1 (x.seq + 1).toNat ++ be 2 x.dcompH ++ be 2 x.dcompT

/-- Sends a request with the satellite's next SEQ (R90, R91). An ASSIGN carries the values measured by then (R94). -/
def Card.sendReq (c : Card) (s p : Nat) (r : Req) : Card :=
  let x := c.sat s p
  let r := { r with
    seq := x.seq, port := c.portOf s p, resends := 0, sentAt := c.frame
    payload := if r.owner == .assign then c.assignPayload s p else r.payload }
  (c.setSat s p { x with seq := x.seq + 1, out := some r }).commitOwner s p r.owner

/-- Queues a request for a satellite; it is sent in the next slots that carry requests (R76). -/
def Card.request (c : Card) (s p : Nat) (typ : Nat) (payload : List Byte) (owner : Owner) : Card :=
  c.modSat s p fun x => { x with queue := x.queue ++ [{ typ := typ, payload := payload, owner := owner }] }

/-- Sends the oldest queued request of each satellite that has none outstanding (R90). A chain that is off or under
reset sends nothing. -/
def Card.pumpRequests (c : Card) (s : Nat) : Card :=
  if !c.bit (CHN_CTRL.EN s) || c.bit (CHN_STATUS.RESETTING s) then c
  else c.each places fun c p =>
    let x := c.sat s p
    match x.out, x.queue with
    | none, r :: rest => (c.setSat s p { x with queue := rest }).sendReq s p r
    | _, _ => c

/-- Whether a satellite's COMPAT is allowed under the running firmware (R353). -/
def Card.compatOk (c : Card) (v : Nat) : Bool :=
  decide (c.reg LAN_CLASS1 &&& 0xFF ≤ BitVec.ofNat 32 v) && decide (v ≤ (c.reg LAN_CLASS1).toNat / 256 % 256)

/-- Asks for the ASSIGN that admits a place's satellite (R94). -/
def Card.assign (c : Card) (s p : Nat) : Card :=
  let c := c.modSat s p fun x => { x with admitting := true }
  c.request s p 0x03 [] .assign

/-- IDENT and PROBE of a satellite found by a census (R94, R461). -/
def Card.identify (c : Card) (s p addr : Nat) (readmit : Bool) : Card :=
  let c := c.modSat s p fun x =>
    { x with addr := addr, readmit := readmit, probeH := true, probeT := true, admitting := true }
  c.request s p 0x04 [] .ident

/-- An IDENT answer's content enters the place's record (R87). -/
def Card.identified (c : Card) (s p : Nat) (pl : List Byte) : Card :=
  let uid := BitVec.ofNat 64 (beAt pl 0 8)
  let c := c.modSat s p fun x =>
    { x with uid := uid, cls := beAt pl 8 2, fw := beAt pl 10 3, compat := beAt pl 13 1
             hw := beAt pl 14 1, latency := beAt pl 15 1, temps := unpack 18 8 (slice pl 16 18) }
  (c.setFld (CHN_SAT_STATE.ID_CHECK s p) (crc16 (uidBytes uid))).setFld (CHN_SAT_STATE.CLASS s p) (beAt pl 8 2)

/-- The first IDENT answer of a found satellite decides between ASSIGN and DISCOVERED (R94, R461). -/
def Card.decideAdmission (c : Card) (s p : Nat) : Card :=
  let x := c.sat s p
  let within := decide (p ≤ c.satCount s)
  let c := c.modSat s p fun x => { x with readmit := false, admitting := false }
  if x.readmit && within && c.compatOk x.compat && decide ((c.mapEntry s p).map (·.1) = some x.uid) then c.assign s p
  else
    let c := c.recordStr s 0x2003 ([pN s, pN p] ++ pLoHi x.uid.toNat)
    let classOk := match c.mapEntry s p with
      | none => true
      | some e => decide (e.2 = x.cls)
    if c.bit (CHN_CTRL.AUTO_ADMIT s) && within && classOk && c.compatOk x.compat then c.assign s p
    else c.setSatState s p 1

/-- The IDENT answer after an ASSIGN: the satellite is IN_SERVICE and the ring map takes it (R94, R95, R460). -/
def Card.admitted (c : Card) (s p : Nat) : Card :=
  let x := c.sat s p
  let c := match c.mapEntry s p with
    | some e =>
      if e.1 = x.uid then c
      else
        let c := { c with chn.swapped := if c.chn.swapped.contains (placeKey s p) then c.chn.swapped
                                         else c.chn.swapped ++ [placeKey s p] }
        c.recordStr s 0x2006 [pN (s * 65536 + p), pN x.uid.toNat, pN (x.uid.toNat / 2 ^ 32), pN e.1.toNat]
    | none => c
  let c := { c with chn.map := c.chn.map.set (fun _ => none) (placeKey s p) (some (x.uid, x.cls)) }
  let c := (c.setSatState s p 2).recordStr s 0x2004 [pN s, pN p]
  let c := c.modSat s p fun x =>
    { x with addr := p, admitting := false, admitOp := none, planDue := true, silent := 0 }
  match x.admitOp with
  | some slot => c.done slot
  | none => c

/-- The last resend of an ASSIGN or its IDENT brought no answer (R94). -/
def Card.admissionFailed (c : Card) (s p : Nat) : Card :=
  let x := c.sat s p
  let c := (c.setSatState s p 1).modSat s p fun x => { x with admitting := false, admitOp := none }
  match x.admitOp with
  | some slot => c.complete slot 0x0C 0x2007
  | none => c

/-! ### Upload trains (R81 to R84) -/

/-- The length of a segment with the given TONES field. -/
def segmentLength (tones : Nat) : Nat := if tones = 0 then 334 else if tones = 3 then 0 else 188

/-- POS is the next position of an in-service satellite in the train's order: falling from h at HEAD, rising from h + 1
at TAIL. -/
def Card.trainNext (c : Card) (s port pos : Nat) : Bool :=
  let x := c.chain s
  let h := c.fld (CHN_STATUS.SPLIT s)
  let serving := c.satState s pos = 2 || c.satState s pos = 5
  if port = 0 then serving && decide (1 ≤ pos ∧ pos ≤ h ∧ pos < x.trainHead)
  else serving && decide (h < pos ∧ pos ≤ c.satCount s ∧ x.trainTail < pos)

/-- An accepted segment enters the place's record and the sticky flags (R84, R100). -/
def Card.takeSegment (c : Card) (s port pos : Nat) (b : List Byte) : Card :=
  let tones := beAt b 1 1 / 4 % 4
  let status := beAt b 2 2
  let nt := if tones = 0 then 8 else 4
  let volts := unpack 18 16 (slice b 4 36)
  let exps := unpack 4 nt (slice b 40 (nt / 2))
  let words := unpack 18 (16 * nt) (slice b (40 + nt / 2) (36 * nt))
  let linkA := status / 256 % 2
  let linkB := status / 128 % 2
  let moved := decide (c.fld (CHN_SAT_STATE.LINK_A s pos) ≠ linkA ∨ c.fld (CHN_SAT_STATE.LINK_B s pos) ≠ linkB)
  let c := c.modSat s pos fun x =>
    { x with accepted := true, silent := 0, alarm := false, lastFrame := c.frame, status := status
             flags := beAt b 1 1 % 4, toneSel := tones, volts := volts, exps := exps, tones := words }
  let c := (c.setFld (CHN_SAT_STATE.LINK_A s pos) linkA).setFld (CHN_SAT_STATE.LINK_B s pos) linkB
  let c := c.modChain s fun x =>
    { x with trainHead := if port = 0 then pos else x.trainHead
             trainTail := if port = 0 then x.trainTail else pos
             censusDue := x.censusDue || moved }
  let c := c.when (volts.any (fun v => v = 0 ∨ v = 0x3FFFF) || status / 2048 % 2 = 1) (·.stick (CHN_STICKY.VSAT s))
  let c := c.when (status / 1024 % 2 = 1) (·.stick (CHN_STICKY.TSAT s))
  let c := c.when (status / 512 % 2 = 1) (·.stick (CHN_STICKY.TONE_SAT s))
  c.when (beAt b 1 1 % 2 = 1) fun c => (c.stick (CHN_STICKY.BAL_LEAK s)).recordStr s 0x200C [pN s, pN pos]

/-- UPLOAD_SEGMENT (R84): `port` 0 is HEAD; a segment that ends after the slot 3 boundary is `late` (R81). -/
def execUploadSegment (chain port : Nat) (late : Bool) (bytes : List (BitVec 8)) (s : State) :
    Host.Outcome State Fault Refusal :=
  s.on fun c =>
    if chain = 0 ∨ 4 < chain ∨ 1 < port ∨ !c.bit (CHN_CTRL.EN chain) ∨ late then c
    else match crcBody bytes with
      | none => (c.count (CHN_ERR_CNT.CRC chain)).stick (CHN_STICKY.CRC_ERR chain)
      | some b =>
        let tones := beAt b 1 1 / 4 % 4
        if bytes.length = segmentLength tones ∧ beAt b 1 1 / 16 = c.frame.toNat % 16
            ∧ c.trainNext chain port (beAt b 0 1) then
          (c.jrn 0x02 (chain + 8 * port) bytes).takeSegment chain port (beAt b 0 1) b
        else c.stick (CHN_STICKY.FRAME_MISMATCH chain)

/-- A voltage of an accepted segment lies outside CHN_V_LO to CHN_V_HI (R97). -/
def Card.voltsOut (c : Card) (s p : Nat) : Bool :=
  (c.sat s p).accepted && (c.sat s p).volts.any fun v =>
    decide (c.fld (CHN_V_HI.V_HI s) < v) || decide (v < c.fld (CHN_V_LO.V_LO s))

/-- The upload window ends at the slot 3 boundary: stale places, silence, and the limit-violation line (R84, R96,
R97). -/
def Card.closeUpload (c : Card) (s : Nat) : Card :=
  let n := c.satCount s
  let c := c.each places fun c p =>
    let x := c.sat s p
    let used := decide (p ≤ n)
    let stale := used && !x.accepted
    let served := decide (c.satState s p = 2 ∨ c.satState s p = 5 ∨ c.satState s p = 3)
    let silent := if x.accepted then 0 else if served then x.silent + 1 else x.silent
    let alarm := used && !x.accepted && (x.alarm || (served && decide (c.fld (CHN_TIMING.SILENT_LIMIT s) ≤ silent)))
    let c := c.setSat s p { x with silent := silent, alarm := alarm }
    (c.setFld ⟨CHN_STALE s, p - 1, 1⟩ (if stale then 1 else 0)).setBit (CHN_SAT_STATE.STALE s p) stale
  let silence := !c.bit (CHN_CTRL.MAINT s) && places.any fun p => (c.sat s p).alarm
  let limit := places.any fun p => decide (p ≤ n) && c.voltsOut s p
  c.modChain s fun x => { x with line := silence || limit }

/-! ### Frame work of a chain controller (R69, R77, R104) -/

/-- The SYNC_TIME payload of the frame (R87). -/
def Card.syncPayload (c : Card) (s h tone : Nat) (permit : Bool) : List Byte :=
  be 4 c.frame.toNat ++ be 8 c.tim.framePm ++ be 1 h ++ be 1 tone ++ be 1 (if permit then 1 else 0)
    ++ be 1 (c.fld (CHN_TIMING.SAMPLE_OFS s))

/-- A frame begins on a chain: the split and TONE_SEL follow RING_STATE, SYNC_TIME leaves both ports (but not in replay mode, R384),
and frames
without a reached satellite are counted. A chain reset that found no link in 16 frames ends in TIMEOUT (R105). -/
def Card.chainFrame (c : Card) (s : Nat) : Card :=
  let x := c.chain s
  let on := c.bit (CHN_CTRL.EN s)
  let ring := c.fld (CHN_STATUS.RING_STATE s)
  let h := if ring = 1 then (c.satCount s + 1) / 2 else x.splitNext
  let tone := if ring = 1 ∨ ring = 0 then 0 else if x.toneSel = 1 then 2 else 1
  let c := c.setFld (CHN_STATUS.SPLIT s) h
  let down := if on && ring = 0 then x.downFrames + 1 else 0
  let resetting := c.bit (CHN_STATUS.RESETTING s) && x.resetCause.isNone
  let c := c.setChain s { x with
    toneSel := tone, trainHead := 33, trainTail := 0, downFrames := down
    resetFrames := if resetting then x.resetFrames + 1 else 0
    sync := if on && !c.rcd.replay then c.syncPayload s h tone x.balPermit else [] }
  let c := c.each places fun c p => c.modSat s p fun y => { y with accepted := false }
  if resetting && decide (16 ≤ (c.chain s).resetFrames) && !c.bit (CHN_STATUS.HEAD_LINK s)
      && !c.bit (CHN_STATUS.TAIL_LINK s) then
    let c := c.each (c.chain s).resetOps fun c slot => c.complete slot 0x0C 0x2007
    c.modChain s fun x => { x with resetOps := [] }
  else c

/-- CHAIN_LINK_CHANGE (R74): `viol` code violations that the port saw; a change of link state schedules a census. -/
def execChainLinkChange (chain port : Nat) (up : Bool) (viol : Nat) (s : State) : Host.Outcome State Fault Refusal :=
  s.on fun c =>
    if chain = 0 ∨ 4 < chain ∨ 1 < port then c
    else
      let f := if port = 0 then CHN_STATUS.HEAD_LINK chain else CHN_STATUS.TAIL_LINK chain
      let c := c.count (CHN_ERR_CNT.CODE_VIOL chain) viol
      if c.bit f = up then c
      else (c.setBit f up).modChain chain fun x => { x with censusDue := true }

/-! ### Census (R92 to R94, R461) -/

/-- The places found from the two ends: place and entry, the HEAD side first. -/
def Card.censusPlaces (c : Card) (s : Nat) (head tail : List CensusEntry) : List (Nat × CensusEntry) :=
  let h := (head.zipIdx 1).map fun x => (x.2, x.1)
  let n := c.satCount s
  let t := (tail.zipIdx 1).filterMap fun x =>
    if x.2 ≤ n ∧ head.length < n + 1 - x.2 then some (n + 1 - x.2, x.1) else none
  (h ++ t).filter fun x => decide (x.1 ≤ 32)

/-- RING_STATE from the two results: WHOLE where the two censuses overlap, BROKEN where they leave at most one place in
use unreached, MULTI where they leave more. -/
def Card.ringFrom (c : Card) (s : Nat) (head tail : List CensusEntry) : Nat :=
  let n := c.satCount s
  let k := head.length + tail.length
  if k = 0 then 0 else if head ≠ [] ∧ tail ≠ [] ∧ n < k then 1 else if n ≤ k + 1 then 2 else 3

/-- The provisional address of a place (R93): by hop from HEAD where HEAD reached it, otherwise by hop from TAIL. -/
def Card.provisional (c : Card) (s p : Nat) (head : List CensusEntry) : Nat :=
  if p ≤ head.length then 0x40 + p else 0x60 + (c.satCount s + 1 - p)

/-- One found satellite: its SEQ resumes after a reset, an in-service one is measured again, another is identified. -/
def Card.censusFound (c : Card) (s : Nat) (head : List CensusEntry) (fresh resume : Bool) (x : Nat × CensusEntry) : Card :=
  let p := x.1
  let e := x.2
  let c := c.when (resume || (fresh && e.pos ≠ 0)) fun c =>
    c.modSat s p fun y => { y with seq := e.lastSeq + 1 }
  let st := c.satState s p
  let addr := if e.pos = 0 then c.provisional s p head else e.pos
  if (c.sat s p).admitting then c
  else if st = 0 ∨ st = 3 ∨ (st = 2 ∧ e.pos = 0) then c.identify s p addr (fresh && decide (e.pos ≠ 0))
  else if st = 2 then c.modSat s p fun y => { y with probeH := true, probeT := true }
  else c

/-- A place in DISCOVERED or REFUSED that the census no longer finds is EMPTY. -/
def Card.censusGone (c : Card) (s : Nat) (found : List Nat) : Card :=
  c.each places fun c p =>
    if !found.contains p && (c.satState s p = 1 || c.satState s p = 4) && !(c.sat s p).admitting
    then c.setSatState s p 0 else c

/-- A census ends on a chain (R92 to R94): `head` and `tail` are the entries of the census that left each port, in the order reached. -/
def Card.takeCensus (c : Card) (chain : Nat) (head tail : List CensusEntry) : Card :=
    if chain = 0 ∨ 4 < chain ∨ !c.bit (CHN_CTRL.EN chain) ∨ (c.chain chain).resetCause.isSome then c
    else
      let x := c.chain chain
      let (n, c) := c.draw
      let c := c.jrnPacket chain (Config.freeBytes n (8 + 3 * head.length))
      let (n, c) := c.draw
      let c := c.jrnPacket chain (Config.freeBytes n (8 + 3 * tail.length))
      let found := c.censusPlaces chain head tail
      let old := c.fld (CHN_STATUS.RING_STATE chain)
      let ring := c.ringFrom chain head tail
      let c := c.setFld (CHN_PRESENT.PRESENT chain) (found.foldl (fun v y => v ||| 2 ^ (y.1 - 1)) 0)
      let c := c.setFld (CHN_STATUS.RING_STATE chain) ring
      let c := c.setFld (CHN_STATUS.BREAK_AFTER chain) (if ring = 2 then head.length else 0)
      let c := if ring = 2 ∧ old ≠ 2 then c.recordStr chain 0x2001 [pN chain, pN head.length]
        else if ring = 1 ∧ (old = 2 ∨ old = 3) then c.recordStr chain 0x2002 [pN chain] else c
      let c := c.setBit (CHN_STATUS.RESETTING chain) false
      let c := (c.each x.resetOps fun c slot => c.done slot).each x.censusOps fun c slot => (c.commit slot).done slot
      let c := c.setChain chain { c.chain chain with
        splitNext := head.length, censusDue := false, everCensus := true, resumeSeq := false
        resetOps := [], censusOps := [], resetFrames := 0 }
      let c := c.each found fun c y => c.censusFound chain head (!x.everCensus) x.resumeSeq y
      c.censusGone chain (found.map (·.1))

/-- PROBE_TURN_AROUND (R78, R87): `delay` ns from the end of the PROBE to the /T/. Half of what exceeds the satellite's
1,000 ns is the delay one way. -/
def execProbeTurnAround (chain port place delay : Nat) (s : State) : Host.Outcome State Fault Refusal :=
  s.on fun c =>
    if chain = 0 ∨ 4 < chain ∨ place = 0 ∨ 32 < place ∨ 1 < port then c
    else
      let x := c.sat chain place
      let d := code 16 (quot ((delay : Int) - 1000) 2)
      if port = 0 then (if x.probeH then c.setSat chain place { x with probeH := false, dcompH := d } else c)
      else (if x.probeT then c.setSat chain place { x with probeT := false, dcompT := d } else c)

/-! ### Chain reset (R104, R105) -/

/-- A chain reset is requested: RESETTING, to take effect at the next frame boundary. -/
def Card.requestChainReset (c : Card) (s cause : Nat) : Card :=
  if c.bit (CHN_STATUS.RESETTING s) then c
  else (c.setBit (CHN_STATUS.RESETTING s) true).modChain s fun x => { x with resetCause := some cause }

/-- CHAIN_CONTROLLER_RESET (R104). -/
def execChainControllerReset (chain : Nat) (s : State) : Host.Outcome State Fault Refusal :=
  s.on fun c =>
    let n := (c.chain chain).downFrames
    if chain = 0 ∨ 4 < chain ∨ !(decide (n = 8) || (decide (8 < n) && decide ((n - 8) % 64 = 0))) then c
    else c.requestChainReset chain 1

/-- The operation behind a request that a chain reset ends (R105). -/
def Card.flushReq (c : Card) (sent : Bool) (r : Req) : Card :=
  match r.owner with
  | .host slot => c.complete slot 0x0A (if sent then 0x2006 else 0x2005)
  | _ => c

/-- A satellite's requests end at a chain reset. -/
def Card.flushSat (c : Card) (s p : Nat) : Card :=
  let x := c.sat s p
  let c := match x.out with
    | some r => c.flushReq true r
    | none => c
  let c := c.each x.queue fun c r => c.flushReq false r
  let sent : Bool := match x.out with
    | some r => r.owner == .assign || r.owner == .confirm
    | none => false
  let c := match x.admitOp with
    | some slot => c.complete slot 0x0A (if sent then 0x2006 else 0x2005)
    | none => c
  c.modSat s p fun y => { y with out := none, queue := [], admitting := false, admitOp := none, planDue := true
                                 probeH := false, probeT := false }

/-- The string leaves service: the operations on its satellites that are in flight end (R26, R107, R447). -/
def Card.loseChainOps (c : Card) (s : Nat) : Card :=
  let mine (o : Op) : Bool := [0x21, 0x22, 0x23, 0x24].contains o.opcode && decide (o.desc.byte 0 = s) && !o.produced
  let gone := (c.running.filter fun x => mine x.2).map (·.1)
  let c := c.each gone fun c slot => c.complete slot 0x0B (0x2180 + (s - 1))
  c.each places fun c p =>
    if (c.sat s p).queue.any (fun r => gone.any fun slot => r.owner == .host slot)
    then c.modSat s p fun x => { x with queue := x.queue.filter fun r => !gone.any fun slot => r.owner == .host slot } else c

/-- A contactor of the string has opened, or its chain was reset: the open capacity segments are disqualified (R155 bit
6). -/
def Card.isolate (c : Card) (s : Nat) : Card :=
  let x := c.est.strs.get (fun _ => {}) s
  { c with est.strs := c.est.strs.set (fun _ => {}) s { x with isolated := true } }

/-- CHAIN_RESET (R104): the requested reset takes effect. -/
def execChainReset (chain : Nat) (s : State) : Host.Outcome State Fault Refusal :=
  s.on fun c =>
    match (c.chain chain).resetCause with
    | none => c
    | some cause =>
      if chain = 0 ∨ 4 < chain then c
      else
        let x := c.chain chain
        let c := c.each places fun c p => c.flushSat chain p
        let c := c.each x.censusOps fun c slot => c.complete slot 0x0A 0x2005
        let c := c.setChain chain { x with
          resetCause := none, censusOps := [], censusDue := true, resumeSeq := true, resetFrames := 0
          trainHead := 33, trainTail := 0 }
        let c := c.each x.resetOps fun c slot => c.commit slot
        let c := (c.setFld (CHN_STATUS.RING_STATE chain) 0).setFld (CHN_STATUS.BREAK_AFTER chain) 0
        let c := (c.setBit (CHN_STATUS.HEAD_LINK chain) false).setBit (CHN_STATUS.TAIL_LINK chain) false
        (c.isolate chain).recordStr chain 0x2007 [pN chain, pN cause]

/-! ### Host operations (R106) -/

/-- The RESERVED_FIELD check of the chain opcodes. -/
def chnArgs (b : Bool) : Option (Nat × Nat) := if b then none else some (7, 0x2001)

/-- The string of byte 0 is 1 to 4. -/
def stringOk (d : Desc) : Bool := decide (1 ≤ d.byte 0) && decide (d.byte 0 ≤ 4)

/-- The ring place of byte 1 is 1 to 32. -/
def placeOk (d : Desc) : Bool := decide (1 ≤ d.byte 1) && decide (d.byte 1 ≤ 32)

/-- The cell position of bytes 2 and 3 is 1 to 512. -/
def cellOk (d : Desc) : Bool := decide (1 ≤ d.at 2 2) && decide (d.at 2 2 ≤ 512)

/-- The ring place of a cell position (R68). -/
def placeOfCell (cell : Nat) : Nat := (cell - 1) / 16 + 1

/-- The position 1 to 16 of a cell within its satellite. -/
def posInSat (cell : Nat) : Nat := (cell - 1) % 16 + 1

/-- CHAIN_RESETTING, then NO_SUCH_SATELLITE where the place holds no satellite that answers register and balancing
requests. -/
def Card.chnReach (c : Card) (s p : Nat) : Option (Nat × Nat × Word) :=
  if c.bit (CHN_STATUS.RESETTING s) then some (3, 0x2008, 0)
  else if c.satState s p = 2 ∨ c.satState s p = 5 then none
  else some (3, 0x2002, 0)

/-- CHN_ADMIT. -/
def rowChnAdmit : Row where
  opcode := 0x20
  role := 2
  args _ d := chnArgs (d.only [(0, 3)] && stringOk d && placeOk d && decide (d.byte 2 ≤ 1))
  checks c d :=
    let s := d.byte 0
    let p := d.byte 1
    if c.bit (CHN_STATUS.RESETTING s) then some (3, 0x2008, 0)
    else if (c.satState s p ≠ 1 ∧ c.satState s p ≠ 4) ∨ (c.sat s p).admitting then some (3, 0x2002, 0)
    else if c.satCount s < p then some (3, 0x2003, 0)
    else if d.byte 2 = 0 ∧ !c.compatOk (c.sat s p).compat then some (3, 0x2009, 0)
    else none
  start slot c :=
    let d := c.descOf slot
    if d.byte 2 = 1 then ((c.commit slot).setSatState (d.byte 0) (d.byte 1) 4).done slot
    else (c.modSat (d.byte 0) (d.byte 1) fun x => { x with admitOp := some slot }).assign (d.byte 0) (d.byte 1)

/-- CHN_BAL_MANUAL: a BAL_CMD for one cell (R98). -/
def rowChnBalManual : Row where
  opcode := 0x21
  role := 2
  args _ d := chnArgs (d.only [(0, 1), (2, 3), (6, 4)] && stringOk d && cellOk d)
  checks c d := c.chnReach (d.byte 0) (placeOfCell (d.at 2 2))
  start slot c :=
    let d := c.descOf slot
    c.request (d.byte 0) (placeOfCell (d.at 2 2)) 0x08
      (be 1 (posInSat (d.at 2 2)) ++ be 1 (d.byte 4) ++ be 2 (d.at 6 2) ++ be 2 (d.at 8 2) ++ be 2 0) (.host slot)

/-- CHN_BAL_TEST (R99). -/
def rowChnBalTest : Row where
  opcode := 0x22
  role := 2
  args _ d := chnArgs (d.only [(0, 1), (2, 4)] && stringOk d && cellOk d)
  checks c d := c.chnReach (d.byte 0) (placeOfCell (d.at 2 2))
  start slot c :=
    let d := c.descOf slot
    c.request (d.byte 0) (placeOfCell (d.at 2 2)) 0x09 (be 1 (posInSat (d.at 2 2)) ++ be 2 (d.at 4 2)) (.host slot)

/-- CHN_SAT_READ. -/
def rowChnSatRead : Row where
  opcode := 0x23
  role := 1
  args _ d := chnArgs (d.only [(0, 5), (8, 8)] && stringOk d && placeOk d && decide (1 ≤ d.byte 4) && decide (d.byte 4 ≤ 64))
  checks c d := c.chnReach (d.byte 0) (d.byte 1)
  start slot c :=
    let d := c.descOf slot
    c.request (d.byte 0) (d.byte 1) 0x06 (be 2 (d.at 2 2) ++ be 1 (d.byte 4)) (.host slot)

/-- CHN_SAT_WRITE: the data is what the host buffer held. -/
def rowChnSatWrite : Row where
  opcode := 0x24
  role := 2
  args _ d := chnArgs (d.only [(0, 5), (8, 8)] && stringOk d && placeOk d && decide (1 ≤ d.byte 4) && decide (d.byte 4 ≤ 64))
  checks c d := c.chnReach (d.byte 0) (d.byte 1)
  start slot c :=
    let d := c.descOf slot
    c.request (d.byte 0) (d.byte 1) 0x05 (be 2 (d.at 2 2) ++ slice (d.buf ++ List.replicate 64 0) 0 (d.byte 4)) (.host slot)

/-- CHN_RESET (R105). -/
def rowChnReset : Row where
  opcode := 0x25
  role := 2
  args _ d := chnArgs (d.only [(0, 1)] && stringOk d)
  checks c d := if c.bit (CHN_STATUS.RESETTING (d.byte 0)) then some (3, 0x2008, 0) else none
  start slot c :=
    let s := (c.descOf slot).byte 0
    (c.requestChainReset s 0).modChain s fun x => { x with resetOps := x.resetOps ++ [slot] }

/-- CHN_CENSUS: done after the chain's next census. -/
def rowChnCensus : Row where
  opcode := 0x26
  role := 1
  args _ d := chnArgs (d.only [(0, 1)] && stringOk d)
  checks c d := if c.bit (CHN_STATUS.RESETTING (d.byte 0)) then some (3, 0x2008, 0) else none
  start slot c := c.modChain ((c.descOf slot).byte 0) fun x => { x with censusOps := x.censusOps ++ [slot] }

/-- CHN_ADMIT (R106). -/
def execChnAdmit (d : Desc) (s : State) : Host.Outcome State Fault Refusal := s.on fun c => c.accept rowChnAdmit d
/-- CHN_BAL_MANUAL (R98, R106). -/
def execChnBalManual (d : Desc) (s : State) : Host.Outcome State Fault Refusal := s.on fun c => c.accept rowChnBalManual d
/-- CHN_BAL_TEST (R99, R106). -/
def execChnBalTest (d : Desc) (s : State) : Host.Outcome State Fault Refusal := s.on fun c => c.accept rowChnBalTest d
/-- CHN_SAT_READ (R106). -/
def execChnSatRead (d : Desc) (s : State) : Host.Outcome State Fault Refusal := s.on fun c => c.accept rowChnSatRead d
/-- CHN_SAT_WRITE (R106). -/
def execChnSatWrite (d : Desc) (s : State) : Host.Outcome State Fault Refusal := s.on fun c => c.accept rowChnSatWrite d
/-- CHN_RESET (R105, R106). -/
def execChnReset (d : Desc) (s : State) : Host.Outcome State Fault Refusal := s.on fun c => c.accept rowChnReset d
/-- CHN_CENSUS (R106). -/
def execChnCensus (d : Desc) (s : State) : Host.Outcome State Fault Refusal := s.on fun c => c.accept rowChnCensus d

end Sys2Proof.Machine
end

