-- ==== Sys2Proof/Machine/Flags.lean ====
section
/-! DEFINITION. The 18-bit values and saturating arithmetic of R55 to R60: exact results, rounding, clamping, and the
flag that each clamp sets. -/

namespace Sys2Proof.Machine

/-- An 18-bit word read as signed or unsigned (R56). -/
def val18 (sgn : Bool) (w : Nat) : Int := if sgn then signed 18 w else ((w % 2 ^ 18 : Nat) : Int)

/-- The lowest value of an 18-bit format (R55). -/
def low18 (sgn : Bool) : Int := if sgn then -131072 else 0

/-- The highest value of an 18-bit format (R55). -/
def high18 (sgn : Bool) : Int := if sgn then 131071 else 262143

/-- A value clamped to an 18-bit format, as a word, and whether the clamp changed it (R58, R60). -/
def clamp18 (sgn : Bool) (v : Int) : Nat × Bool :=
  let r := clampInt (low18 sgn) (high18 sgn) v
  (code 18 r, decide (r ≠ v))

/-- A value clamped to the accumulator, and whether ACC is set (R57). -/
def clampAcc (v : Int) : Int × Bool :=
  let r := clampInt (-(2 ^ 41)) (2 ^ 41 - 1) v
  (r, decide (r ≠ v))

/-- Division by 2^n toward −∞ (TRN of R59). -/
def truncShift (v : Int) (n : Nat) : Int := v / (2 ^ n : Nat)

/-- Division by 2^n to the nearest value, ties to even (RNE of R59). -/
def roundShift (v : Int) (n : Nat) : Int :=
  let q := v / (2 ^ n : Nat)
  let r := v % (2 ^ n : Nat)
  if 2 * r < (2 ^ n : Nat) then q
  else if 2 * r > (2 ^ n : Nat) then q + 1
  else if n = 0 then q else if q % 2 = 0 then q else q + 1

/-- An accumulator narrowed to an 18-bit word, and whether NARROW is set (R58). -/
def narrow18 (sgn trunc : Bool) (shift : Nat) (acc : Int) : Nat × Bool :=
  clamp18 sgn (if trunc then truncShift acc shift else roundShift acc shift)

/-- The interpolated table value of LUT (R119): `k` index bits, entries S18. -/
def lutValue (k index : Nat) (entry : Nat → Nat) : Nat :=
  let n := 18 - k
  let i := index / 2 ^ n
  let f := index % 2 ^ n
  let a := val18 true (entry i)
  let b := val18 true (entry (i + 1))
  code 18 (a + roundShift ((b - a) * f) n)

/-- The condition field of the compares (R118); `none` is reserved. -/
def condition (v : Nat) (a b : Int) : Option Bool :=
  match v with
  | 0 => some (decide (a = b))
  | 1 => some (decide (a ≠ b))
  | 2 => some (decide (a < b))
  | 3 => some (decide (a ≤ b))
  | 4 => some (decide (a > b))
  | 5 => some (decide (a ≥ b))
  | _ => none

end Sys2Proof.Machine
end

