-- ==== Sys2Proof/Machine/Tile.lean ====
section
/-! DEFINITION. A tile of the estimation array (R109 to R121): memory, effective addresses, the instructions of R118,
stalls, reductions and traps. The 18-bit arithmetic stands in Machine/Flags.lean. -/

namespace Sys2Proof.Machine

/-! ### Records -/

/-- What tile memory reads as where nothing was written since it was cleared (R135). -/
def noWord : Nat → W18 := fun _ => 0

/-- A physical tile. -/
def Card.tile (c : Card) (ph : Nat) : Tile := c.til.tiles.get (fun _ => {}) ph

/-- Writes a physical tile. -/
def Card.setTile (c : Card) (ph : Nat) (t : Tile) : Card := { c with til.tiles := c.til.tiles.set (fun _ => {}) ph t }

/-- Changes a physical tile. -/
def Card.modTile (c : Card) (ph : Nat) (f : Tile → Tile) : Card := c.setTile ph (f (c.tile ph))

/-- The physical tile behind logical tile `t` (R109). -/
def Card.phys (c : Card) (t : Nat) : Nat := c.fld (TIL_MAP.PHYS t)

/-- The logical tile has no state (R133). -/
def Card.noTile (c : Card) (t : Nat) : Bool := decide (c.fld (TIL_MAP.STATE t) = 2)

/-- The string that logical tile `t` serves (R110). -/
def stringOf (t : Nat) : Nat := t / 64 + 1

/-- The cell position that lane `l` of logical tile `t` serves (R110). -/
def cellOf (t l : Nat) : Nat := 8 * (t % 64) + l + 1

/-- The partner of a logical tile (R110). -/
def partner (t : Nat) : Nat := t ^^^ 1

/-- A lane's position lies above 16 × SAT_COUNT of its chain (R110). -/
def Card.unassigned (c : Card) (t l : Nat) : Bool := decide (16 * c.satCount (stringOf t) < cellOf t l)

/-- A memory word of a tile. -/
def Tile.word (t : Tile) (a : Nat) : Nat := (t.mem.get noWord a).toNat

/-- Writes a memory word. -/
def Tile.put (t : Tile) (a v : Nat) : Tile := { t with mem := t.mem.set noWord a (BitVec.ofNat 18 v) }

/-- A base register. -/
def Tile.base (t : Tile) (n : Nat) : Nat := t.b.get (fun _ => 0) n

/-- A loop counter. -/
def Tile.count (t : Tile) (n : Nat) : Nat := t.l.get (fun _ => 0) n

/-- A lane. -/
def Tile.lane (t : Tile) (l : Nat) : LaneRegs := t.lanes.get (fun _ => {}) l

/-- Writes a lane. -/
def Tile.setLane (t : Tile) (l : Nat) (x : LaneRegs) : Tile := { t with lanes := t.lanes.set (fun _ => {}) l x }

/-- The lanes of a tile. -/
def lanes8 : List Nat := [0, 1, 2, 3, 4, 5, 6, 7]

/-- The lanes whose P is 1. -/
def Tile.on (t : Tile) : List Nat := lanes8.filter fun l => (t.lane l).p

/-- Changes the listed lanes. -/
def Tile.mapLanes (t : Tile) (ls : List Nat) (f : Nat → LaneRegs → LaneRegs) : Tile :=
  ls.foldl (fun t l => t.setLane l (f l (t.lane l))) t

/-- ORs flags into a lane's flag word (R63). -/
def LaneRegs.flag (x : LaneRegs) (f : Nat) : LaneRegs := { x with flags := x.flags ||| f }

/-! ### Operands (R116, R117) -/

/-- The effective address of an operand field for a lane; `none` traps MEM_RANGE. -/
def Tile.ea (t : Tile) (f : BitVec 9) (l : Nat) : Option Nat :=
  let n := f.toNat / 64
  let o := f.toNat % 64
  let r := t.base n + o
  if n ≤ 3 then (if r ≤ 0xFFF then some (0x2000 + 0x1000 * l + r) else none)
  else if n ≤ 6 then some (r % 65536)
  else some ((r + l) % 65536)

/-- An input-window word is a voltage code or a string current code that stands at an end of its scale (R61, R122). -/
def endCode (a v : Nat) : Bool :=
  let w := (a - 0xF000) % 0x100
  decide (0xF000 ≤ a ∧ a < 0xF800) &&
    ((decide (w = 0) && (decide (v = 0) || decide (v = 0x3FFFF)))
      || (decide (0x20 ≤ w ∧ w ≤ 0x30) && (decide (v = 0x1FFFF) || decide (v = 0x20000))))

/-- The INPUT flag that reading an operand sets in a lane. -/
def Tile.inputFlag (t : Tile) (f : BitVec 9) (l : Nat) : Nat :=
  match t.ea f l with
  | some a => if endCode a (t.word a) then 8 else 0
  | none => 0

/-- The operand's word for a lane. -/
def Tile.read (t : Tile) (f : BitVec 9) (l : Nat) : Nat :=
  match t.ea f l with
  | some a => t.word a
  | none => 0

/-- The class of the checkpoint section that an address lies in (R125): 0 ESSENTIAL, 1 TRACKING, 2 LOOKAHEAD. -/
def sectionOf (a : Nat) : Option Nat :=
  let w := (a - 0x2000) % 0x1000
  if 0x2000 ≤ a ∧ a < 0xA000 ∧ w < 0x400 then some (if w < 0x300 then 0 else if w < 0x3C0 then 1 else 2) else none

/-- A batch of class `cls` may not write address `a` (R117, R126). -/
def protectedFrom (cls a : Nat) : Bool :=
  decide (a < 0x2000) || decide (0xA000 ≤ a ∧ a < 0xC000) || decide (0xF000 ≤ a ∧ a < 0xF800)
    || match sectionOf a with
      | some k => decide (k ≠ cls)
      | none => false

/-! ### Outcomes of an instruction -/

/-- What one instruction does: advance, branch, trap (code, lane), stall, contribute to a channel, or end the batch. -/
inductive TileOut where
  | ok (t : Tile)
  | goto (t : Tile) (pc : Nat)
  | trap (code lane : Nat)
  | stall (t : Tile) (why : Stall)
  | contribute (t : Tile) (ch : Nat) (sum : Bool) (v : Option Int) (merge : Int → Int → Int)
  | halt

/-- What an instruction sees beside its tile: the logical tile, the running batch's class, the frame number, the
unassigned lanes, the channels of its string, the tiles that a complete channel needs, whether the input window is
filled, and a free value (the minimum or maximum of a channel to which no lane contributed, or what SEL leaves in a shared
word). -/
structure TileCtx where
  t : Nat
  cls : Nat
  frame : BitVec 32
  unassigned : List Nat
  chan : Nat → Chan
  need : List Nat
  filled : Bool
  unstated : Nat

/-- A channel is complete (R119). -/
def TileCtx.complete (k : TileCtx) (ch : Nat) : Bool := k.need.all fun t => (k.chan ch).tiles.contains t

/-- The lowest lane of a list for which a test holds. -/
def lowestLane (ls : List Nat) (f : Nat → Bool) : Option Nat := ls.find? f

/-- Reading operands traps MEM_RANGE. -/
def Tile.range (t : Tile) (fs : List (BitVec 9)) : Option (Nat × Nat) :=
  if fs.any fun f => (t.ea f 0).isNone then some (3, 0) else none

/-- A write through D by the listed lanes traps MEM_RANGE, SHARED_WRITE or WRITE_PROTECT (R116, R117). -/
def Tile.writeTrap (t : Tile) (cls : Nat) (d : BitVec 9) (ls : List Nat) : Option (Nat × Nat) :=
  let n := d.toNat / 64
  if (t.ea d 0).isNone then some (3, 0)
  else if 4 ≤ n ∧ n ≤ 6 ∧ 1 < t.on.length then some (5, t.on.headD 0)
  else (lowestLane ls fun l => match t.ea d l with
    | some a => protectedFrom cls a
    | none => false).map fun l => (4, l)

/-- Writes each listed lane's value through D. -/
def Tile.writeD (t : Tile) (d : BitVec 9) (ls : List Nat) (v : Nat → Nat) : Tile :=
  ls.foldl (fun t' l => match t.ea d l with
    | some a => t'.put a (v l)
    | none => t') t

/-- An instruction that reads sources and writes D in the listed lanes: `g` gives a lane's result and the flags that it
sets. -/
def Tile.compute (t : Tile) (cls : Nat) (srcs : List (BitVec 9)) (d : BitVec 9) (ls : List Nat)
    (g : Nat → Nat × Nat) : TileOut :=
  match t.range srcs with
  | some e => .trap e.1 e.2
  | none =>
    match t.writeTrap cls d ls with
    | some e => .trap e.1 e.2
    | none =>
      let flags (l : Nat) : Nat := srcs.foldl (fun f s => f ||| t.inputFlag s l) (g l).2
      .ok ((t.writeD d ls fun l => (g l).1).mapLanes ls fun l x => x.flag (flags l))

/-- An instruction on the accumulator that bit 2 of V selects: `g` gives the new value and the ACC flag. -/
def Tile.accumulate (t : Tile) (v : BitVec 3) (srcs : List (BitVec 9)) (g : Nat → Int → Int × Bool) : TileOut :=
  match t.range srcs with
  | some e => .trap e.1 e.2
  | none =>
    .ok (t.mapLanes t.on fun l x =>
      let old := if v.getLsbD 2 then x.acc1 else x.acc0
      let r := g l old
      let x := x.flag (srcs.foldl (fun f s => f ||| t.inputFlag s l) (if r.2 then 1 else 0))
      if v.getLsbD 2 then { x with acc1 := r.1 } else { x with acc0 := r.1 })

/-- An instruction that sets P in every lane. -/
def Tile.predicate (t : Tile) (srcs : List (BitVec 9)) (g : Nat → Bool → Bool) : TileOut :=
  match t.range srcs with
  | some e => .trap e.1 e.2
  | none =>
    .ok (t.mapLanes lanes8 fun l x =>
      { (x.flag (srcs.foldl (fun f s => f ||| t.inputFlag s l) 0)) with p := g l x.p })

/-! ### The instructions (R118) -/

/-- IMM: A and B read together. -/
def immOf (x : TileOp) : Nat := x.a.toNat * 512 + x.b.toNat

/-- RESERVED, where the fields do not meet the opcode's row (R118, R120). -/
def unlessReserved (ok : Bool) (k : TileOut) : TileOut := if ok then k else .trap 2 0

/-- Every field is zero. -/
def bare (x : TileOp) : Bool := decide (x.v = 0 ∧ x.d = 0 ∧ x.a = 0 ∧ x.b = 0)

/-- NOP. -/
def tileNop (_ : TileCtx) (t : Tile) (x : TileOp) : TileOut := unlessReserved (bare x) (.ok t)

/-- HALT ends the batch. -/
def tileHalt (_ : TileCtx) (_ : Tile) (x : TileOp) : TileOut := unlessReserved (bare x) .halt

/-- SETB: Bn ← IMM. -/
def tileSetb (_ : TileCtx) (t : Tile) (x : TileOp) : TileOut :=
  unlessReserved (decide (x.v = 0 ∧ x.d.toNat % 64 = 0 ∧ immOf x < 65536))
    (.ok { t with b := t.b.set (fun _ => 0) (x.d.toNat / 64) (immOf x) })

/-- ADDB: Bn ← (Bn + IMM) mod 2^16, IMM read as S18. -/
def tileAddb (_ : TileCtx) (t : Tile) (x : TileOp) : TileOut :=
  let n := x.d.toNat / 64
  unlessReserved (decide (x.v = 0 ∧ x.d.toNat % 64 = 0))
    (.ok { t with b := t.b.set (fun _ => 0) n (code 16 ((t.base n : Int) + val18 true (immOf x))) })

/-- SETL: Lc ← IMM. -/
def tileSetl (_ : TileCtx) (t : Tile) (x : TileOp) : TileOut :=
  unlessReserved (decide (x.v = 0 ∧ x.d.toNat < 4 ∧ 1 ≤ immOf x ∧ immOf x < 65536))
    (.ok { t with l := t.l.set (fun _ => 0) x.d.toNat (immOf x) })

/-- LOOP: counts Lc down and branches while it is not zero. -/
def tileLoop (_ : TileCtx) (t : Tile) (x : TileOp) : TileOut :=
  let n := t.count x.d.toNat
  let t' := { t with l := t.l.set (fun _ => 0) x.d.toNat (n - 1) }
  unlessReserved (decide (x.v = 0 ∧ x.d.toNat < 4 ∧ immOf x < 2048))
    (if n = 0 then .ok t else if n = 1 then .ok t' else .goto t' (immOf x))

/-- A branch to IMM under a condition on the lanes. -/
def tileBranch (t : Tile) (x : TileOp) (taken : Bool) : TileOut :=
  unlessReserved (decide (x.v = 0 ∧ x.d = 0 ∧ immOf x < 2048)) (if taken then .goto t (immOf x) else .ok t)

/-- JMP. -/
def tileJmp (_ : TileCtx) (t : Tile) (x : TileOp) : TileOut := tileBranch t x true

/-- BANY: branch when P = 1 in any lane. -/
def tileBany (_ : TileCtx) (t : Tile) (x : TileOp) : TileOut := tileBranch t x (lanes8.any fun l => (t.lane l).p)

/-- BNONE: branch when P = 0 in every lane. -/
def tileBnone (_ : TileCtx) (t : Tile) (x : TileOp) : TileOut := tileBranch t x (lanes8.all fun l => !(t.lane l).p)

/-- WAIT for the input window (V 0) or for the channels this tile contributed to (V 1). -/
def tileWait (k : TileCtx) (t : Tile) (x : TileOp) : TileOut :=
  unlessReserved (decide (x.v.toNat ≤ 1 ∧ x.d = 0 ∧ x.a = 0 ∧ x.b = 0))
    (if x.v = 0 then (if k.filled then .ok t else .stall t .input)
     else if t.contributed.all k.complete then .ok t else .stall t .reductions)

/-- FLAGRD: D ← the lane's flag word. -/
def tileFlagrd (k : TileCtx) (t : Tile) (x : TileOp) : TileOut :=
  unlessReserved (decide (x.v = 0 ∧ x.a = 0 ∧ x.b = 0)) (t.compute k.cls [] x.d t.on fun l => ((t.lane l).flags, 0))

/-- FLAGCLR: clears the masked flags. -/
def tileFlagclr (_ : TileCtx) (t : Tile) (x : TileOp) : TileOut :=
  unlessReserved (decide (x.v = 0 ∧ x.d = 0 ∧ x.a = 0 ∧ x.b.toNat < 16))
    (.ok (t.mapLanes t.on fun _ y => { y with flags := y.flags &&& (15 - x.b.toNat) }))

/-- FRMRD: D ← bits of the frame number. -/
def tileFrmrd (k : TileCtx) (t : Tile) (x : TileOp) : TileOut :=
  unlessReserved (decide (x.v.toNat ≤ 1 ∧ x.a = 0 ∧ x.b = 0))
    (t.compute k.cls [] x.d t.on fun _ => ((if x.v = 0 then k.frame.toNat else k.frame.toNat / 2 ^ 18) % 2 ^ 18, 0))

/-- LANEID: D ← cell position, string − 1, and the unassigned mark (R110). -/
def tileLaneid (k : TileCtx) (t : Tile) (x : TileOp) : TileOut :=
  unlessReserved (decide (x.v = 0 ∧ x.a = 0 ∧ x.b = 0))
    (t.compute k.cls [] x.d t.on fun l =>
      (cellOf k.t l % 1024 + 1024 * (stringOf k.t - 1) + (if k.unassigned.contains l then 2 ^ 17 else 0), 0))

/-- A product of MAC, MSU and MUL: exact, each operand signed or unsigned by V (R56). -/
def tileProduct (t : Tile) (x : TileOp) (l : Nat) : Int :=
  val18 (x.v.getLsbD 1) (t.read x.a l) * val18 (x.v.getLsbD 0) (t.read x.b l)

/-- MAC: ACC ← ACC + A × B. -/
def tileMac (_ : TileCtx) (t : Tile) (x : TileOp) : TileOut :=
  unlessReserved (decide (x.d = 0)) (t.accumulate x.v [x.a, x.b] fun l acc => clampAcc (acc + tileProduct t x l))

/-- MSU: ACC ← ACC − A × B. -/
def tileMsu (_ : TileCtx) (t : Tile) (x : TileOp) : TileOut :=
  unlessReserved (decide (x.d = 0)) (t.accumulate x.v [x.a, x.b] fun l acc => clampAcc (acc - tileProduct t x l))

/-- MUL: ACC ← A × B. -/
def tileMul (_ : TileCtx) (t : Tile) (x : TileOp) : TileOut :=
  unlessReserved (decide (x.d = 0)) (t.accumulate x.v [x.a, x.b] fun l _ => clampAcc (tileProduct t x l))

/-- A × 2^k of ACCLD and ACCADD. -/
def tileScaled (t : Tile) (x : TileOp) (l : Nat) : Int := val18 (x.v.getLsbD 1) (t.read x.a l) * (2 ^ x.b.toNat : Nat)

/-- ACCLD: ACC ← A × 2^k. -/
def tileAccld (_ : TileCtx) (t : Tile) (x : TileOp) : TileOut :=
  unlessReserved (decide (x.d = 0 ∧ x.b.toNat ≤ 41 ∧ x.v.toNat % 2 = 0))
    (t.accumulate x.v [x.a] fun l _ => clampAcc (tileScaled t x l))

/-- ACCADD: ACC ← ACC + A × 2^k. -/
def tileAccadd (_ : TileCtx) (t : Tile) (x : TileOp) : TileOut :=
  unlessReserved (decide (x.d = 0 ∧ x.b.toNat ≤ 41 ∧ x.v.toNat % 2 = 0))
    (t.accumulate x.v [x.a] fun l acc => clampAcc (acc + tileScaled t x l))

/-- NARROW: D ← ACC narrowed under R58. -/
def tileNarrow (k : TileCtx) (t : Tile) (x : TileOp) : TileOut :=
  unlessReserved (decide (x.a = 0 ∧ x.b.toNat ≤ 41))
    (t.compute k.cls [] x.d t.on fun l =>
      let acc := if x.v.getLsbD 2 then (t.lane l).acc1 else (t.lane l).acc0
      let r := narrow18 (x.v.getLsbD 0) (x.v.getLsbD 1) x.b.toNat acc
      (r.1, if r.2 then 2 else 0))

/-- An 18-bit operation of A and B, clamped to the format that bit 0 of V selects, with the ALU flag (R60). -/
def tileAlu (k : TileCtx) (t : Tile) (x : TileOp) (g : Int → Int → Int) : TileOut :=
  let sgn := x.v.getLsbD 0
  unlessReserved (decide (x.v.toNat ≤ 1))
    (t.compute k.cls [x.a, x.b] x.d t.on fun l =>
      let r := clamp18 sgn (g (val18 sgn (t.read x.a l)) (val18 sgn (t.read x.b l)))
      (r.1, if r.2 then 4 else 0))

/-- ADD. -/
def tileAdd (k : TileCtx) (t : Tile) (x : TileOp) : TileOut := tileAlu k t x fun a b => a + b

/-- SUB. -/
def tileSub (k : TileCtx) (t : Tile) (x : TileOp) : TileOut := tileAlu k t x fun a b => a - b

/-- MIN. -/
def tileMin (k : TileCtx) (t : Tile) (x : TileOp) : TileOut := tileAlu k t x fun a b => if a ≤ b then a else b

/-- MAX. -/
def tileMax (k : TileCtx) (t : Tile) (x : TileOp) : TileOut := tileAlu k t x fun a b => if a ≤ b then b else a

/-- An 18-bit operation of A alone: source and target formats, and the ALU flag. -/
def tileUnary (k : TileCtx) (t : Tile) (x : TileOp) (ok src dst : Bool) (g : Int → Int) : TileOut :=
  unlessReserved ok
    (t.compute k.cls [x.a] x.d t.on fun l =>
      let r := clamp18 dst (g (val18 src (t.read x.a l)))
      (r.1, if r.2 then 4 else 0))

/-- NEG: D ← −A, signed. -/
def tileNeg (k : TileCtx) (t : Tile) (x : TileOp) : TileOut :=
  tileUnary k t x (decide (x.v = 1 ∧ x.b = 0)) true true fun a => -a

/-- ABS: D ← |A|, signed. -/
def tileAbs (k : TileCtx) (t : Tile) (x : TileOp) : TileOut :=
  tileUnary k t x (decide (x.v = 1 ∧ x.b = 0)) true true fun a => if a < 0 then -a else a

/-- SHL: D ← A × 2^n. -/
def tileShl (k : TileCtx) (t : Tile) (x : TileOp) : TileOut :=
  tileUnary k t x (decide (x.v.toNat ≤ 1 ∧ x.b.toNat ≤ 17)) (x.v.getLsbD 0) (x.v.getLsbD 0) fun a =>
    a * (2 ^ x.b.toNat : Nat)

/-- SHR: D ← A shifted right by n, arithmetic or logical. -/
def tileShr (k : TileCtx) (t : Tile) (x : TileOp) : TileOut :=
  tileUnary k t x (decide (x.v.toNat ≤ 1 ∧ x.b.toNat ≤ 17)) (x.v.getLsbD 0) (x.v.getLsbD 0) fun a =>
    truncShift a x.b.toNat

/-- CONV: D ← A clamped to the target range. -/
def tileConv (k : TileCtx) (t : Tile) (x : TileOp) : TileOut :=
  tileUnary k t x (decide (x.v.toNat ≤ 3 ∧ x.b = 0)) (x.v.getLsbD 1) (x.v.getLsbD 0) fun a => a

/-- MOV: D ← A. -/
def tileMov (k : TileCtx) (t : Tile) (x : TileOp) : TileOut :=
  unlessReserved (decide (x.v = 0 ∧ x.b = 0)) (t.compute k.cls [x.a] x.d t.on fun l => (t.read x.a l, 0))

/-- A bitwise operation. -/
def tileBits (k : TileCtx) (t : Tile) (x : TileOp) (g : Nat → Nat → Nat) : TileOut :=
  unlessReserved (decide (x.v = 0))
    (t.compute k.cls [x.a, x.b] x.d t.on fun l => (g (t.read x.a l) (t.read x.b l), 0))

/-- AND. -/
def tileAnd (k : TileCtx) (t : Tile) (x : TileOp) : TileOut := tileBits k t x (· &&& ·)

/-- OR. -/
def tileOr (k : TileCtx) (t : Tile) (x : TileOp) : TileOut := tileBits k t x (· ||| ·)

/-- XOR. -/
def tileXor (k : TileCtx) (t : Tile) (x : TileOp) : TileOut := tileBits k t x (· ^^^ ·)

/-- SEL: D ← A where P = 1, else B; in every lane (R114). Through a broadcast D the one lane with P = 1 writes (R117); where
none has it, the lanes write one word, and which of differing values stays is not stated. -/
def tileSel (k : TileCtx) (t : Tile) (x : TileOp) : TileOut :=
  let val (l : Nat) : Nat := if (t.lane l).p then t.read x.a l else t.read x.b l
  let shared := decide (4 ≤ x.d.toNat / 64 ∧ x.d.toNat / 64 ≤ 6)
  let ls := if shared && !t.on.isEmpty then t.on else lanes8
  let one := lanes8.all fun l => decide (val l = val 0)
  unlessReserved (decide (x.v = 0))
    (t.compute k.cls [x.a, x.b] x.d ls fun l => (if shared && t.on.isEmpty && !one then k.unstated else val l, 0))

/-- A compare: signed or unsigned, replacing P or ANDed with it. -/
def tileCompare (t : Tile) (x : TileOp) (sgn conj : Bool) : TileOut :=
  match condition x.v.toNat 0 0 with
  | none => .trap 2 0
  | some _ =>
    unlessReserved (decide (x.d = 0))
      (t.predicate [x.a, x.b] fun l p =>
        let r := (condition x.v.toNat (val18 sgn (t.read x.a l)) (val18 sgn (t.read x.b l))).getD false
        if conj then p && r else r)

/-- CMPS. -/
def tileCmps (_ : TileCtx) (t : Tile) (x : TileOp) : TileOut := tileCompare t x true false

/-- CMPU. -/
def tileCmpu (_ : TileCtx) (t : Tile) (x : TileOp) : TileOut := tileCompare t x false false

/-- CMPSA. -/
def tileCmpsa (_ : TileCtx) (t : Tile) (x : TileOp) : TileOut := tileCompare t x true true

/-- CMPUA. -/
def tileCmpua (_ : TileCtx) (t : Tile) (x : TileOp) : TileOut := tileCompare t x false true

/-- SETP. -/
def tileSetp (k : TileCtx) (t : Tile) (x : TileOp) : TileOut :=
  unlessReserved (decide (x.v.toNat ≤ 3 ∧ x.d = 0 ∧ x.a = 0 ∧ x.b = 0))
    (t.predicate [] fun l p =>
      match x.v.toNat with
      | 0 => true
      | 1 => !p
      | 2 => false
      | _ => !k.unassigned.contains l)

/-- LUT: an interpolated table value; the table must lie within the shared tables (R119, R120). -/
def tileLut (k : TileCtx) (t : Tile) (x : TileOp) : TileOut :=
  let n := x.v.toNat + 2
  let sel := x.b.toNat / 64
  let base := (t.base sel + x.b.toNat % 64) % 65536
  if sel < 4 ∨ 6 < sel ∨ base < 0xC000 ∨ 0xF000 < base + 2 ^ n + 1 then .trap 6 0
  else t.compute k.cls [x.a] x.d t.on fun l => (lutValue n (t.read x.a l) fun i => t.word (base + i), 0)

/-- XCHG reads A in every lane and exchanges it (R118, R119). -/
def tileXchg (k : TileCtx) (t : Tile) (x : TileOp) : TileOut :=
  unlessReserved (decide (x.v.toNat ≤ 4 ∧ x.b = 0))
    (match t.range [x.a] with
     | some e => .trap e.1 e.2
     | none =>
       match t.writeTrap k.cls x.d t.on with
       | some e => .trap e.1 e.2
       | none =>
         .stall (t.mapLanes t.on fun l y => y.flag (t.inputFlag x.a l)) (.exchange x (lanes8.map fun l => t.read x.a l)))

/-- The operation of REDUCE on two values. -/
def reduceOp (v : Nat) (a b : Int) : Int :=
  match v with
  | 0 => min a b
  | 1 => max a b
  | 2 => min a b
  | 3 => max a b
  | _ => a + b

/-- REDUCE: the lanes whose P is 1 contribute A to the string's channel (R114, R118). -/
def tileReduce (_ : TileCtx) (t : Tile) (x : TileOp) : TileOut :=
  let sgn := decide (x.v.toNat ≠ 2 ∧ x.v.toNat ≠ 3)
  unlessReserved (decide (x.v.toNat ≤ 4 ∧ x.d.toNat < 64 ∧ x.b = 0))
    (if t.contributed.contains x.d.toNat then .trap 11 0
     else match t.range [x.a] with
       | some e => .trap e.1 e.2
       | none =>
         let vals := t.on.map fun l => val18 sgn (t.read x.a l)
         let t' := t.mapLanes t.on fun l y => y.flag (t.inputFlag x.a l)
         match vals with
         | [] => .contribute t' x.d.toNat (x.v == 4) none (reduceOp x.v.toNat)
         | v :: r => .contribute t' x.d.toNat (x.v == 4) (some (r.foldl (reduceOp x.v.toNat) v)) (reduceOp x.v.toNat))

/-- RDRED: D ← the channel's result once it is complete; a sum is clamped to S18 with NARROW (R119). -/
def tileRdred (k : TileCtx) (t : Tile) (x : TileOp) : TileOut :=
  unlessReserved (decide (x.v = 0 ∧ x.a = 0 ∧ x.b.toNat < 64))
    (if !t.contributed.contains x.b.toNat then .trap 10 0
     else if !k.complete x.b.toNat then .stall t (.channel x)
     else
       let ch := k.chan x.b.toNat
       let r := match ch.val with
         | some v => if ch.sum then clamp18 true v else (code 18 v, false)
         | none => (if ch.sum then 0 else k.unstated, false)
       t.compute k.cls [] x.d t.on fun _ => (r.1, if r.2 then 2 else 0))

end Sys2Proof.Machine
end

