-- ==== Sys2Proof/Machine/Array.lean ====
section
/-! DEFINITION. The tile array as a whole (R109, R112, R119 to R137): one instruction on one tile, traps, batches, cuts,
mirrors, restores, retirement and substitution, the saturation summaries, and the TIL opcodes but TIL_KERNEL_LOAD. -/

namespace Sys2Proof.Machine

/-! ### Kernel sets and batches (R124, R125, R127) -/

/-- The kernel set in a bank. -/
def Card.kset (c : Card) (bank : Nat) : KSet := c.til.sets.get (fun _ => {}) bank

/-- Writes a bank's kernel set. -/
def Card.setKset (c : Card) (bank : Nat) (k : KSet) : Card := { c with til.sets := c.til.sets.set (fun _ => {}) bank k }

/-- The active set. -/
def Card.activeSet (c : Card) : KSet := c.kset (c.fld TIL_STATUS.ACTIVE_BANK)

/-- Whether a class runs at the throttle level in a frame (R127). -/
def classRuns (level : Nat) (frame : BitVec 32) (cls : Nat) : Bool :=
  match cls with
  | 0 => true
  | 1 => decide (level < 3)
  | 2 => decide (level = 0) || (decide (level = 1) && decide (frame.toNat % 2 = 0))
  | _ => false

/-- The batches of the active set that run in this frame: number, entry, class. -/
def Card.runList (c : Card) : List (Nat × Nat × Nat) :=
  (c.activeSet.batches.zipIdx.filter fun x => classRuns (c.fld TIL_STATUS.THROTTLE) c.frame x.1.2).map
    fun x => (x.2, x.1.1, x.1.2)

/-- The first running batch numbered `i` or higher. -/
def Card.batchFrom (c : Card) (i : Nat) : Option (Nat × Nat × Nat) := c.runList.find? fun x => decide (i ≤ x.1)

/-- A tile at the start of a batch (R113): bases and counters zero, pc at the entry, accumulators zero, P 1. -/
def Tile.startBatch (t : Tile) (batch entry : Nat) : Tile :=
  let t := { t with run := 1, stall := none, batch := batch, pc := entry, b := [], l := [], edges := [] }
  t.mapLanes lanes8 fun _ x => { x with acc0 := 0, acc1 := 0, p := true }

/-- The class of the batch that a tile runs. -/
def Card.classOf (c : Card) (t : Tile) : Nat := ((c.activeSet.batches[t.batch]?).map (·.2)).getD 0

/-- The logical tiles of a string. -/
def tilesOf (s : Nat) : List Nat := (List.range 64).map fun i => 64 * (s - 1) + i

/-- All logical tiles. -/
def allTiles : List Nat := List.range 256

/-! ### Memory errors and retirement causes (R112, R131) -/

/-- A physical tile is to be retired at the next frame boundary; a cause of its own stands before TIL_RETIRE (cause 4). -/
def Card.dueRetire (c : Card) (ph cause : Nat) : Card :=
  if c.til.retireDue.any (fun x => decide (x.1 = ph) && (decide (x.2 ≠ 4) || decide (cause = 4))) then c
  else { c with til.retireDue := (c.til.retireDue.filter fun x => x.1 ≠ ph) ++ [(ph, cause)] }

/-- Corrected errors of a tile: counted, and more than CE_LIMIT within 256 frames retire it. -/
def Card.corrected (c : Card) (ph n : Nat) : Card :=
  if n = 0 then c
  else
    let c := c.count TIL_ECC_CNT.CE n
    let c := c.modTile ph fun t =>
      { t with ce := (t.ce.filter fun f => decide (framesSince c.frame f < 256)) ++ List.replicate n c.frame }
    if c.fld TIL_CTRL.CE_LIMIT < (c.tile ph).ce.length then (c.stick TIL_STICKY.CE_LIMIT).dueRetire ph 2 else c

/-- A double-bit error of a tile at an address: counted; a second within 65,536 frames, or a recurrence at an address,
retires it. -/
def Card.doubleBit (c : Card) (ph addr : Nat) : Card :=
  let t := c.tile ph
  let c := (c.count TIL_ECC_CNT.UE).stick TIL_STICKY.UE
  let c := match t.lastUe with
    | some f => if framesSince c.frame f < 65536 then c.dueRetire ph 0 else c
    | none => c
  let c := if t.ueAddrs.contains addr then c.dueRetire ph 1 else c
  c.modTile ph fun t => { t with lastUe := some c.frame, ueAddrs := if t.ueAddrs.contains addr then t.ueAddrs else t.ueAddrs ++ [addr] }

/-- TIL_MAP.STATE of a logical tile; a changed map entry fires the tile's source (R325). -/
def Card.setMapState (c : Card) (t v : Nat) : Card :=
  if c.fld (TIL_MAP.STATE t) = v then c else (c.setFld (TIL_MAP.STATE t) v).fire (256 + t)

/-! ### Traps (R120, R121) -/

/-- A tile traps. -/
def Card.trapTile (c : Card) (t code pc lane : Nat) : Card :=
  let ph := c.phys t
  let hw := decide (code = 7 ∨ code = 8)
  let c := (c.count (if hw then TIL_TRAP_CNT.HW else TIL_TRAP_CNT.SW)).stick TIL_STICKY.TRAP
  let c := if c.til.trapped = [] then
      ((((c.setFld TIL_TRAP.TILE t).setFld TIL_TRAP.CODE code).setFld TIL_TRAP.PC pc).setFld TIL_TRAP.LANE lane).setFld
        TIL_TRAP_FRAME.FRAME c.frame.toNat
    else c
  let c := ((c.record 0x3020 [pN t, pN code, pN pc, c.frame]).fire (256 + t)).jrnFree 0x09
  let same := (c.til.trapped.filter fun x => x.2.1 = code ∧ x.2.2 = pc).length
  let c := { c with til.trapped := c.til.trapped ++ [(t, code, pc)] }
  let c := c.modTile ph fun x => { x with run := 3, stall := none, restore := 7 }
  let c := if code = 8 then
      let c := match (c.tile ph).laneCheck with
        | some f => if framesSince c.frame f < 65536 then c.dueRetire ph 0 else c
        | none => c
      c.modTile ph fun x => { x with laneCheck := some c.frame }
    else c
  if same = 1 then (c.stick TIL_STICKY.KERNEL_FAULT).record 0x3022 [pN code, pN pc, 2, c.frame] else c

/-! ### One instruction (R118, R119) -/

/-- The channels' key. -/
def chanKey (s ch : Nat) : Nat := 64 * (s - 1) + ch

/-- A reduction channel. -/
def Card.chan (c : Card) (s ch : Nat) : Chan := c.til.chans.get (fun _ => {}) (chanKey s ch)

/-- The tiles of a string that a complete channel needs: every one with state that has not trapped in the frame (R119,
R133). -/
def Card.needed (c : Card) (s : Nat) : List Nat :=
  (tilesOf s).filter fun t => !c.noTile t && decide ((c.tile (c.phys t)).run ≠ 3)

/-- A channel is complete (R119). -/
def Card.chanComplete (c : Card) (s ch : Nat) : Bool := (c.needed s).all fun t => (c.chan s ch).tiles.contains t

/-- What an instruction of logical tile `t` sees. -/
def Card.tileCtx (c : Card) (t : Nat) : TileCtx := {
  t := t
  cls := c.classOf (c.tile (c.phys t))
  frame := c.frame
  unassigned := lanes8.filter fun l => c.unassigned t l
  chan := fun ch => c.chan (stringOf t) ch
  need := c.needed (stringOf t)
  filled := c.til.filled
  unstated := (Config.freeValue c.free).toNat % 2 ^ 18 }

/-- The tile goes on at `pc`; passing instruction index 2,047 traps PC_OVERFLOW. -/
def Card.goOn (c : Card) (t : Nat) (x : Tile) (pc : Nat) : Card :=
  let c := c.setTile (c.phys t) { x with pc := pc % 2048, stall := none }
  if 2048 ≤ pc then c.trapTile t 9 2047 0 else c

/-- HALT: the next batch of the frame starts, after the pause of the throttle level (R125, R127). -/
def Card.endBatch (c : Card) (t : Nat) (x : Tile) : Card :=
  match c.batchFrom (x.batch + 1) with
  | none => c.setTile (c.phys t) { x with run := 4 }
  | some b =>
    if c.fld TIL_STATUS.THROTTLE = 0 then c.setTile (c.phys t) (x.startBatch b.1 b.2.1)
    else c.setTile (c.phys t) { x with run := 2, batch := b.1 }

/-- The neighbour tile of an exchange has trapped, has no state, or has passed the end of the batch (R119). -/
def Card.neighbourGone (c : Card) (n batch : Nat) : Bool :=
  let y := c.tile (c.phys n)
  c.noTile n || decide (y.run = 3) || decide (y.run = 4) || decide (y.run = 5) || decide (batch < y.batch)

/-- The value of A that an exchange needs from a neighbour tile: `none` when no lane crosses, `some none` while the
neighbour has not met it. `k` exchanges with this V lie behind this tile in the batch. -/
def Card.crossing (c : Card) (t v k : Nat) (vals : List Nat) : Option (Option Nat) :=
  let edge := if v = 0 then 0 else 7
  let atEnd := if v = 0 then decide (t % 64 = 0) else decide (t % 64 = 63)
  let n := if v = 0 then t - 1 else t + 1
  if 2 ≤ v ∨ atEnd ∨ c.unassigned n (7 - edge) then none
  else if c.neighbourGone n (c.tile (c.phys t)).batch then some (some (vals.getD edge 0))
  else some (((c.tile (c.phys n)).edges.get (fun _ => []) v)[k]?)

/-- The value that lane `l` receives from its own tile (R118, R119). -/
def Card.within (c : Card) (t v l : Nat) (vals : List Nat) : Nat :=
  let src := match v with
    | 0 => if l = 0 then 0 else l - 1
    | 1 => if l = 7 then 7 else l + 1
    | 2 => l ^^^ 1
    | 3 => l ^^^ 2
    | _ => l ^^^ 4
  if c.unassigned t src then vals.getD l 0 else vals.getD src 0

/-- An exchange completes once its neighbour has met it. -/
def Card.finishExchange (c : Card) (t : Nat) (y : Tile) (x : TileOp) (vals : List Nat) : Card :=
  let v := x.v.toNat
  let k := (y.edges.get (fun _ => []) v).length - 1
  match c.crossing t v k vals with
  | some none => c
  | w =>
    let edge := if v = 0 then 0 else 7
    let got (l : Nat) : Nat := match w with
      | some (some a) => if l = edge then a else c.within t v l vals
      | _ => c.within t v l vals
    c.goOn t (y.writeD x.d y.on got) (y.pc + 1)

/-- An instruction's outcome. -/
def Card.tileOut (c : Card) (t : Nat) (y : Tile) (o : TileOut) : Card :=
  match o with
  | .ok y' => c.goOn t y' (y.pc + 1)
  | .goto y' pc => c.goOn t y' pc
  | .trap code lane => c.trapTile t code y.pc lane
  | .halt => c.endBatch t y
  | .contribute y' ch sum v merge =>
    let s := stringOf t
    let old := c.chan s ch
    let new := match old.val, v with
      | some a, some b => some (merge a b)
      | none, b => b
      | a, none => a
    let new : Chan := { val := new, sum := sum || old.sum, tiles := old.tiles ++ [t] }
    let c := { c with til.chans := c.til.chans.set (fun _ => {}) (chanKey s ch) new }
    c.goOn t { y' with contributed := y'.contributed ++ [ch] } (y.pc + 1)
  | .stall y' (.exchange x vals) =>
    let v := x.v.toNat
    let out := if v = 0 then vals.getD 7 0 else vals.getD 0 0
    let y'' := { y' with
      stall := some (.exchange x vals)
      edges := y'.edges.set (fun _ => []) v (y'.edges.get (fun _ => []) v ++ [out]) }
    (c.setTile (c.phys t) y'').finishExchange t y'' x vals
  | .stall y' why => c.setTile (c.phys t) { y' with stall := some why }

/-- The lowest lane whose operand lies at an address, or 0 (R120). -/
def Tile.laneAt (t : Tile) (x : TileOp) (addr : Nat) : Nat :=
  (lanes8.find? fun l => decide (t.ea x.a l = some addr) || decide (t.ea x.b l = some addr)).getD 0

/-- Logical tile `x.tile` executes an instruction: memory errors and the residue check of products and sums trap
(R112, R120), an error of the fetch before all else. A tile that is not running a batch, or that stalls, executes nothing.
The free value of `TileCtx.unstated` is used up. -/
def Card.tileRun (c : Card) (x : TileOp) (product : Bool) (f : TileCtx → Tile → TileOp → TileOut) : Card :=
  let t := x.tile
  let ph := c.phys t
  if 256 ≤ t ∨ c.noTile t ∨ (c.tile ph).run ≠ 1 ∨ (c.tile ph).stall.isSome then c
  else
    let c := c.modTile ph fun y => { y with
      cycles := y.cycles.set (fun _ => 0) y.batch (y.cycles.get (fun _ => 0) y.batch + 1), stepped := true }
    let c := c.corrected ph x.hw.corrected
    let y := c.tile ph
    let fetch := x.hw.uncorrectable.any fun addr => decide (addr < 0x2000)
    let c := match f (c.tileCtx t) y x, x.hw.uncorrectable, x.hw.laneCheck with
      | .trap code lane, u, _ =>
        if fetch then (c.doubleBit ph (u.getD 0)).trapTile t 7 y.pc 0 else c.trapTile t code y.pc lane
      | _, some addr, _ => (c.doubleBit ph addr).trapTile t 7 y.pc (y.laneAt x addr)
      | o, none, some lane => if product then c.trapTile t 8 y.pc lane else c.tileOut t y o
      | o, none, none => c.tileOut t y o
    c.draw.2

/-! ### Stalls end (R119, R122) -/

/-- XCHG_PARTNER_MET (R119): the neighbour has met the exchange that the tile stalls on. -/
def execXchgPartnerMet (tile : Nat) (s : State) : Host.Outcome State Fault Refusal :=
  s.on fun c =>
    let y := c.tile (c.phys tile)
    if 256 ≤ tile ∨ c.noTile tile ∨ y.run ≠ 1 then c
    else match y.stall with
      | some (.exchange x vals) => c.finishExchange tile y x vals
      | _ => c

/-- A tile whose WAIT on its reductions, or whose RDRED of a complete channel, can go on. -/
def Card.unstall (c : Card) (t ch : Nat) : Card :=
  let y := c.tile (c.phys t)
  if y.run ≠ 1 then c
  else match y.stall with
    | some (.channel x) =>
      if x.b.toNat = ch then (c.tileOut t { y with stall := none } (tileRdred (c.tileCtx t) y x)).draw.2 else c
    | some .reductions => if y.contributed.all (c.chanComplete (stringOf t)) then c.goOn t y (y.pc + 1) else c
    | _ => c

/-- REDUCTION_COMPLETE (R119). -/
def execReductionComplete (string channel : Nat) (s : State) : Host.Outcome State Fault Refusal :=
  s.on fun c =>
    if string = 0 ∨ 4 < string ∨ 64 ≤ channel ∨ !c.chanComplete string channel then c
    else c.each (tilesOf string) fun c t => c.unstall t channel

/-- The input window is filled: WAIT with V 0 is released (R122). -/
def Card.releaseInput (c : Card) : Card :=
  let c := { c with til.filled := true }
  c.each allTiles fun c t =>
    let y := c.tile (c.phys t)
    if y.run = 1 ∧ y.stall = some .input then c.goOn t y (y.pc + 1) else c

/-- BATCH_PAUSE_END (R127): the next batch of a paused tile starts. -/
def execBatchPauseEnd (tile : Nat) (s : State) : Host.Outcome State Fault Refusal :=
  s.on fun c =>
    let y := c.tile (c.phys tile)
    if 256 ≤ tile ∨ y.run ≠ 2 then c
    else match c.batchFrom y.batch with
      | some b => c.setTile (c.phys tile) (y.startBatch b.1 b.2.1)
      | none => c

/-! ### The set of the active image (R135, R458) -/

/-- The batches of the set shipped with firmware 4.2.0: the classes of the table after R112; their entry indices are not
stated. -/
def deliveredBatches (n : Nat) : List (Nat × Nat) :=
  ([0, 0, 0, 1, 1, 2].zipIdx).map fun x => ((Config.freeValue (n + x.2)).toNat % 2048, x.1)

/-- Shows the active and standby sets in their registers. -/
def Card.showSets (c : Card) : Card :=
  let a := c.activeSet
  let b := c.kset (1 - c.fld TIL_STATUS.ACTIVE_BANK)
  let c := (c.setReg TIL_KERNEL_ACTIVE a.id).setReg TIL_KERNEL_STANDBY b.id
  let c := c.setFld TIL_STATUS.STANDBY_VALID (if b.batches = [] then 0 else 1)
  let c := if a.batches = [] then c else c.setFld ⟨LAN_CLASS1, 16, 8⟩ a.cls
  c.each (List.range 8) fun c i =>
    match a.batches[i]? with
    | some x => (c.setFld (TIL_BATCH.ENTRY i) x.1).setFld (TIL_BATCH.CLASS i) x.2
    | none => (c.setFld (TIL_BATCH.ENTRY i) 0).setFld (TIL_BATCH.CLASS i) 3

/-- Instruction words as the memory entries of a code bank. -/
def codeEntries (bank : Nat) (ws : List W18) : Store W18 :=
  (ws.zipIdx.filter fun x => x.1 ≠ 0).map fun x => (0x1000 * bank + x.2, x.1)

/-- Writes instruction words into a code bank of every tile that is not retired (R124). -/
def Card.writeCode (c : Card) (bank : Nat) (ws : List W18) : Card :=
  c.each ((List.range 272).filter fun ph => !(c.reg (TIL_RETIRED (ph / 32))).getLsbD (ph % 32)) fun c ph =>
    c.modTile ph fun t =>
      let below := t.mem.filter fun x => decide (x.1 < 0x1000 * bank)
      let above := t.mem.filter fun x => decide (0x1000 * (bank + 1) ≤ x.1)
      { t with mem := below ++ codeEntries bank (ws.take 0x1000) ++ above }

/-- The primary lane loads the active image's set into bank 0 before the first slot 3 (R135). -/
def Card.bootLoad (c : Card) : Card :=
  if !c.til.loadDue then c
  else
    let c := { c with til.loadDue := false }
    let c := match c.til.bootSet with
      | some (k, ws) => (c.setKset 0 k).writeCode 0 ws
      | none =>
        let n := c.free
        { c with free := n + 6 }.setKset 0 { id := Config.kernelAtDelivery, cls := 3, batches := deliveredBatches n }
    (c.setFld TIL_STATUS.ACTIVE_BANK 0).showSets

/-! ### Slot 3 and the end of slot 5 (R64 to R66, R123 to R126) -/

/-- A frame's compute begins on the array: the throttle level in force (a change records 0x3030), empty channels, every tile at its first batch.
The first frame that sheds LOOKAHEAD records 0x3032 (R127). -/
def Card.startTiles (c : Card) : Card :=
  let c := c.bootLoad
  let was := c.fld TIL_STATUS.THROTTLE
  let level := c.til.nextLevel
  let c := c.setFld TIL_STATUS.THROTTLE level
  let c := if level = was then c else c.record 0x3030 [pN level, pN was]
  let shed := c.activeSet.batches.any (·.2 == 2) && !classRuns level c.frame 2
  let c := if shed && !c.til.shedSeen then c.record 0x3032 [pN level, c.frame] else c
  let c := { c with
    til.shedSeen := if level = 0 then false else c.til.shedSeen || shed
    til.chans := [], til.filled := false, til.trapped := [], til.retiredNow := [] }
  let first := c.batchFrom 0
  c.each allTiles fun c t =>
    if c.noTile t then c
    else c.modTile (c.phys t) fun y =>
      let y := { y with contributed := [], cycles := [], clean := 0, stepped := false, run := 0, stall := none }
      match first with
      | some b => y.startBatch b.1 b.2.1
      | none => y

/-- The classes that a tile completed cleanly, as a mask (R129). -/
def Card.cleanMask (c : Card) (y : Tile) : Nat :=
  let own (k : Nat) : List Nat := (c.activeSet.batches.zipIdx.filter fun x => x.1.2 = k).map (·.2)
  let done (i : Nat) : Bool := decide (y.run = 4) || decide (i < y.batch)
  let clean (k : Nat) : Bool :=
    decide (y.run ≠ 3) && (own k = [] || (classRuns (c.fld TIL_STATUS.THROTTLE) c.frame k && (own k).all done))
  (if clean 0 then 1 else 0) + (if clean 1 then 2 else 0) + (if clean 2 then 4 else 0)

/-- The sections to restore: that of the first class not completed cleanly, and the later ones; all after a trap
(R126, R130). -/
def restoreMask (trapped : Bool) (clean : Nat) : Nat :=
  if trapped || clean % 2 = 0 then 7 else if clean / 2 % 2 = 0 then 6 else if clean / 4 % 2 = 0 then 4 else 0

/-- Sections of a logical tile are restored after a trap, a cut or a repair: capacity segments and lookahead windows take
note (R152, R155). -/
def Card.breakTile (c : Card) (t mask : Nat) : Card :=
  { c with til.broken := c.til.broken.set (fun _ => 0) t (c.til.broken.get (fun _ => 0) t ||| mask) }

/-- A tile's compute ends with slot 5: its batch is cut where it still runs or has yet to start. -/
def Card.endTile (c : Card) (t : Nat) : Card :=
  if c.noTile t then c
  else
    let ph := c.phys t
    let y := c.tile ph
    let cut := decide (y.run = 1 ∨ y.run = 2)
    let clean := c.cleanMask y
    let c := c.setTile ph { y with
      clean := clean, stall := none, run := if cut then 5 else y.run
      restore := if y.run = 0 then 0 else restoreMask (decide (y.run = 3)) clean }
    let s := stringOf t
    let c := if cut || decide (y.run = 3) then c.breakTile t (restoreMask (decide (y.run = 3)) clean) else c
    let c := if cut then ((c.setFld ⟨TIL_FRESH, 4 + (s - 1), 1⟩ 1).stick TIL_STICKY.CUT).jrnFree 0x09 else c
    if y.run = 3 then c.setFld ⟨TIL_FRESH, 8 + (s - 1), 1⟩ 1 else c

/-- String `s` has a fresh set: every logical tile completed every ESSENTIAL batch, and none trapped (R123). -/
def Card.freshSet (c : Card) (s : Nat) : Bool :=
  c.activeSet.batches.any (·.2 == 0) && (tilesOf s).all fun t =>
    let y := c.tile (c.phys t)
    !c.noTile t && decide (y.run = 4 ∨ y.run = 5) && decide (y.clean % 2 = 1)

/-- The OR of the flag words of the lanes of one group: string 1 to 4, or 0 for the unassigned lanes (R64). -/
def Card.groupFlags (c : Card) (g : Nat) : Nat :=
  allTiles.foldl (fun f t =>
    let y := c.tile (c.phys t)
    lanes8.foldl (fun f l =>
      let own := if c.unassigned t l then 0 else stringOf t
      if own = g ∧ !c.noTile t then f ||| (y.lane l).flags else f) f) 0

/-- A group's summary enters TIL_SAT_STICKY; each rising bit records 0x3080 (R65, R66). -/
def Card.gatherGroup (c : Card) (g flags : Nat) : Card :=
  let lo := if g = 0 then 16 else 4 * (g - 1)
  c.each [0, 1, 2, 3] fun c b =>
    if flags / 2 ^ b % 2 = 0 then c
    else
      let f : Fld := ⟨TIL_SAT_STICKY, lo + b, 1⟩
      if c.bit f then c else (c.setFld f 1).record 0x3080 [pN g, pN b, c.frame]

/-- A string's frame count and its run of frames with saturation; the 256th in a row records 0x3081 (R65, R66). -/
def Card.countSat (c : Card) (s flags : Nat) : Card :=
  let old := c.til.satRun.get (fun _ => (0, 0)) s
  if flags = 0 then { c with til.satRun := c.til.satRun.set (fun _ => (0, 0)) s (0, 0) }
  else
    let off := if s ≤ 2 then TIL_SAT_FRAMES_12 else TIL_SAT_FRAMES_34
    let c := c.count ⟨off, 16 * ((s - 1) % 2), 16⟩
    let run := (min (old.1 + 1) 257, old.2 ||| flags)
    let c := { c with til.satRun := c.til.satRun.set (fun _ => (0, 0)) s run }
    if run.1 = 256 then c.recordStr s 0x3081 [pN s, pN run.2] else c

/-- The gather at the end of slot 5: summaries, cell flags for the state page, and clear flag words (R64, R65). -/
def Card.gatherFlags (c : Card) : Card :=
  let gs := (List.range 5).map fun g => (g, c.groupFlags g)
  let c := c.each gs fun c x => c.gatherGroup x.1 x.2
  let c := c.each (gs.drop 1) fun c x => c.countSat x.1 x.2
  let c := if gs.any (fun x => x.2 ≠ 0) then c.setReg TIL_SAT_LAST c.frame else c
  c.each allTiles fun c t =>
    let y := c.tile (c.phys t)
    let c := c.each lanes8 fun c l =>
      let f := (y.lane l).flags
      if f = 0 then c
      else
        let m := c.til.cellFlags
        { c with til.cellFlags := m.set (fun _ => 0) (8 * t + l) (m.get (fun _ => 0) (8 * t + l) ||| f) }
    c.setTile (c.phys t) (y.mapLanes (lanes8.filter fun l => (y.lane l).flags ≠ 0) fun _ x => { x with flags := 0 })

/-- The runs of frames in which a tile alone traps with a software kind; TRAP_LIMIT of them retire it (R121, R131). -/
def Card.countTrapRuns (c : Card) : Card :=
  c.each allTiles fun c t =>
    let ph := c.phys t
    match c.til.trapped.find? (·.1 == t) with
    | some x =>
      let alone := (c.til.trapped.filter fun y => y.2 == x.2).length = 1
      if alone ∧ x.2.1 ≠ 7 ∧ x.2.1 ≠ 8 then
        let n := (c.tile ph).trapRun + 1
        let c := c.modTile ph fun y => { y with trapRun := n }
        if c.fld TIL_CTRL.TRAP_LIMIT ≤ n then c.dueRetire ph 3 else c
      else c.modTile ph fun y => { y with trapRun := 0 }
    | none => if (c.tile ph).trapRun = 0 then c else c.modTile ph fun y => { y with trapRun := 0 }

/-- TIL_BATCHn.USED: the cycles of the slowest tile, in units of 16. -/
def Card.showUsed (c : Card) : Card :=
  c.each (List.range 8) fun c i =>
    let n := allTiles.foldl (fun m t => max m ((c.tile (c.phys t)).cycles.get (fun _ => 0) i)) 0
    c.setFld (TIL_BATCH.USED i) (min (n / 16) 65535)

/-- The array's part of the end of slot 5. Whether any batch was cut is TIL_FRESH.CUT. -/
def Card.endTiles (c : Card) : Card :=
  let c := c.setReg TIL_FRESH 0
  let c := c.each allTiles fun c t => c.endTile t
  let c := c.setFld TIL_FRESH.FRESH (strings.foldl (fun m s => if c.freshSet s then m + 2 ^ (s - 1) else m) 0)
  c.countTrapRuns.showUsed.gatherFlags

/-! ### Mirrors and restores (R129, R130) -/

/-- The checkpoint sections: first lane-relative word and length. -/
def sections : List (Nat × Nat) := [(0, 0x300), (0x300, 0xC0), (0x3C0, 0x40)]

/-- Copies `n` words from address `a` of another memory to address `b`. -/
def Tile.copyFrom (y : Tile) (src : Store W18) (a b n : Nat) : Tile :=
  let kept := y.mem.filter fun x => !(decide (b ≤ x.1) && decide (x.1 < b + n))
  let new := src.filter fun x => decide (a ≤ x.1) && decide (x.1 < a + n)
  { y with mem := new.foldl (fun m x => m.set noWord (x.1 - a + b) x.2) kept }

/-- One section of every lane, from the checkpoints to the partner's mirror. -/
def Tile.mirrorInto (y z : Tile) (k : Nat) : Tile :=
  let sec := sections.getD k (0, 0)
  lanes8.foldl (fun z l => z.copyFrom y.mem (0x2000 + 0x1000 * l + sec.1) (0xA000 + 0x400 * l + sec.1) sec.2) z

/-- One section of every lane, from the partner's mirror back to the checkpoints. -/
def Tile.restoreFrom (y z : Tile) (k : Nat) : Tile :=
  let sec := sections.getD k (0, 0)
  lanes8.foldl (fun y l => y.copyFrom z.mem (0xA000 + 0x400 * l + sec.1) (0x2000 + 0x1000 * l + sec.1) sec.2) y

/-- Slot 6: every tile copies its cleanly completed sections into its partner's mirror, tagged with the frame. -/
def Card.mirrorTiles (c : Card) : Card :=
  c.each allTiles fun c t =>
    let y := c.tile (c.phys t)
    if c.noTile t ∨ c.noTile (partner t) ∨ (y.run ≠ 4 ∧ y.run ≠ 5) then c
    else c.each [0, 1, 2] fun c k =>
      if y.clean / 2 ^ k % 2 = 0 then c
      else c.modTile (c.phys (partner t)) fun z =>
        let z := y.mirrorInto z k
        { z with tags := z.tags.set (fun _ => 0) k c.frame }

/-- Restores a tile's sections from its partner's mirror: event 0x3025 (R130). -/
def Card.restoreTile (c : Card) (t mask : Nat) : Card :=
  if mask = 0 ∨ c.noTile t ∨ c.noTile (partner t) then c
  else
    let z := c.tile (c.phys (partner t))
    let ks := [0, 1, 2].filter fun k => decide (mask / 2 ^ k % 2 = 1)
    let c := c.modTile (c.phys t) fun y =>
      { (ks.foldl (fun y k => y.restoreFrom z k) y) with restore := 0 }
    let c := (c.record 0x3025 [pN t, pN mask, z.tags.get (fun _ => 0) (ks.headD 0)]).jrnFree 0x09
    (c.setFld (TIL_MAP.STATE t) 1).fire (256 + t)

/-- The restores due before the next slot 3 boundary, but for a tile that is to be retired; TIL_MAP.STATE shows them for a
frame. -/
def Card.restoreTiles (c : Card) : Card :=
  c.each allTiles fun c t =>
    if c.noTile t ∨ c.til.retireDue.any (fun x => x.1 = c.phys t) then c
    else
      let c := if (c.tile (c.phys t)).restore = 0 then c.setMapState t 0 else c
      c.restoreTile t (c.tile (c.phys t)).restore

/-- The logical tile that a physical tile serves. -/
def Card.logicalOf (c : Card) (ph : Nat) : Option Nat := allTiles.find? fun t => decide (c.phys t = ph) && !c.noTile t

/-- A memory error that the scrubber meets (R112): a double-bit error is repaired by where it lies (R130). -/
def Card.scrub (c : Card) (ph addr : Nat) (uncorrectable : Bool) : Card :=
  if !c.bit TIL_CTRL.SCRUB_EN ∨ 272 ≤ ph ∨ 65536 ≤ addr then c
  else if !uncorrectable then (c.corrected ph 1).jrnFree 0x09
  else
    let c := (c.doubleBit ph addr).jrnFree 0x09
    match c.logicalOf ph with
    | none => c
    | some t =>
      if c.noTile (partner t) then c
      else
        let z := c.tile (c.phys (partner t))
        match sectionOf addr with
        | some k => (c.modTile ph fun y => { y with restore := y.restore ||| 2 ^ k }).breakTile t (2 ^ k)
        | none =>
          if addr < 0x2000 ∨ (0xC000 ≤ addr ∧ addr < 0xF000) then
            (c.modTile ph fun y => y.put addr (z.word addr)).record 0x3025 [pN t, 0, z.tags.get (fun _ => 0) 0]
          else if 0xA000 ≤ addr ∧ addr < 0xC000 then
            let w := addr - 0xA000
            (c.modTile ph fun y => y.put addr (z.word (0x2000 + 0x1000 * (w / 0x400) + w % 0x400))).record 0x3025
              [pN t, 0, z.tags.get (fun _ => 0) 0]
          else c

/-! ### Retirement and substitution (R131 to R133) -/

/-- A physical tile is on the retired list. -/
def Card.retired (c : Card) (ph : Nat) : Bool := (c.reg (TIL_RETIRED (ph / 32))).getLsbD (ph % 32)

/-- A physical tile is a free spare: not retired and serving no logical tile. -/
def Card.isSpare (c : Card) (ph : Nat) : Bool := decide (ph < 272) && !c.retired ph && (c.logicalOf ph).isNone

/-- The free spares, lowest first. -/
def Card.spares (c : Card) : List Nat := (List.range 272).filter c.isSpare

/-- TIL_STATUS.SPARES_FREE follows the map and the retired list. -/
def Card.countSpares (c : Card) : Card := c.setFld TIL_STATUS.SPARES_FREE c.spares.length

/-- The operation reads or writes the logical tile: tile memory by its number, learned values and models by their
positions (R136, R170). -/
def Op.touchesTile (o : Op) (t : Nat) : Bool :=
  let d := o.desc
  let lo := 8 * (t % 64) + 1
  if o.opcode = 0x33 ∨ o.opcode = 0x34 then d.byte 0 == t
  else if [0x40, 0x41, 0x42, 0x44, 0x52, 0x53].contains o.opcode then
    d.byte 0 == stringOf t && decide (d.at 2 2 ≤ lo + 7) && decide (lo < d.at 2 2 + d.at 4 2)
  else o.opcode == 0x45 && d.byte 0 == stringOf t && decide (2 * (d.byte 1 - 1) = t % 64 ∨ 2 * d.byte 1 - 1 = t % 64)

/-- Host operations on a logical tile that is retired end (R136, R170). -/
def Card.loseTileOps (c : Card) (t ph : Nat) : Card :=
  c.each c.running fun c x =>
    if x.2.touchesTile t then c.complete x.1 0x0B (0x3100 + ph) else c

/-- A logical tile loses its state: the models of its string restart (R133, R160). -/
def Card.loseTile (c : Card) (t cause : Nat) : Card :=
  if c.noTile t then c
  else
    let c := (c.setMapState t 2).stick TIL_STICKY.NO_TILE
    let cells := (List.range 512).map (· + 512 * (t / 64))
    let c := { c with est.started := cells.foldl (fun m k => m.set (fun _ => false) k false) c.est.started }
    c.record 0x3023 [pN t, pN cause]

/-- A physical tile with nothing but its record of memory and residue errors (R131). -/
def Tile.cleared (t : Tile) : Tile := { laneCheck := t.laneCheck, lastUe := t.lastUe, ueAddrs := t.ueAddrs, ce := t.ce }

/-- The lowest-numbered spare takes a logical tile over, with the partner's copies (R132). -/
def Card.substitute (c : Card) (t old sp cause : Nat) : Card :=
  let z := c.tile (c.phys (partner t))
  let y : Tile := (c.tile sp).cleared
  let y := (y.copyFrom z.mem 0 0 0x2000).copyFrom z.mem 0xC000 0xC000 0x3000
  let y := [0, 1, 2].foldl (fun y k => y.restoreFrom z k) y
  let c := (((c.setTile sp y).modTile old Tile.cleared).setFld (TIL_MAP.PHYS t) sp).breakTile t 7
  let c := (c.setFld (TIL_MAP.STATE t) 1).fire (256 + t)
  let (n, c) := c.draw
  let c := c.record 0x3021 [pN t, pN old, pN sp, (Config.freeValue (n + cause)).setWidth 32]
  let c := c.record 0x3025 [pN t, 7, z.tags.get (fun _ => 0) 0]
  let c := c.each c.til.tests fun c x => if x.2.1 = sp then c.complete x.1 0x0B 0x300B else c
  { c with til.tests := c.til.tests.filter fun x => x.2.1 ≠ sp, til.retiredNow := c.til.retiredNow ++ [t] }

/-- The TIL_RETIRE operations that name a logical tile complete. -/
def Card.finishRetire (c : Card) (t status reason : Nat) : Card :=
  c.each c.running fun c x =>
    if x.2.opcode = 0x36 ∧ x.2.desc.byte 0 = t then
      (if status = 0 then c.commit x.1 else c).complete x.1 status reason
    else c

/-- A physical tile is retired (R131 to R133). -/
def Card.retire (c : Card) (ph cause : Nat) : Card :=
  let t := c.logicalOf ph
  let c := ((c.setFld ⟨TIL_RETIRED (ph / 32), ph % 32, 1⟩ 1).stick TIL_STICKY.RETIRED).jrnFree 0x09
  let c := match t with
    | none => c
    | some t =>
      let c := c.loseTileOps t ph
      if c.noTile (partner t) then (c.loseTile t 1).finishRetire t 0 0
      else if c.til.retiredNow.contains (partner t) then ((c.loseTile t 1).loseTile (partner t) 1).finishRetire t 0 0
      else match c.spares with
        | [] => (c.loseTile t 0).finishRetire t 3 0x3007
        | sp :: _ => (c.substitute t ph sp cause).finishRetire t 0 0
  c.countSpares

/-- TILE_RETIREMENT (R131): a tile that is due is retired at the frame boundary. A TIL_RETIRE that then finds no spare is
refused (R136). -/
def execTileRetirement (phys : Nat) (s : State) : Host.Outcome State Fault Refusal :=
  s.on fun c =>
    match c.til.retireDue.find? (·.1 == phys) with
    | none => c
    | some x =>
      let c := { c with til.retireDue := c.til.retireDue.filter fun y => y.1 ≠ phys }
      if c.retired phys then c
      else if x.2 = 4 ∧ c.spares = [] then
        match c.logicalOf phys with
        | some t => c.finishRetire t 3 0x3007
        | none => c
      else c.retire phys x.2

/-- The self-tests that end at a frame boundary; the verdict is the tile's own (R136). -/
def Card.endTests (c : Card) : Card :=
  let ts := c.til.tests
  { c with til.tests := [] }.each ts fun c x =>
    let (n, c) := c.draw
    if (Config.freeValue n).getLsbD 0 then
      let c := if x.2.2 then (c.setFld ⟨TIL_RETIRED (x.2.1 / 32), x.2.1 % 32, 1⟩ 0).countSpares else c
      c.complete x.1 0 0
    else
      let c := if x.2.2 then c else c.retire x.2.1 5
      c.complete x.1 0 0x3008

/-! ### Host operations (R136, R137) -/

/-- The RESERVED_FIELD check of the tile opcodes. -/
def tilArgs (b : Bool) : Option (Nat × Nat) := if b then none else some (7, 0x3001)

/-- The kernel set class that the running firmware accepts (R353, R458). -/
def Card.kernelOk (c : Card) (cls : Nat) : Bool :=
  let w := (c.reg LAN_CLASS0).toNat
  decide (w / 2 ^ 16 % 256 ≤ cls) && decide (cls ≤ w / 2 ^ 24)

/-- A TIL_KERNEL_LOAD or TIL_KERNEL_SWITCH is in flight. -/
def Card.kernelBusy (c : Card) : Bool := c.running.any fun x => (x.2.opcode = 0x30 || x.2.opcode = 0x31) && !x.2.produced

/-- The banks exchange (R128). -/
def Card.switchSets (c : Card) : Card :=
  let c := (c.setFld TIL_STATUS.ACTIVE_BANK (1 - c.fld TIL_STATUS.ACTIVE_BANK)).showSets
  c.record 0x3002 [c.activeSet.id, c.frame]

/-- TIL_KERNEL_SWITCH: at the frame boundary of its trigger. -/
def rowTilKernelSwitch : Row where
  opcode := 0x31
  role := 2
  args _ d := tilArgs (d.only [(8, 8)] && !trigReserved (d.at 8 8))
  checks c _ :=
    if c.kernelBusy then some (3, 0x300A, 0)
    else if !c.bit TIL_STATUS.STANDBY_VALID then some (3, 0x3005, 0)
    else if !c.kernelOk (c.kset (1 - c.fld TIL_STATUS.ACTIVE_BANK)).cls then some (3, 0x3003, 0)
    else none
  trig d := some (d.at 8 8)
  start _ c := c
  fire slot c := ((c.commit slot).switchSets).done slot
  slots n := n == 0

/-- A 32-bit host word at index `i` of the buffer data. -/
def Desc.hostWord (d : Desc) (i : Nat) : Nat := leAt d.buf (4 * i) 4

/-- The tile words of the buffer data, `n` of them, lie in bits 17:0. -/
def wordsOk (d : Desc) (n : Nat) : Bool := (List.range n).all fun i => decide (leAt d.buf (4 * i) 4 < 2 ^ 18)

/-- The buffer data as tile words. -/
def tileWords (d : Desc) (n : Nat) : List W18 := (List.range n).map fun i => BitVec.ofNat 18 (leAt d.buf (4 * i) 4)

/-- TIL_TABLE_LOAD: applied before one slot 3 boundary. -/
def rowTilTableLoad : Row where
  opcode := 0x32
  role := 2
  args _ d := tilArgs (d.only [(0, 1), (2, 4), (8, 8)] && decide (d.byte 0 < 16)
    && decide (d.at 2 2 + d.at 4 2 ≤ 12288) && wordsOk d (d.at 4 2))
  start _ c := c

/-- The table loads in flight are applied to every tile of their strings (R136). -/
def Card.applyTables (c : Card) : Card :=
  c.each c.running fun c x =>
    if x.2.opcode ≠ 0x32 ∨ x.2.produced then c
    else
      let d := x.2.desc
      let ws := tileWords d (d.at 4 2)
      let ts := allTiles.filter fun t => decide (d.byte 0 / 2 ^ (stringOf t - 1) % 2 = 1) && !c.noTile t
      let c := (c.commit x.1).each ts fun c t =>
        c.modTile (c.phys t) fun y => { y with mem := y.mem.setRange noWord (0xC000 + d.at 2 2) ws }
      let c := c.each (strings.filter fun s => decide (d.byte 0 / 2 ^ (s - 1) % 2 = 1)) fun c s =>
        c.setLive 1 s (4 * d.at 2 2) (d.buf.take (4 * d.at 4 2))
      (c.record 0x3010 [pN (d.byte 0), pN (d.at 2 2), pN (d.at 4 2), c.frame]).done x.1

/-- The RESERVED_FIELD check of TIL_MEM_READ and TIL_MEM_WRITE. -/
def memArgs (d : Desc) : Bool :=
  d.only [(0, 1), (2, 4), (8, 8)] && decide (1 ≤ d.at 4 2) && decide (d.at 4 2 ≤ 1024)
    && decide (d.at 2 2 + d.at 4 2 ≤ 65536)

/-- TIL_MEM_READ: the words as they are at one slot 7 boundary. -/
def rowTilMemRead : Row where
  opcode := 0x33
  role := 1
  args _ d := tilArgs (memArgs d)
  start _ c := c

/-- TIL_MEM_WRITE: written in slot 7; code banks, mirror and input window are protected. -/
def rowTilMemWrite : Row where
  opcode := 0x34
  role := 3
  args _ d := tilArgs (memArgs d && wordsOk d (d.at 4 2))
  checks _ d :=
    if (List.range (d.at 4 2)).any fun i =>
        let a := d.at 2 2 + i
        decide (a < 0x2000) || decide (0xA000 ≤ a ∧ a < 0xC000) || decide (0xF000 ≤ a ∧ a < 0xF800)
    then some (3, 0x3006, 0) else none
  start _ c := c

/-- A word of a tile as a host read gives it: the instructions of the set of delivery are not stated. -/
def Card.hostTileWord (c : Card) (ph a n : Nat) : Nat :=
  if a < 0x2000 ∧ (c.kset (a / 0x1000)).batches ≠ [] ∧ !(c.kset (a / 0x1000)).known
  then (Config.freeValue (n + a)).toNat % 2 ^ 18 else (c.tile ph).word a

/-- The tile memory operations in flight have their slot 7 access; one on a tile that is to be retired is lost (R136). -/
def Card.tileAccess (c : Card) : Card :=
  c.each c.running fun c x =>
    let d := x.2.desc
    let t := d.byte 0
    if (x.2.opcode ≠ 0x33 ∧ x.2.opcode ≠ 0x34) ∨ x.2.produced then c
    else if c.noTile t ∨ c.til.retireDue.any (fun y => y.1 = c.phys t) then c.complete x.1 0x0B (0x3100 + c.phys t)
    else if x.2.opcode = 0x33 then
      let (n, c) := c.draw
      (c.commit x.1).doneWith x.1 (d.at 8 8)
        ((List.range (d.at 4 2)).flatMap fun i => le 4 (c.hostTileWord (c.phys t) (d.at 2 2 + i) n))
    else
      ((c.commit x.1).modTile (c.phys t) fun y =>
        { y with mem := y.mem.setRange noWord (d.at 2 2) (tileWords d (d.at 4 2)) }).done x.1

/-- TIL_TEST of a spare. -/
def rowTilTest : Row where
  opcode := 0x35
  role := 2
  args _ d := tilArgs (d.only [(0, 2)] && decide (d.at 0 2 < 272))
  checks c d := if c.isSpare (d.at 0 2) then none else some (3, 0x3009, 0)
  start slot c :=
    let ph := (c.descOf slot).at 0 2
    let c := c.commit slot
    { c with til.tests := c.til.tests ++ [(slot, ph, false)] }

/-- TIL_RETIRE of a logical tile. -/
def rowTilRetire : Row where
  opcode := 0x36
  role := 2
  args _ d := tilArgs (d.only [(0, 1)])
  checks c d := if c.spares = [] ∨ c.noTile (d.byte 0) then some (3, 0x3007, 0) else none
  start slot c := c.dueRetire (c.phys ((c.descOf slot).byte 0)) 4

/-- TIL_UNRETIRE of a retired physical tile. -/
def rowTilUnretire : Row where
  opcode := 0x37
  role := 3
  args _ d := tilArgs (d.only [(0, 2)] && decide (d.at 0 2 < 272))
  checks c d := if c.retired (d.at 0 2) then none else some (3, 0x300C, 0)
  start slot c :=
    let ph := (c.descOf slot).at 0 2
    let c := c.commit slot
    { c with til.tests := c.til.tests ++ [(slot, ph, true)] }

/-- TIL_KERNEL_SWITCH (R128, R136). -/
def execTilKernelSwitch (d : Desc) (s : State) : Host.Outcome State Fault Refusal :=
  s.on fun c => c.accept rowTilKernelSwitch d
/-- TIL_TABLE_LOAD (R136). -/
def execTilTableLoad (d : Desc) (s : State) : Host.Outcome State Fault Refusal := s.on fun c => c.accept rowTilTableLoad d
/-- TIL_MEM_READ (R136). -/
def execTilMemRead (d : Desc) (s : State) : Host.Outcome State Fault Refusal := s.on fun c => c.accept rowTilMemRead d
/-- TIL_MEM_WRITE (R136). -/
def execTilMemWrite (d : Desc) (s : State) : Host.Outcome State Fault Refusal := s.on fun c => c.accept rowTilMemWrite d
/-- TIL_TEST (R136). -/
def execTilTest (d : Desc) (s : State) : Host.Outcome State Fault Refusal := s.on fun c => c.accept rowTilTest d
/-- TIL_RETIRE (R136). -/
def execTilRetire (d : Desc) (s : State) : Host.Outcome State Fault Refusal := s.on fun c => c.accept rowTilRetire d
/-- TIL_UNRETIRE (R136). -/
def execTilUnretire (d : Desc) (s : State) : Host.Outcome State Fault Refusal := s.on fun c => c.accept rowTilUnretire d

/-! ### Register commands -/

end Sys2Proof.Machine
end

