-- ==== Sys2Proof/Machine/Est.lean ====
section
/-! DEFINITION. Limits, parameter tables, learned values and the state page (R15, R16, R142 to R173). -/

namespace Sys2Proof.Machine

/-- The estimator's record of a string. -/
def Card.estStr (c : Card) (s : Nat) : EstStr := c.est.strs.get (fun _ => {}) s

/-- Changes the estimator's record of a string. -/
def Card.modEst (c : Card) (s : Nat) (f : EstStr → EstStr) : Card :=
  { c with est.strs := c.est.strs.set (fun _ => {}) s (f (c.estStr s)) }

/-! ### Cells and their checkpoint words (R140) -/

/-- The logical tile of a cell position. -/
def tileOfCell (s cell : Nat) : Nat := 64 * (s - 1) + (cell - 1) / 8

/-- The tile address of a lane-relative word of a cell. -/
def cellAddr (cell w : Nat) : Nat := 0x2000 + 0x1000 * ((cell - 1) % 8) + w

/-- A checkpoint word of a cell. -/
def Card.cellWord (c : Card) (s cell w : Nat) : Nat := (c.tile (c.phys (tileOfCell s cell))).word (cellAddr cell w)

/-- Writes a checkpoint word of a cell. -/
def Card.putCell (c : Card) (s cell w v : Nat) : Card :=
  c.modTile (c.phys (tileOfCell s cell)) fun t => t.put (cellAddr cell w) v

/-- The key of a cell. -/
def cellKey (s cell : Nat) : Nat := 512 * (s - 1) + cell - 1

/-- A cell's model runs; where it does not, a restart waits for its first measured frame (R142, R160). -/
def Card.started (c : Card) (s cell : Nat) : Bool := c.est.started.get (fun _ => false) (cellKey s cell)

/-- A cell's model must restart. -/
def Card.restartCell (c : Card) (s cell : Nat) : Card :=
  { c with est.started := c.est.started.set (fun _ => false) (cellKey s cell) false }

/-- The cells in a range. -/
def cellsFrom (first n : Nat) : List Nat := (List.range n).map (· + first)

/-- The cells of a ring place (R68). -/
def cellsOf (p : Nat) : List Nat := cellsFrom (16 * (p - 1) + 1) 16

/-- A main contactor of the string is closed: SAF_STR_STATE.COILS shows PM or NM. -/
def Card.mainClosed (c : Card) (s : Nat) : Bool := decide (c.fld (SAF_STR_STATE.COILS s) % 4 ≠ 0)

/-! ### Parameter tables (R143 to R146) -/

/-- A word of a string's shared tables, offset from 0xC000, in a tile of the string that has state. -/
def Card.tableWord (c : Card) (s w : Nat) : Nat :=
  match (tilesOf s).find? fun t => !c.noTile t with
  | some t => (c.tile (c.phys t)).word (0xC000 + w)
  | none => 0

/-- The mask of the conditions of R145 that a string's header fails. -/
def Card.headerFaults (c : Card) (s : Nat) : Nat :=
  let w := c.tableWord s
  let na := w 1
  let nc := w 2
  let ne := w 3
  let nth := w 4
  let total := na + nc + ne + nth + w 5
  let core := na + nc + ne
  let b1 := 1 ≤ total ∧ total ≤ 640
  let b2 := w 6 < na ∧ na ≤ w 7 ∧ w 7 < na + nc ∧ core ≤ w 8 ∧ w 8 < core + nth
  let b3 := w 0x0B < w 0x0C ∧ w 0x0D < w 0x0E
  let b4 := w 0x09 ≠ 0 ∧ w 0x0A ≠ 0 ∧ w 0x10 ≠ 0 ∧ w 0x1A ≠ 0
  let b5 := 1 ≤ w 0x1B ∧ w 0x1B ≤ 48
  (if b1 then 0 else 1) + (if b2 then 0 else 2) + (if b3 then 0 else 4) + (if b4 then 0 else 8) + (if b5 then 0 else 16)

/-- Validates a string's header (R145): event 0x4003 once per change to invalid. -/
def Card.validateHeader (c : Card) (s : Nat) : Card :=
  let m := c.headerFaults s
  let was := (c.estStr s).headerOk
  let c := c.modEst s fun x => { x with headerOk := decide (m = 0), cls := c.tableWord s 0 }
  if m ≠ 0 ∧ was then (c.stick EST_STICKY.TABLE_BAD).recordStr s 0x4003 [pN s, pN m] else c

/-- Writes the configuration mirror into every tile of a string (R145). -/
def Card.mirrorConfig (c : Card) (s : Nat) : Card :=
  let regs := [EST_MODEL_CFG, EST_LA_CFG, EST_LEARN_CFG0, EST_LEARN_CFG1, EST_LEARN_CFG2, EST_SWAP_CFG]
  let ws : List W18 := regs.flatMap fun r => [(c.reg r).setWidth 18, ((c.reg r) >>> 18).setWidth 18]
  c.each (tilesOf s) fun c t =>
    if c.noTile t then c else c.modTile (c.phys t) fun y => { y with mem := y.mem.setRange noWord (0xC000 + 0x1FC0) ws }

/-- The places whose satellite's class differs from the header's CLASS; a mismatch lasts until the classes agree (R146). -/
def Card.mismatched (c : Card) (s : Nat) : List Nat :=
  let x := c.estStr s
  if !x.headerOk then []
  else places.filter fun p => decide (p ≤ c.satCount s)
    && (x.mismatch.contains p || decide (c.satState s p = 2 ∨ c.satState s p = 3 ∨ c.satState s p = 5))
    && decide ((c.sat s p).cls ≠ x.cls)

/-- Class mismatches begin and end at the slot 3 boundary; positions whose mismatch ends restart (R146). -/
def Card.checkClasses (c : Card) (s : Nat) : Card :=
  let old := (c.estStr s).mismatch
  let new := c.mismatched s
  let c := c.modEst s fun x => { x with mismatch := new }
  let c := c.each (new.filter fun p => !old.contains p) fun c p =>
    (c.stick EST_STICKY.CLASS_MISMATCH).recordStr s 0x4004 [pN s, pN p, pN (c.sat s p).cls, pN (c.estStr s).cls]
  c.each (old.filter fun p => !new.contains p) fun c p => c.each (cellsOf p) fun c cell => c.restartCell s cell

/-- MODEL_STATE of a string. -/
def Card.showModel (c : Card) (s : Nat) : Card :=
  let x := c.estStr s
  let cells := cellsFrom 1 (16 * c.satCount s)
  let init := cells.any fun k => !c.started s k || decide (c.cellWord s k 0x290 % 2 = 1)
  c.setFld (EST_STATUS.MODEL_STATE s) (if !x.headerOk then 0 else if x.mismatch ≠ [] then 3 else if init then 1 else 2)

/-! ### Learned values (R156 to R164) -/

/-- Sets a cell's learned values (R161). -/
def Card.setLearned (c : Card) (s cell : Nat) (r : List Nat) : Card :=
  c.each [0, 1, 2, 3] fun c i => c.putCell s cell (0x300 + i) (r.getD i 0)

/-- A cell's learned values as a record. -/
def Card.learned (c : Card) (s cell : Nat) : List Nat := [0, 1, 2, 3].map fun i => c.cellWord s cell (0x300 + i)

/-- The reset of R159: defaults, no counts, no segment, and SWAP in the disqualifier word. -/
def Card.resetLearned (c : Card) (s cell : Nat) : Card :=
  let c := c.setLearned s cell [c.tableWord s 0x09, c.tableWord s 0x0A, 0, 0]
  let c := { c with est.learn := c.est.learn.set (fun _ => {}) (cellKey s cell) {} }
  (c.each [0x304, 0x305, 0x306, 0x307, 0x308, 0x309] fun c w => c.putCell s cell w 0).putCell s cell 0x30A 0x1000

/-- A copy of learned values in MRAM. -/
def Card.copy (c : Card) (s k : Nat) : LearnCopy := c.est.copies.get (fun _ => {}) (2 * (s - 1) + k)

/-- Writes a copy. -/
def Card.setCopy (c : Card) (s k : Nat) (x : LearnCopy) : Card :=
  { c with est.copies := c.est.copies.set (fun _ => {}) (2 * (s - 1) + k) x }

/-- The valid copy whose sequence is later (R164). -/
def Card.newestCopy (c : Card) (s : Nat) : Option Nat :=
  let a := c.copy s 0
  let b := c.copy s 1
  if a.valid && b.valid then
    some (if after (BitVec.ofNat 32 b.seq) (BitVec.ofNat 32 a.seq) then 1 else 0)
  else if a.valid then some 0 else if b.valid then some 1 else none

/-- The load of learned values after a reset, once the string's header is valid (R164). -/
def Card.loadLearned (c : Card) (s : Nat) : Card :=
  let x := c.estStr s
  if !x.loadDue ∨ !x.headerOk then c
  else
    let c := c.modEst s fun x => { x with loadDue := false }
    let default (c : Card) (copy cause : Nat) : Card :=
      let c := c.each (cellsFrom 1 512) fun c k => c.setLearned s k [c.tableWord s 0x09, c.tableWord s 0x0A, 0, 0]
      (c.stick EST_STICKY.COPY_INVALID).recordStr s 0x4020 [pN s, pN copy, pN cause]
    match c.newestCopy s with
    | none => default c 0 0
    | some k =>
      if (c.copy s k).cls ≠ x.cls then default c k 1
      else
        let rs := (c.copy s k).recs
        let c := c.setFld (EST_COMMIT_STAT.SEQ_LOW s) ((c.copy s k).seq % 256)
        c.each (cellsFrom 1 512) fun c i => c.setLearned s i (rs.getD (i - 1) [])

/-- A cause asks for a commit of a string (R162). -/
def Card.wantCommit (c : Card) (s cause : Nat) : Card :=
  c.modEst s fun x => if x.due.contains cause then x else { x with due := x.due ++ [cause] }

/-- The EST_COMMIT operations that stand at `code` for a string go on to another: the string itself while their cause is
due, 10 more while a commit that covers them runs, 20 more while that commit is queued. -/
def Card.moveCommits (c : Card) (old new : Nat) : Card :=
  { c with est.commitOps := c.est.commitOps.map fun o => (o.1, o.2.1.map fun k => if k = old then new else k, o.2.2) }

/-- LEARNED_VALUE_COMMIT (R162, R163): a cause that holds starts the string's commit. While one runs, it joins it in its
first frame and queues one further commit after that. -/
def execLearnedValueCommit (string cause : Nat) (s : State) : Host.Outcome State Fault Refusal :=
  s.on fun c =>
    let x := c.estStr string
    if string = 0 ∨ 4 < string then c
    else if !(x.due.contains cause || (cause == 0 && decide (600000 ≤ x.since))) then c
    else
      let c := c.modEst string fun x => { x with due := x.due.erase cause }
      let go (c : Card) (n : Nat) : Card := if cause = 5 then c.moveCommits string (string + n) else c
      if x.phase = 0 then
        go ((c.modEst string fun x => { x with phase := 1, causes := [cause], attempt := 1 }).setFld
          (EST_STATUS.COMMIT_BUSY string) 1) 10
      else if x.phase = 1 ∨ (x.attempt = 1 ∧ x.snap.frame = c.frame) then
        go (c.modEst string fun x => { x with causes := x.causes ++ [cause] }) 10
      else go (c.modEst string fun x => { x with queued := x.queued ++ [cause] }) 20

/-- The values that a commit takes at the end of slot 5 of its first frame. -/
def Card.takeSnapshot (c : Card) (s : Nat) : Card :=
  let x := c.estStr s
  if x.phase ≠ 1 then c
  else
    let seq := match c.newestCopy s with
      | some k => ((c.copy s k).seq + 1) % 2 ^ 32
      | none => 1
    let snap : LearnCopy := {
      valid := true, seq := seq, frame := c.frame, pm := c.pm, cls := x.cls, cause := x.causes.headD 0
      recs := (cellsFrom 1 512).map fun k => c.learned s k }
    c.modEst s fun x => { x with phase := 2, snap := snap }

/-- The copy that a commit writes: the one without the newest valid sequence. -/
def Card.commitTarget (c : Card) (s : Nat) : Nat :=
  match c.newestCopy s with
  | some k => 1 - k
  | none => 0

/-- The commit's slot 7 writes (R163): 4 KiB in the first frame, the rest and the header in the next. An EST_COMMIT
reaches its commit point at the first write (R171). -/
def Card.commitWrite (c : Card) (s : Nat) : Card :=
  let x := c.estStr s
  let k := c.commitTarget s
  match x.phase with
  | 2 =>
    let c := (c.setCopy s k { c.copy s k with valid := false }).modEst s fun x => { x with phase := 3 }
    c.each c.est.commitOps fun c o => if o.2.1.contains (s + 10) then c.commit o.1 else c
  | 3 => c.modEst s fun x => { x with phase := 4 }
  | _ => c

/-- The EST_COMMIT operations that the commit of a string covers, once it has been read back or has failed. -/
def Card.commitEnds (c : Card) (s : Nat) (failed : Bool) : Card :=
  let ops := c.est.commitOps.map fun o =>
    if o.2.1.contains (s + 10) then (o.1, o.2.1.filter (· ≠ s + 10), o.2.2 || failed) else o
  let c := { c with est.commitOps := ops.filter fun o => o.2.1 ≠ [] }
  c.each (ops.filter fun o => o.2.1 = []) fun c o => if o.2.2 then c.complete o.1 3 0x4004 else c.done o.1

/-- A commit of a string has ended; a queued one starts. -/
def Card.nextCommit (c : Card) (s : Nat) : Card :=
  let x := c.estStr s
  match x.queued with
  | _ :: _ => (c.modEst s fun x => { x with phase := 1, causes := x.queued, queued := [], attempt := 1 }).moveCommits
      (s + 20) (s + 10)
  | [] => (c.modEst s fun x => { x with phase := 0 }).setFld (EST_STATUS.COMMIT_BUSY s) 0

/-- COMMIT_READ_BACK (R163). -/
def execCommitReadBack (string : Nat) (matched : Bool) (s : State) : Host.Outcome State Fault Refusal :=
  s.on fun c =>
    let x := c.estStr string
    if string = 0 ∨ 4 < string ∨ x.phase ≠ 4 then c
    else
    let c := c.jrnFree 0x0B
    if matched then
      let c := (c.setCopy string (c.commitTarget string) x.snap).setFld (EST_COMMIT_STAT.SEQ_LOW string) (x.snap.seq % 256)
      let c := c.recordStr string 0x4021 [pN string, pN x.snap.seq, pN x.snap.cause]
      ((c.modEst string fun x => { x with since := 0 }).commitEnds string false).nextCommit string
    else
      let c := (c.stick EST_STICKY.COMMIT_FAIL).recordStr string 0x4022 [pN string, pN x.snap.seq, pN x.attempt]
      if x.attempt = 1 then c.modEst string fun x => { x with phase := 2, attempt := 2 }
      else (c.commitEnds string true).nextCommit string

/-! ### Swaps (R95, R158, R159) -/

/-- The swaps declared since the last slot 3 boundary take effect: learned values reset, and restart. -/
def Card.applySwaps (c : Card) : Card :=
  let due := c.est.swapDue ++ c.chn.swapped.filter fun k => !c.est.swapDue.contains k
  let c := { c with est.swapDue := [], chn.swapped := [], est.swapNow := due
                    est.swapAny := c.est.swapAny ++ due.filter fun k => !c.est.swapAny.contains k }
  c.each due fun c k =>
    let s := k / 32 + 1
    let p := k % 32 + 1
    let c := c.each (cellsOf p) fun c cell => (c.resetLearned s cell).restartCell s cell
    let c := (c.stick EST_STICKY.SWAP).recordStr s 0x4019 [pN s, pN (16 * (p - 1) + 1), 16, 0]
    c.each c.running fun c x =>
      if x.2.opcode = 0x45 ∧ x.2.desc.byte 0 = s ∧ x.2.desc.byte 1 = p then (c.commit x.1).setPhase x.1 1 else c

/-- Declares a satellite's positions swapped, from the next slot 3 boundary. -/
def Card.declareSwap (c : Card) (s p : Nat) : Card :=
  let k := placeKey s p
  { c with est.swapDue := if c.est.swapDue.contains k then c.est.swapDue else c.est.swapDue ++ [k] }

/-! ### Limits (R15, R16, R123, R149 to R152) -/

/-- The latched result of a reduction channel; an empty channel's is not stated. -/
def Card.latchChan (c : Card) (s ch : Nat) : Int × Card :=
  match (c.chan s ch).val with
  | some v => (v, c)
  | none =>
    let (n, c) := c.draw
    ((Config.freeValue n).toNat % 2 ^ 17, c)

/-- Channels 0 to 15 of a string. -/
def Card.latchChans (c : Card) (s : Nat) : List Int × Card :=
  (List.range 16).foldl (fun (r : List Int × Card) ch =>
    let x := r.2.latchChan s ch
    (r.1 ++ [x.1], x.2)) ([], c)

/-- The six power limits in whole watts (R150). -/
def powersOf (chans : List Int) : List Nat :=
  (List.range 6).map fun n => (chans.getD n 0 * chans.getD (n + 6) 0).toNat / 5000

/-- A charge pause zeroes the charge limits of a latched set (R294). -/
def pauseCharge (chans : List Int) : List Int := chans.mapIdx fun i v => if i = 0 ∨ i = 2 ∨ i = 4 then 0 else v

/-- The latch of a string's limit set at the end of slot 5 (R15, R16, R150). -/
def Card.latchLimits (c : Card) (s : Nat) : Card :=
  let x := c.estStr s
  if c.fld TIL_FRESH.FRESH / 2 ^ (s - 1) % 2 = 1 then
    let (v, c) := c.latchChans s
    let v := if x.chargePause then pauseCharge v else v
    let c := c.modEst s fun x =>
      { x with chans := v, powers := powersOf v, everFresh := true, missed := 0, zeroed := false }
    if x.zeroed then c.recordStr s 0x4002 [pN s] else c
  else
    c.modEst s fun x =>
      let v := if x.chargePause then pauseCharge x.chans else x.chans
      { x with chans := v, powers := powersOf v, missed := if x.everFresh then x.missed + 1 else 0 }

/-- A string's limits are zero in both directions: no fresh set since reset (R135), 5 frames without one (R16), no valid
table (R145), or a class mismatch (R146). -/
def Card.limitsZero (c : Card) (s : Nat) : Bool :=
  let x := c.estStr s
  !x.everFresh || decide (5 ≤ x.missed) || !x.headerOk || decide (x.mismatch ≠ [])

/-- A current limit in force, in units of 10 mA: 0 to 5 in the order of R149. -/
def Card.currentLimit (c : Card) (s n : Nat) : Nat :=
  if c.limitsZero s then 0 else ((c.estStr s).chans.getD n 0).toNat

/-- A power limit in force, in W. -/
def Card.powerLimit (c : Card) (s n : Nat) : Nat := if c.limitsZero s then 0 else (c.estStr s).powers.getD n 0

/-- The lookahead bound in force in a direction (0 charge, 1 discharge), in W (R152). -/
def Card.laBound (c : Card) (s dir : Nat) : Nat :=
  let x := c.estStr s
  if c.bit (EST_STATUS.LA_VALID s) && c.bit EST_CTRL.LA_EN then (if dir = 0 then x.laChg else x.laDis)
  else (quot (c.powerLimit s (4 + dir) * c.fld EST_LA_CFG.FALLBACK) 256).toNat

/-- LIMITS_ZERO (R16): the fifth frame without a fresh set. -/
def execLimitsZero (string : Nat) (s : State) : Host.Outcome State Fault Refusal :=
  s.on fun c =>
    let x := c.estStr string
    if string = 0 ∨ 4 < string ∨ !x.everFresh ∨ x.missed < 5 ∨ x.zeroed then c
    else (c.modEst string fun x => { x with zeroed := true }).recordStr string 0x4001 [pN string]

/-- Slice 99 of a lookahead window completed cleanly: channels 25 and 26 are complete, and every tile's LOOKAHEAD class
(R152). -/
def Card.sliceDone (c : Card) (s : Nat) : Bool :=
  (c.chan s 25).val.isSome && (c.chan s 26).val.isSome && c.chanComplete s 25 && c.chanComplete s 26
    && (c.needed s).all fun t => decide ((c.tile (c.phys t)).clean / 4 % 2 = 1)

/-- The lookahead latch at the end of slot 5 (R152). -/
def Card.latchLookahead (c : Card) (s : Nat) : Card :=
  if c.activeSet.batches = [] then c
  else if c.sliceDone s then
    let was := (c.estStr s).laFallback
    let v (ch : Nat) : Nat := (((c.chan s ch).val.getD 0) * 32).toNat
    let c := c.modEst s fun x => { x with laChg := v 25, laDis := v 26, laFrames := 0, laFallback := false }
    let c := c.setFld (EST_STATUS.LA_VALID s) 1
    if was then c.recordStr s 0x4031 [pN s] else c
  else c.modEst s fun x => { x with laFrames := x.laFrames + 1 }

/-- LA_FALLBACK (R152): VALID_FR frames without a latch. -/
def execLaFallback (string : Nat) (s : State) : Host.Outcome State Fault Refusal :=
  s.on fun c =>
    let x := c.estStr string
    if string = 0 ∨ 4 < string ∨ x.laFallback ∨ x.laFrames < 10 * c.fld EST_LA_CFG.VALID_FR then c
    else
      let c := (c.modEst string fun x => { x with laFallback := true }).setFld (EST_STATUS.LA_VALID string) 0
      (c.stick EST_STICKY.LA_FALLBACK).recordStr string 0x4030 [pN string, c.frame]

/-! ### Balancing (R153) -/

/-- The positions of a place that balancing may pick: measured, without INIT and CLASS_MISMATCH. -/
def Card.balanced (c : Card) (s p : Nat) : List Nat :=
  if !(c.sat s p).accepted ∨ (c.estStr s).mismatch.contains p then []
  else (cellsOf p).filter fun k => c.started s k && decide (c.cellWord s k 0x290 % 2 = 0)

/-- The cell of a list that lies furthest from the mean `sum / n`, the first of equals: cell and signed n-fold distance. -/
def furthest (sum n : Nat) (l : List (Nat × Nat)) : Option (Nat × Int) :=
  l.foldl (fun best x =>
    let d : Int := (x.2 * n : Nat) - (sum : Int)
    match best with
    | none => some (x.1, d)
    | some b => if b.2.natAbs < d.natAbs then some (x.1, d) else best) none

/-- The plan of one string. -/
def Card.planString (c : Card) (s : Nat) : Card :=
  let ps := places.filter fun p => decide (p ≤ c.satCount s) && c.inService s p
  let all := ps.flatMap fun p => c.balanced s p
  let sum := all.foldl (fun a k => a + c.cellWord s k 0x280) 0
  let n := all.length
  c.each ps fun c p =>
    let pick := furthest sum n ((c.balanced s p).map fun k => (k, c.cellWord s k 0x280))
    match pick with
    | some (k, d) =>
      if n * c.fld EST_BAL_CFG.DEADBAND * 256 < d.natAbs then
        c.request s p 0x08 (be 1 (posInSat k) ++ be 1 (if 0 < d then 1 else 2) ++ be 2 (c.fld EST_BAL_CFG.I_BAL)
          ++ be 2 1024 ++ be 2 0) .balance
      else c.request s p 0x08 (be 8 0) .balance
    | none => c.request s p 0x08 (be 8 0) .balance

/-- BALANCING_PLAN (R153): in slot 6 of every 1,024th frame, by the primary lane. -/
def execBalancingPlan (s : State) : Host.Outcome State Fault Refusal :=
  s.on fun c =>
    if !c.bit EST_CTRL.BAL_EN ∨ !c.laneRuns ∨ c.frame.toNat % 1024 ≠ 0 ∨ c.tim.slot ≠ 6 then c
    else c.each strings fun c s => c.planString s

/-! ### The state page (R165 to R169) -/

/-- A position's record (R168). -/
def Card.pageRecord (c : Card) (s cell : Nat) : List Byte :=
  let p := placeOfCell cell
  if c.satCount s < p then le 4 (2 ^ 24) ++ le 28 0
  else
    let x := c.sat s p
    let k := placeKey s p
    let w := c.cellWord s cell
    let flag (b : Bool) (n : Nat) : Nat := if b then 2 ^ n else 0
    let stale := (c.reg (CHN_STALE s)).getLsbD (p - 1)
    let t := tileOfCell s cell
    let w0 := x.volts.getD ((cell - 1) % 16) 0
      + 2 ^ 18 * c.til.cellFlags.get (fun _ => 0) (8 * t + (cell - 1) % 8)
      + flag (c.est.staleAny.contains k || stale) 22 + flag stale 23 + flag (!c.started s cell || decide (w 0x290 % 2 = 1)) 25
      + flag (c.est.swapAny.contains k) 26 + flag ((c.estStr s).mismatch.contains p) 27
      + flag (decide (w 0x307 ≠ 0 ∨ w 0x308 ≠ 0 ∨ w 0x309 ≠ 0)) 28 + flag (decide (w 0x290 / 4 % 2 = 1)) 29
    let resid := code 14 (clampInt (-8192) 8191 (quot (signed 18 (w 0x283)) 5))
    le 4 w0 ++ le 4 (w 0x280 + 2 ^ 18 * resid) ++ le 4 (w 0x282)
      ++ le 4 (w 0x300 + 2 ^ 18 * min (w 0x302) 16383) ++ le 4 (w 0x301)
      ++ le 2 (w 0x284 / 10) ++ le 2 (w 0x285 / 10) ++ le 2 (w 0x286 / 10) ++ le 2 (w 0x287 / 10)
      ++ le 2 (w 0x288 / 10) ++ le 2 (w 0x289 / 10)

/-- A string's summary (R167). -/
def Card.pageSummary (c : Card) (s : Nat) : List Byte :=
  let x := c.estStr s
  let n := c.satCount s
  let stale := (places.filter fun p => decide (p ≤ n) && (c.reg (CHN_STALE s)).getLsbD (p - 1)).length * 16
  let ch (i : Nat) : Nat := (x.chans.getD i 0).toNat
  let powers (i : Nat) : Nat := x.powers.getD i 0
  let bits := c.fld TIL_FRESH.FRESH / 2 ^ (s - 1) % 2 + (if decide (5 ≤ x.missed) then 2 else 0)
    + 4 * c.fld (EST_STATUS.LA_VALID s) + 8 * c.fld (EST_STATUS.MODEL_STATE s)
  le 2 stale ++ le 2 bits ++ (List.range 6).flatMap (fun i => le 4 (ch i))
    ++ (List.range 6).flatMap (fun i => le 4 (powers i)) ++ le 4 (c.laBound s 0) ++ le 4 (c.laBound s 1)
    ++ le 4 (ch 12) ++ le 4 (ch 13) ++ le 4 (8 * ch 14) ++ le 4 (8 * ch 15) ++ le 4 (min x.since (2 ^ 32 - 1)) ++ le 48 0

/-- The whole page with its final SEQ (R166, R169). -/
def Card.statePage (c : Card) (seq : Nat) : List Byte :=
  le 4 seq ++ le 4 c.frame.toNat ++ le 8 c.tim.framePm ++ le 48 0 ++ strings.flatMap c.pageSummary
    ++ strings.flatMap (fun s => (cellsFrom 1 512).flatMap fun k => c.pageRecord s k) ++ le 4 seq ++ le 60 0

/-- The SEQ after another (R169). -/
def nextSeq (n : Nat) : Nat := if n = 2 ^ 32 - 1 then 1 else n + 1

/-- Writes a state page into the buffer whose turn it is; skipped while the module cannot master the bus (R165). -/
def Card.publishState (c : Card) (page : List Byte) : Card :=
  if !c.masters then (c.stick EST_STICKY.PAGE_SKIPPED).setFld EST_STATUS.PAGE_SUSPENDED 1
  else
    let lo := if c.est.pageB then EST_PAGE_B_LO.ADDR_LO else EST_PAGE_A_LO.ADDR_LO
    let hi := if c.est.pageB then EST_PAGE_B_HI.ADDR_HI else EST_PAGE_A_HI.ADDR_HI
    let c := c.dma (c.fld lo * 64 + c.fld hi * 2 ^ 32) page
    let c := { c with est.pageB := !c.est.pageB }.setFld EST_PAGE_SEQ.SEQ (nextSeq (c.fld EST_PAGE_SEQ.SEQ))
    (c.setFld EST_STATUS.PAGE_SUSPENDED 0).fire 80

/-- A state page is due in this frame. -/
def Card.stateDue (c : Card) : Bool :=
  c.bit EST_CTRL.PAGE_EN && decide (c.frame.toNat % 16 = 0) && decide (c.est.pageAt ≠ some c.frame)

/-- STATE_PAGE (R165): in slot 7 of a frame divisible by 16, or of the frame after one whose slot 7 overran (R37). -/
def execStatePage (s : State) : Host.Outcome State Fault Refusal :=
  s.on fun c =>
    if c.tim.slot ≠ 7 then c
    else if c.est.pageHeld ≠ [] then { c.publishState c.est.pageHeld with est.pageHeld := [] }
    else if c.stateDue then
      { c with est.pageAt := some c.frame }.publishState (c.statePage (nextSeq (c.fld EST_PAGE_SEQ.SEQ)))
    else c

/-! ### Host operations (R170) -/

/-- The RESERVED_FIELD check of the estimation opcodes. -/
def estArgs (b : Bool) : Option (Nat × Nat) := if b then none else some (7, 0x4001)

/-- String, first position and count name positions of a string. -/
def rangeOk (d : Desc) : Bool :=
  stringOk d && decide (1 ≤ d.at 2 2) && decide (1 ≤ d.at 4 2) && decide (d.at 2 2 + d.at 4 2 ≤ 513)

/-- EST_LEARN_RESET. -/
def rowEstLearnReset : Row where
  opcode := 0x40
  role := 2
  args _ d := estArgs (d.only [(0, 1), (2, 4)] && rangeOk d)
  start _ c := c

/-- EST_LEARN_WRITE. -/
def rowEstLearnWrite : Row where
  opcode := 0x41
  role := 3
  args _ d := estArgs (d.only [(0, 1), (2, 4), (8, 8)] && rangeOk d && wordsOk d (4 * d.at 4 2))
  start _ c := c

/-- EST_LEARN_READ. -/
def rowEstLearnRead : Row where
  opcode := 0x42
  role := 1
  args _ d := estArgs (d.only [(0, 1), (2, 4), (8, 8)] && rangeOk d)
  start _ c := c

/-- EST_COMMIT: one commit of each string of the mask. -/
def rowEstCommit : Row where
  opcode := 0x43
  role := 2
  args _ d := estArgs (d.only [(0, 1)] && decide (d.byte 0 < 16))
  start slot c :=
    let m := (c.descOf slot).byte 0
    let ss := strings.filter fun s => decide (m / 2 ^ (s - 1) % 2 = 1)
    if ss = [] then c.done slot
    else { c with est.commitOps := c.est.commitOps ++ [(slot, ss, false)] }.each ss fun c s => c.wantCommit s 5

/-- EST_MODEL_REINIT: refused while a main contactor of the string is closed. -/
def rowEstModelReinit : Row where
  opcode := 0x44
  role := 2
  args _ d := estArgs (d.only [(0, 1), (2, 4)] && rangeOk d)
  checks c d := if c.mainClosed (d.byte 0) then some (3, 0x4002, 0) else none
  start _ c := c

/-- EST_SWAP_DECLARE. -/
def rowEstSwapDeclare : Row where
  opcode := 0x45
  role := 2
  args _ d := estArgs (d.only [(0, 2)] && stringOk d && placeOk d)
  checks c d := if (c.estStr (d.byte 0)).headerOk then none else some (3, 0x4003, 0)
  start slot c := c.declareSwap ((c.descOf slot).byte 0) ((c.descOf slot).byte 1)

/-- The learned-value and model operations in flight are applied at the slot 3 boundary (R170, R171). -/
def Card.applyLearnOps (c : Card) : Card :=
  c.each c.running fun c x =>
    let d := x.2.desc
    let s := d.byte 0
    let cells := cellsFrom (d.at 2 2) (d.at 4 2)
    if x.2.produced ∨ x.2.committed then c
    else if x.2.opcode = 0x40 then
      let c := (c.commit x.1).each cells fun c k => c.resetLearned s k
      (c.recordStr s 0x4019 [pN s, pN (d.at 2 2), pN (d.at 4 2), 1]).done x.1
    else if x.2.opcode = 0x41 then
      let c := (c.commit x.1).each cells.zipIdx fun c k =>
        c.setLearned s k.1 ([0, 1, 2, 3].map fun i => leAt d.buf (16 * k.2 + 4 * i) 4)
      c.done x.1
    else if x.2.opcode = 0x44 then (c.commit x.1).each cells fun c k => c.restartCell s k
    else c

/-- The reads of learned values at a slot 7 boundary. -/
def Card.readLearned (c : Card) : Card :=
  c.each c.running fun c x =>
    let d := x.2.desc
    if x.2.opcode ≠ 0x42 ∨ x.2.produced then c
    else (c.commit x.1).doneWith x.1 (d.at 8 8)
      ((cellsFrom (d.at 2 2) (d.at 4 2)).flatMap fun k => (c.learned (d.byte 0) k).flatMap fun v => le 4 v)

/-- The operations that end with the frame's compute: reinitialised models that have restarted, and applied swaps. A position
without a satellite is never modelled. -/
def Card.endModelOps (c : Card) : Card :=
  c.each c.running fun c x =>
    let d := x.2.desc
    if x.2.produced ∨ !x.2.committed then c
    else if x.2.opcode = 0x44 then
      if (cellsFrom (d.at 2 2) (d.at 4 2)).all (fun k =>
          c.started (d.byte 0) k || decide (c.satCount (d.byte 0) < placeOfCell k)) then c.done x.1 else c
    else if x.2.opcode = 0x45 ∧ x.2.phase = 1 then c.done x.1
    else c

/-- A string leaves service: its EST_MODEL_REINIT operations end (R170). -/
def Card.loseModelOps (c : Card) (s : Nat) : Card :=
  c.each c.running fun c x =>
    if x.2.opcode = 0x44 ∧ x.2.desc.byte 0 = s then c.complete x.1 0x0B (0x4180 + (s - 1)) else c

/-! ### Slot work -/

/-- The places without a segment in the frame are added to a page period's stale flags (R168). -/
def Card.collectStale (c : Card) : Card :=
  let ks := strings.flatMap fun s => (places.filter fun p => (c.reg (CHN_STALE s)).getLsbD (p - 1)).map fun p => placeKey s p
  { c with est.staleAny := c.est.staleAny ++ ks.filter fun k => !c.est.staleAny.contains k }

/-- The estimator's part of a slot 3 boundary: tables, headers, mirror, loads, swaps and operations. -/
def Card.estSlot3 (c : Card) : Card :=
  let c := c.applyTables
  let c := c.each strings fun c s => (((c.validateHeader s).mirrorConfig s).checkClasses s).loadLearned s
  let c := c.collectStale.applySwaps.applyLearnOps
  c.each strings fun c s => c.showModel s

/-- The estimator's part of the end of slot 5. -/
def Card.estSlot6 (c : Card) : Card :=
  let c := c.each strings fun c s => (((c.latchLimits s).latchLookahead s).takeSnapshot s).showModel s
  c.endModelOps

/-- The estimator's part of a slot 7 boundary. -/
def Card.estSlot7 (c : Card) : Card := (c.each strings fun c s => c.commitWrite s).readLearned

/-- A frame begins: commits after swaps (R159) and commit ages, and the flags of a page period (R165). -/
def Card.estFrame (c : Card) : Card :=
  let c := c.each strings fun c s => if c.est.swapNow.any (fun k => k / 32 + 1 = s) then c.wantCommit s 2 else c
  let c := { c with est.swapNow := [] }
  let c := c.each strings fun c s => c.modEst s fun x => { x with since := x.since + 1 }
  if c.frame.toNat % 16 = 1 then { c with est.staleAny := [], est.swapAny := [], til.cellFlags := [] } else c

/-- EST_LEARN_RESET (R170). -/
def execEstLearnReset (d : Desc) (s : State) : Host.Outcome State Fault Refusal := s.on fun c => c.accept rowEstLearnReset d
/-- EST_LEARN_WRITE (R170). -/
def execEstLearnWrite (d : Desc) (s : State) : Host.Outcome State Fault Refusal := s.on fun c => c.accept rowEstLearnWrite d
/-- EST_LEARN_READ (R170). -/
def execEstLearnRead (d : Desc) (s : State) : Host.Outcome State Fault Refusal := s.on fun c => c.accept rowEstLearnRead d
/-- EST_COMMIT (R170). -/
def execEstCommit (d : Desc) (s : State) : Host.Outcome State Fault Refusal := s.on fun c => c.accept rowEstCommit d
/-- EST_MODEL_REINIT (R170). -/
def execEstModelReinit (d : Desc) (s : State) : Host.Outcome State Fault Refusal := s.on fun c => c.accept rowEstModelReinit d
/-- EST_SWAP_DECLARE (R170). -/
def execEstSwapDeclare (d : Desc) (s : State) : Host.Outcome State Fault Refusal := s.on fun c => c.accept rowEstSwapDeclare d

end Sys2Proof.Machine
end

