-- ==== Sys2Proof/Machine/Imp.lean ====
section
/-! DEFINITION. Impedance tracking (R174 to R198): tone plans, the current demodulator, suspension, histories, anomalies
and the impedance page. What the lanes' kernels compute stands in Machine/Kernel.lean. -/

namespace Sys2Proof.Machine

/-- The tracker's record of a string. -/
def Card.impStr (c : Card) (s : Nat) : ImpStr := c.imp.strs.get (fun _ => {}) s

/-- Changes the tracker's record of a string. -/
def Card.modImp (c : Card) (s : Nat) (f : ImpStr → ImpStr) : Card :=
  { c with imp.strs := c.imp.strs.set (fun _ => {}) s (f (c.impStr s)) }

/-- The tones. -/
def toneIdx : List Nat := List.range 8

/-- Tone k's FREQ, AMP and A. -/
def Plan.tone (p : Plan) (k : Nat) : Nat × Nat × Nat := p.tones.getD k (0, 0, 0)

/-- Tone k is enabled. -/
def Plan.on (p : Plan) (k : Nat) : Bool := p.en.testBit k

/-- The enabled tones. -/
def Plan.enabled (p : Plan) : List Nat := toneIdx.filter p.on

/-! ### The tone plan (R174 to R179) -/

/-- The plan of an 80-byte record. -/
def planOf (id : Nat) (r : List Byte) : Plan :=
  { id := id, t0 := leAt r 0 8, en := leAt r 8 1, base := leAt r 9 1, record := slice (r ++ List.replicate 80 0) 0 80
    tones := toneIdx.map fun k => (leAt r (16 + 8 * k) 4, leAt r (20 + 8 * k) 2, leAt r (22 + 8 * k) 1) }

/-- A field other than FREQ is out of its range, or a byte that must be zero is not (R175 step 1). -/
def planBad (r : List Byte) : Bool :=
  let p := planOf 0 r
  !(decide (12 ≤ p.base) && decide (p.base ≤ 18)) || !zeroAt r 10 6
    || toneIdx.any fun k =>
      let t := p.tone k
      if p.on k then
        !(decide (50 ≤ t.2.1) && decide (4 ≤ t.2.2) && decide (t.2.2 ≤ 16) && zeroAt r (23 + 8 * k) 1)
      else !zeroAt r (16 + 8 * k) 8

/-- The steps 2 to 4 of R175. -/
def planRefused (p : Plan) : Option Nat :=
  let f (k : Nat) : Nat := (p.tone k).1
  let close (i j : Nat) : Bool :=
    decide (i < j) && decide (8 * ((f i : Int) - f j).natAbs < min (f i) (f j))
  if p.enabled.any fun k => decide (f k < 104858) || decide (2097152000 < f k) then some 0x5002
  else if p.enabled.any fun i => p.enabled.any fun j => close i j then some 0x5003
  else if p.enabled.any fun k => decide (2 ^ (p.tone k).2.2 * f k < 4000 * 2 ^ 20) then some 0x5004
  else none

/-- The highest amplitude of a tone on a string, in mA (R175). -/
def Card.ampLimit (c : Card) (s : Nat) : Nat := min (10 * c.fld (CNV_RATING.RATING s)) 2000

/-- A plan with its amplitudes clipped to the string's limit. -/
def Card.clipPlan (c : Card) (s : Nat) (p : Plan) : Plan :=
  { p with tones := p.tones.map fun t => (t.1, min t.2.1 (c.ampLimit s), t.2.2) }

/-- The strings of a mask. -/
def maskStrings (m : Nat) : List Nat := strings.filter fun s => m.testBit (s - 1)

/-- The TONE_PLAN payload (R177). -/
def Plan.payload (p : Plan) : List Byte :=
  be 4 p.id ++ be 4 p.at'.toNat ++ be 8 p.t0 ++ be 1 p.en ++ be 1 p.base ++ be 6 0
    ++ toneIdx.flatMap fun k => be 4 (p.tone k).1

/-- A plan is accepted for a string: it becomes active 16 frames on. A T0 of 0 is the postmark of that boundary. -/
def Card.acceptPlan (c : Card) (s : Nat) (p : Plan) (slot : Option Nat) : Card :=
  let ahead := if c.tim.slot ≤ 6 then 16 else 17
  let p := { c.clipPlan s p with
    at' := c.frame + BitVec.ofNat 32 ahead
    t0 := if p.t0 = 0 then (c.tim.framePm + ahead * 1000000) % 2 ^ 64 else p.t0 }
  let c := c.modImp s fun x => { x with pend := some p, pendOp := slot, confPend := [] }
  c.setFld (IMP_STATUS.PLAN_PENDING s) 1

/-- The RESERVED_FIELD check of the impedance opcodes. -/
def impArgs (b : Bool) : Option (Nat × Nat) := if b then none else some (7, 0x5001)

/-- The mask of byte 0 names strings. -/
def maskOk (d : Desc) : Bool := decide (1 ≤ d.byte 0) && decide (d.byte 0 ≤ 15)

/-- IMP_PLAN_LOAD. -/
def rowImpPlanLoad : Row where
  opcode := 0x50
  role := 2
  args _ d := impArgs (d.only [(0, 1), (4, 12)] && maskOk d && decide (d.at 4 4 ≠ 0) && !planBad d.buf)
  checks c d :=
    match planRefused (planOf (d.at 4 4) d.buf) with
    | some r => some (3, r, 0)
    | none => if (maskStrings (d.byte 0)).any fun s => (c.impStr s).pend.isSome then some (3, 0x5005, 0) else none
  start slot c :=
    let d := c.descOf slot
    let p := planOf (d.at 4 4) d.buf
    let ss := maskStrings (d.byte 0)
    let clip := ss.any fun s => p.enabled.any fun k => decide (c.ampLimit s < (p.tone k).2.1)
    (c.each ss fun c s => c.acceptPlan s p (some slot)).modOp slot fun o => { o with data := [if clip then 1 else 0] }

/-- The places whose satellite must confirm a plan. -/
def Card.planPlaces (c : Card) (s : Nat) : List Nat :=
  places.filter fun p => decide (p ≤ c.satCount s) && c.inService s p

/-- Sends a TONE_PLAN to a destination; it brings no answer (R88). -/
def Card.sendPlan (c : Card) (s dest : Nat) (p : Plan) : Card :=
  let c := c.modImp s fun x => { x with sent := x.sent ++ [(dest, p.payload)] }
  if dest = 0 then c else c.modSat s dest fun y => { y with seq := y.seq + 1 }

/-- The frames since a plan's acceptance. -/
def Card.planAge (c : Card) (p : Plan) : Int := 16 - (if after p.at' c.frame then (framesSince p.at' c.frame : Int) else 0)

/-- A satellite does not bear a string's plan (R179). -/
def Card.unconfirmed (c : Card) (s q : Nat) (p : Plan) : Card :=
  ((c.setFld (IMP_STATUS.UNCONFIRMED s) 1).stick IMP_STICKY.UNCONFIRMED).record 0x5002 [pN s, pN q, pN p.id]

/-- The plan's requests at a slot 3 boundary (R176, R179). -/
def Card.servePlan (c : Card) (s : Nat) : Card :=
  if !c.bit (CHN_CTRL.EN s) || c.bit (CHN_STATUS.RESETTING s) then c
  else
    let c := c.modImp s fun x => { x with sent := [] }
    let x := c.impStr s
    let c := match x.pend with
      | some p =>
        let age := c.planAge p
        if age = 8 then c.each (c.planPlaces s) fun c q => c.request s q 0x06 (be 2 0x0014 ++ be 1 4) .planRead
        else if 9 ≤ age ∧ age ≤ 15 then
          c.each (c.planPlaces s) fun c q =>
            if (c.impStr s).confPend.contains q then c
            else (c.sendPlan s q p).request s q 0x06 (be 2 0x0014 ++ be 1 4) .planRead
        else c
      | none => c
    c.each (c.planPlaces s) fun c q =>
      let x := c.impStr s
      let due := (c.sat s q).planDue
      let c := if due then c.modSat s q fun y => { y with planDue := false } else c
      match x.plan with
      | some p =>
        let c := if due && !x.unconf.contains q then (c.modImp s fun x => { x with unconf := x.unconf ++ [q] }).unconfirmed s q p
          else c
        let c := if due || (x.unconf.contains q && decide (c.frame.toNat % 16 = 0)) then
            (c.sendPlan s q p).request s q 0x06 (be 2 0x0010 ++ be 1 8) .planRead else c
        if due then (match x.pend with | some p => c.sendPlan s q p | none => c) else c
      | none => if due then (match x.pend with | some p => c.sendPlan s q p | none => c) else c

/-- A satellite's answer to a read of its plan identifiers: `ids` is what it holds (R179). -/
def Card.planAnswer (c : Card) (s q : Nat) (ids : List Nat) : Card :=
  let x := c.impStr s
  let c := match x.pend with
    | some p => if ids.contains p.id ∧ !x.confPend.contains q then
        c.modImp s fun x => { x with confPend := x.confPend ++ [q] } else c
    | none => c
  match x.plan with
  | some p =>
    if ids.contains p.id then
      let left := x.unconf.filter (· ≠ q)
      (c.modImp s fun x => { x with unconf := left }).setBit (IMP_STATUS.UNCONFIRMED s) (decide (left ≠ []))
    else c
  | none => c

/-- The satellites of a chain reset must confirm anew (R179). -/
def Card.planAfterReset (c : Card) (s : Nat) : Card := c.each places fun c p => c.modSat s p fun y => { y with planDue := true }

/-- The pending plan's broadcasts in slot 6 of the three frames after acceptance: the operation's commit point (R196). -/
def Card.broadcastPlan (c : Card) (s : Nat) : Card :=
  match (c.impStr s).pend with
  | some p =>
    if 1 ≤ c.planAge p ∧ c.planAge p ≤ 3 ∧ c.bit (CHN_CTRL.EN s) then
      let c := c.sendPlan s 0 p
      match (c.impStr s).pendOp with
      | some slot => c.commit slot
      | none => c
    else c
  | none => c

/-- Shows a string's plan in its registers. -/
def Card.showPlan (c : Card) (s : Nat) : Card :=
  let x := c.impStr s
  let p := x.plan.getD {}
  let c := c.setReg (IMP_PLAN_ID s) (pN p.id)
  c.each toneIdx fun c k =>
    let t := p.tone k
    let c := (c.setFld (IMP_TONE_FREQ.FREQ s k) t.1).setFld (IMP_TONE_AMP.AMP s k) (x.ampNow.getD k t.2.1)
    (c.setFld (IMP_TONE_AMP.SHIFT s k) t.2.2).setBit (IMP_TONE_AMP.EN s k) (p.on k)

/-- PLAN_ACTIVATION (R176): at the boundary of frame N + 16 the string switches plans. -/
def execPlanActivation (string : Nat) (s : State) : Host.Outcome State Fault Refusal :=
  s.on fun c =>
    let x := c.impStr string
    match x.pend with
    | none => c
    | some p =>
      if string = 0 ∨ 4 < string ∨ (p.at' ≠ c.frame ∧ !after c.frame p.at') then c
      else
        let un := (c.planPlaces string).filter fun q => !x.confPend.contains q
        let amps := p.tones.map (·.2.1)
        let c := c.modImp string fun x =>
          { x with plan := some p, pend := none, confPend := [], unconf := un, ampNext := amps, ampNow := amps, pendOp := none }
        let c := c.setLive 3 string 0 (le 4 p.id ++ p.record)
        let c := (c.setFld (IMP_STATUS.PLAN_PENDING string) 0).setBit (IMP_STATUS.UNCONFIRMED string) (decide (un ≠ []))
        let c := (c.showPlan string).record 0x5001 [pN string, pN p.id, c.frame]
        let c := c.each un fun c q => c.unconfirmed string q p
        let c : Card := match x.pendOp with
          | some slot => c.modOp slot fun o => { o with phase := if un = [] then o.phase else 1 }
          | none => c
        let st : Nat := c.fld (IMP_STATUS.INJ_STATE string)
        if p.en = 0 then
          (c.setFld (IMP_STATUS.INJ_STATE string) 0).modImp string fun x => { x with ramp := 0, clear := 0 }
        else if st = 0 then (c.setFld (IMP_STATUS.INJ_STATE string) 2).modImp string fun x => { x with ramp := 0, clear := 0 }
        else c

/-- The plan operations whose strings have all switched complete at the slot 7 boundary. -/
def Card.endPlanOps (c : Card) : Card :=
  c.each c.running fun c x =>
    if x.2.opcode ≠ 0x50 ∨ x.2.produced ∨ strings.any (fun s => (c.impStr s).pendOp = some x.1) then c
    else if x.2.data = [1] then c.complete x.1 1 0x5006
    else if x.2.phase = 1 then c.complete x.1 0 0x5007
    else c.done x.1

/-! ### Injection (R175, R180, R192) -/

/-- The amplitude limit is evaluated in slot 6; a rating that lowers an amplitude sets AMP_CLIPPED (R175). -/
def Card.limitAmps (c : Card) (s : Nat) : Card :=
  let x := c.impStr s
  match x.plan with
  | none => c
  | some p =>
    let lim := c.ampLimit s
    let lowered := p.enabled.any fun k => decide (min (p.tone k).2.1 lim < x.ampNext.getD k 0)
    let c := c.modImp s fun x => { x with ampNext := p.tones.map fun t => min t.2.1 lim }
    if lowered then c.stick IMP_STICKY.AMP_CLIPPED else c

/-- IMP_INJ_CTRL holds a string suspended: the last action of an operation in flight, or what the last one left. -/
def Card.hostSuspends (c : Card) (s : Nat) : Bool :=
  c.running.foldl (fun b x =>
    if x.2.opcode = 0x51 ∧ !x.2.produced ∧ (x.2.desc.byte 0).testBit (s - 1) then decide (x.2.desc.byte 1 = 0) else b)
    (c.impStr s).hostSusp

/-- The causes of R192 that hold for a string. -/
def Card.injCauses (c : Card) (s : Nat) : Nat :=
  let x := c.impStr s
  let st := c.fld (CNV_STATUS.STATE s)
  let sp := c.sfld (CNV_SETPOINT.ACCEPTED s)
  let total := (x.plan.map fun p => (p.enabled.map fun k => x.ampNext.getD k 0).foldl (· + ·) 0).getD 0
  let chg := c.currentLimit s 0
  let dis := c.currentLimit s 1
  let lim := if 0 < sp then chg else if sp < 0 then dis else min chg dis
  let ring := c.fld (CHN_STATUS.RING_STATE s)
  let flag (b : Bool) (n : Nat) : Nat := if b then 2 ^ n else 0
  flag (!(c.fld IMP_CTRL.INJ_EN).testBit (s - 1) || c.hostSuspends s) 0
    + flag (decide (st ≠ 3 ∧ st ≠ 4) || decide (c.fld (CNV_STATUS.MODE s) ≠ 0)) 1
    + flag (decide (c.fld (CNV_STATUS.SUBMODE s) = 1)) 2
    + flag (decide (10 * lim < 10 * sp.natAbs + total)) 3
    + flag (decide (c.fld (SAF_STR_STATE.COILS s) % 4 ≠ 3) || decide (c.fld (SAF_STR_STATE.STATE s) = 6)) 4
    + flag (decide (c.fld TIL_STATUS.THROTTLE = 3)) 5
    + flag (decide (ring = 0 ∨ ring = 3)) 6

/-- The causes are evaluated in slot 6. -/
def Card.evalInjection (c : Card) (s : Nat) : Card :=
  let m := c.injCauses s
  (c.setFld (IMP_SUSP_CAUSE.CAUSE s) m).modImp s fun x => { x with clear := if m = 0 then min (x.clear + 1) 16 else 0 }

/-- Injection falls suspended. -/
def Card.suspend (c : Card) (s m : Nat) : Card :=
  let c := c.modImp s fun x => { x with ramp := 0, down := false }
  ((c.setFld (IMP_STATUS.INJ_STATE s) 2).stick IMP_STICKY.SUSPENDED).record 0x5003 [pN s, pN m]

/-- Injection changes at the slot 7 boundary (R192). -/
def Card.moveInjection (c : Card) (s : Nat) : Card :=
  let x := c.impStr s
  let m := c.fld (IMP_SUSP_CAUSE.CAUSE s)
  let st := c.fld (IMP_STATUS.INJ_STATE s)
  let c := (c.modImp s fun x => { x with ampNow := x.ampNext }).showPlan s
  if st = 0 ∨ st = 2 then c
  else if m / 2 ≠ 0 then c.suspend s m
  else if m = 1 ∨ x.down then
    if x.ramp ≤ 1 then c.suspend s m
    else (c.modImp s fun x => { x with ramp := x.ramp - 1, down := true }).setFld (IMP_STATUS.INJ_STATE s) 3
  else if x.ramp < 16 then
    let c := c.modImp s fun x => { x with ramp := x.ramp + 1 }
    if x.ramp = 15 then (c.setFld (IMP_STATUS.INJ_STATE s) 1).record 0x5004 [pN s] else c
  else c

/-- INJECTION_RAMP_UP (R192): every cause has been clear for 16 frames. -/
def execInjectionRampUp (string : Nat) (s : State) : Host.Outcome State Fault Refusal :=
  s.on fun c =>
    let x := c.impStr string
    if string = 0 ∨ 4 < string ∨ x.clear < 16 ∨ c.fld (IMP_STATUS.INJ_STATE string) ≠ 2 then c
    else (c.setFld (IMP_STATUS.INJ_STATE string) 3).modImp string fun x => { x with ramp := 0, down := false }

/-- The tones whose injected amplitude is not zero now, as a mask. -/
def Card.injecting (c : Card) (s : Nat) : Nat :=
  let x := c.impStr s
  match x.plan with
  | none => 0
  | some p => if x.ramp = 0 then 0
      else (p.enabled.filter fun k => x.ampNow.getD k 0 ≠ 0).foldl (fun m k => m + 2 ^ k) 0

/-- The phase of tone frequency `f` at postmark `t`, in 2^-16 of a cycle. -/
def phaseAt (f t0 t : Nat) : Nat :=
  let per : Int := 2 ^ 20 * 1000000000
  (((f : Int) * ((t : Int) - t0) % per) * 65536 / per).toNat

/-- The injection at postmark `t`, in units of 2^-16 of a current code (R180). -/
def Card.injection (c : Card) (s t : Nat) : Int :=
  let x := c.impStr s
  match x.plan with
  | none => 0
  | some p => (p.enabled.map fun k =>
      quot ((x.ampNow.getD k 0 : Int) * x.ramp * Config.cosine (phaseAt (p.tone k).1 p.t0 t) * 65536)
        (10 * 16 * 32768)).foldl (· + ·) 0

/-! ### The current demodulator (R181, R182) -/

/-- A tone's in-phase and quadrature sums over 16 samples (postmark, value in 2^-16 codes). -/
def demodTone (p : Plan) (k : Nat) (l : List (Nat × Int)) : Int × Int :=
  let s (f : Nat → Int) : Int :=
    (l.map fun x => x.2 * f (phaseAt (p.tone k).1 p.t0 x.1)).foldl (· + ·) 0
  (quot (s Config.cosine) (8 * 32768), quot (-(s Config.sine)) (8 * 32768))

/-- The baseline runs over the samples: the remainders r_n, and the baseline after them (R178). -/
def runBaseline (shift : Nat) (b : Int) (l : List (Nat × Int)) : List (Nat × Int) × Int :=
  l.foldl (fun st x =>
    let r := x.2 - st.2
    (st.1 ++ [(x.1, r)], st.2 + quot r (2 ^ shift))) ([], b)

/-- Division rounded to the nearest, ties to even. -/
def divRne (n d : Int) : Int :=
  let q := n / d
  let r := n % d
  if 2 * r < d then q else if d < 2 * r then q + 1 else if q % 2 = 0 then q else q + 1

/-- The reciprocal reference of a phasor as S18 words, LSB 2^-12 per ampere (R182); the phasor is in 2^-16 of 39.0625 µA. -/
def reciprocal (f : Int × Int) : Nat × Nat :=
  let m := f.1 * f.1 + f.2 * f.2
  let u (v : Int) : Nat := (clamp18 true (divRne (v * 4096 * 65536 * 25600) m)).1
  if m = 0 then (0, 0) else (u f.1, u (-f.2))

/-- The magnitude of a phasor in mA. -/
def phasorMa (f : Int × Int) : Nat := Nat.sqrt (f.1 * f.1 + f.2 * f.2).toNat * 390625 / (65536 * 10000000)

/-- One tone in a frame: whether it is carried, after its phasor's update. -/
def Card.demodCarry (c : Card) (s : Nat) (p : Plan) (r : List (Nat × Int)) (gateOk : Bool) (k : Nat) : Card :=
  let x := c.impStr s
  let sel := (c.chain s).toneSel
  let selected := sel = 0 || (sel = 1 && k < 4) || (sel = 2 && 4 ≤ k)
  if !(p.on k && selected && x.injPrev.testBit k && gateOk) then c
  else
    let i := demodTone p k r
    let f := x.filt.get (fun _ => (0, 0)) k
    let sh : Int := 2 ^ (p.tone k).2.2
    let f := (f.1 + quot (i.1 - f.1) sh, f.2 + quot (i.2 - f.2) sh)
    let c := c.modImp s fun x => { x with filt := x.filt.set (fun _ => (0, 0)) k f }
    if f.1 * f.1 + f.2 * f.2 < (800 * 65536) ^ 2 then
      (c.stick IMP_STICKY.LOW_REF).record 0x5005 [pN s, pN k, pN (phasorMa f)]
    else
      let g := reciprocal f
      c.modImp s fun x =>
        { x with carried := x.carried + 2 ^ k, g := (x.g.set (fun _ => 0) (2 * k) g.1).set (fun _ => 0) (2 * k + 1) g.2 }

/-- The gate count of a string. -/
def gateCount (s : Nat) : Fld :=
  match s with
  | 1 => IMP_GATE_CNT12.S1
  | 2 => IMP_GATE_CNT12.S2
  | 3 => IMP_GATE_CNT34.S3
  | _ => IMP_GATE_CNT34.S4

/-- The demodulation of frame F − 1 at the slot 3 boundary of frame F: `codes` are the string current at the sixteen
sample instants, `mean0` the slot 0 mean of frame F (R181, R182). -/
def Card.demodulate (c : Card) (s : Nat) (codes : List (Nat × Int)) (mean0 : Int) : Card :=
  let x := c.impStr s
  let stepNow := match x.mean1, x.mean2 with
    | some a, some b => decide (100 * c.fld IMP_TRK_CFG.STEP_GATE ≤ (a - b).natAbs)
    | _, _ => true
  let gateOk := !stepNow && x.hold = 0
  let hold := if stepNow then c.fld IMP_TRK_CFG.STEP_HOLD else x.hold - 1
  let c := c.modImp s fun x => { x with carried := 0, hold := hold, mean2 := x.mean1, mean1 := some mean0 }
  match x.seen with
  | none => c
  | some p =>
    let v := codes.map fun y => (y.1, y.2 * 256 * 65536)
    let b0 := x.base.getD (match v.head? with | some y => y.2 | none => 0)
    let (r, b) := runBaseline p.base b0 v
    let sel := p.enabled.any fun k => x.injPrev.testBit k
    let c := if sel && !gateOk then c.count (gateCount s) else c
    let c := c.each toneIdx fun c k => c.demodCarry s p r gateOk k
    c.modImp s fun x => { x with base := some b }

/-! ### Lane words and tables (R185, R190, R194) -/

/-- A 36-bit value in two words, low word first, as two's complement. -/
def Card.pair36 (c : Card) (s cell w : Nat) : Int := signed 36 (c.cellWord s cell w + 2 ^ 18 * c.cellWord s cell (w + 1))

/-- Writes a 36-bit value. -/
def Card.putPair36 (c : Card) (s cell w : Nat) (v : Int) : Card :=
  let u := code 36 v
  (c.putCell s cell w (u % 2 ^ 18)).putCell s cell (w + 1) (u / 2 ^ 18)

/-- The first word of a tone's block. -/
def toneBlock (k : Nat) : Nat := 0x340 + 0x10 * k

/-- A word of a lane's output window. -/
def Card.outWord (c : Card) (s cell w : Nat) : Nat :=
  (c.tile (c.phys (tileOfCell s cell))).word (0xF800 + 0x100 * ((cell - 1) % 8) + w)

/-- Writes the module's part of the impedance area (R185). -/
def Card.writeImpTables (c : Card) (s : Nat) : Card :=
  let x := c.impStr s
  let p := x.seen.getD {}
  let f (a : Fld) : W18 := BitVec.ofNat 18 (c.fld a)
  let per : List W18 := toneIdx.flatMap fun k => [BitVec.ofNat 18 (p.tone k).2.2, if p.on k then 1 else 0, 0, 0]
  let common : List W18 := [f IMP_TRK_CFG.TRK_SHIFT, f IMP_TRK_CFG.HIST_SHIFT, f IMP_SCORE_CFG.THRESH,
    f IMP_SCORE_CFG.CONFIRM, f IMP_SCORE_CFG.D_FLOOR, BitVec.ofNat 18 p.id, BitVec.ofNat 18 x.resetTones, 0]
  c.each (tilesOf s) fun c t =>
    if c.noTile t then c
    else c.modTile (c.phys t) fun y => { y with mem := y.mem.setRange noWord (0xC000 + 0x2000) (per ++ common) }

/-- A swap clears the impedance words of its positions (R194). -/
def Card.clearSwapped (c : Card) : Card :=
  c.each c.est.swapNow fun c k => c.each (cellsOf (k % 32 + 1)) fun c cell =>
    c.each (List.range 0x80) fun c w => c.putCell (k / 32 + 1) cell (0x340 + w) 0

/-! ### Histories (R186) -/

/-- A history copy of a string. -/
def Card.histCopy (c : Card) (s k : Nat) : HistCopy := c.imp.copies.get (fun _ => {}) (2 * (s - 1) + k)

/-- Writes a history copy. -/
def Card.setHist (c : Card) (s k : Nat) (x : HistCopy) : Card :=
  { c with imp.copies := c.imp.copies.set (fun _ => {}) (2 * (s - 1) + k) x }

/-- The valid history copy whose sequence is later. -/
def Card.newestHist (c : Card) (s : Nat) : Option Nat :=
  let a := c.histCopy s 0
  let b := c.histCopy s 1
  if a.valid && b.valid then some (if after (BitVec.ofNat 32 b.seq) (BitVec.ofNat 32 a.seq) then 1 else 0)
  else if a.valid then some 0 else if b.valid then some 1 else none

/-- A position's history record: H of each tone, and the lowest history count. -/
def Card.histRecord (c : Card) (s cell : Nat) : List Int :=
  let n := (toneIdx.map fun k => c.cellWord s cell (toneBlock k + 0xF) / 64).foldl min 4095
  toneIdx.flatMap (fun k => [quot (c.pair36 s cell (toneBlock k + 8)) 1024, quot (c.pair36 s cell (toneBlock k + 10)) 1024])
    ++ [(n : Int)]

/-- Loads a position's history record. -/
def Card.loadHist (c : Card) (s cell : Nat) (r : List Int) : Card :=
  let n := (r.getD 16 0).toNat % 4096
  let self := if 2 ^ c.fld IMP_TRK_CFG.HIST_SHIFT ≤ n then 32 else 0
  c.each toneIdx fun c k =>
    let c := c.putPair36 s cell (toneBlock k + 8) (1024 * r.getD (2 * k) 0)
    let c := c.putPair36 s cell (toneBlock k + 10) (1024 * r.getD (2 * k + 1) 0)
    c.putCell s cell (toneBlock k + 0xF) (64 * n + self)

/-- The load of histories after a reset (R186, by the rule of R164). A valid copy reinstates its plan. -/
def Card.loadHistories (c : Card) (s : Nat) : Card :=
  if !(c.impStr s).loadDue || !(c.estStr s).headerOk then c
  else
    let seen := match c.newestCopy s with
      | some k => (c.copy s k).seq
      | none => 0
    let c := c.modImp s fun x => { x with loadDue := false, learnSeen := seen }
    let bad (c : Card) (k cause : Nat) : Card := ((c.showPlan s).stick IMP_STICKY.HIST_INVALID).record 0x5020 [pN s, pN k, pN cause]
    match c.newestHist s with
    | none => bad c 0 0
    | some k =>
      let h := c.histCopy s k
      let p := h.plan
      if p.id ≠ 0 ∧ (planBad p.record ∨ (planRefused p).isSome) then bad c k 1
      else
        let c := c.each (cellsFrom 1 512) fun c i => c.loadHist s i (h.recs.getD (i - 1) [])
        if p.id = 0 then c else c.acceptPlan s (planOf p.id p.record) none

/-- The history commit that follows a learned-value commit, in slot 7 (R186, R163). -/
def Card.commitHist (c : Card) (s : Nat) : Card :=
  let x := c.impStr s
  let learn := match c.newestCopy s with
    | some k => (c.copy s k).seq
    | none => 0
  let target := match c.newestHist s with
    | some k => 1 - k
    | none => 0
  match x.hist with
  | 0 => if learn = x.learnSeen ∨ x.loadDue then c
      else (c.setHist s target { c.histCopy s target with valid := false }).modImp s fun x => { x with hist := 1, learnSeen := learn }
  | _ =>
    let seq := match c.newestHist s with
      | some k => ((c.histCopy s k).seq + 1) % 2 ^ 32
      | none => 1
    let h : HistCopy := {
      valid := true, seq := seq, frame := c.frame, pm := c.pm, plan := x.plan.getD {}
      recs := (cellsFrom 1 512).map fun k => c.histRecord s k }
    ((c.setHist s target h).modImp s fun x => { x with hist := 0 }).record 0x5021 [pN s, pN seq]

/-! ### Anomalies and the page (R189, R193) -/

/-- The anomaly runs of a position. -/
def Card.runOf (c : Card) (s cell : Nat) : Nat × Nat × Bool := c.imp.runs.get (fun _ => (0, 0, false)) (cellKey s cell)

/-- Marks a position's declaration in its lane words (R190). -/
def Card.markAnomaly (c : Card) (s cell n : Nat) (d : Bool) : Card :=
  c.each toneIdx fun c k =>
    let w := c.cellWord s cell (toneBlock k + 0xF)
    c.putCell s cell (toneBlock k + 0xF) (w / 32 * 32 + (if d then 16 else 0) + min n 15)

/-- The anomaly check of one position at a page frame (R189). -/
def Card.checkAnomaly (c : Card) (s cell : Nat) : Card :=
  let sc := toneIdx.map fun k => c.outWord s cell (0xC2 + 4 * k)
  let selfs := sc.map (· % 256)
  let nbrs := sc.map (· / 256 % 256)
  let th := c.fld IMP_SCORE_CFG.THRESH
  let cf := c.fld IMP_SCORE_CFG.CONFIRM
  let high (k : Nat) : Bool := decide (th ≤ selfs.getD k 0) || decide (th ≤ nbrs.getD k 0)
  let hit := toneIdx.any high
  let low := toneIdx.all fun k => decide (2 * selfs.getD k 0 < th) && decide (2 * nbrs.getD k 0 < th)
  let mask := (toneIdx.filter high).foldl (fun m k => m + 2 ^ k) 0
  let r := c.runOf s cell
  let up := if hit then min (r.1 + 1) 15 else 0
  let dn := if low then min (r.2.1 + 1) 15 else 0
  let d := if r.2.2 then !decide (cf ≤ dn) else decide (cf ≤ up)
  let c := { c with imp.runs := c.imp.runs.set (fun _ => (0, 0, false)) (cellKey s cell) (up, dn, d) }
  let c := if up = r.1 ∧ d = r.2.2 then c else c.markAnomaly s cell up d
  let who := pN (s * 65536 + cell)
  if d && !r.2.2 then
    (c.stick IMP_STICKY.ANOMALY).recordStr s 0x5010 [who, pN mask, pN (selfs.foldl max 0), pN (nbrs.foldl max 0)]
  else if !d && r.2.2 then c.record 0x5011 [who, pN mask] else c

/-- The count of declared positions of a string. -/
def anomCount (s : Nat) : Fld :=
  match s with
  | 1 => IMP_ANOM_12.S1
  | 2 => IMP_ANOM_12.S2
  | 3 => IMP_ANOM_34.S3
  | _ => IMP_ANOM_34.S4

/-- The checks of a page frame, and the counts. -/
def Card.checkAnomalies (c : Card) : Card :=
  c.each strings fun c s =>
    let c := c.each (cellsFrom 1 512) fun c k => c.checkAnomaly s k
    c.setFld (anomCount s) ((cellsFrom 1 512).filter fun k => (c.runOf s k).2.2).length

/-- A tone's entry of the page (R193). -/
def Card.impEntry (c : Card) (s cell k : Nat) : List Byte :=
  let w (i : Nat) : Nat := c.outWord s cell (0xC0 + 4 * k + i)
  le 4 (w 0 + 2 ^ 18 * (w 2 % 256)) ++ le 4 (w 1 + 2 ^ 18 * (w 2 / 256 % 256) + 2 ^ 26 * (w 3 % 32))

/-- The whole page with its SEQ (R193). -/
def Card.impPage (c : Card) (seq : Nat) : List Byte :=
  let p := (c.impStr 1).plan.getD {}
  le 4 seq ++ le 4 c.frame.toNat ++ le 8 c.tim.framePm ++ le 4 p.id
    ++ strings.flatMap (fun s => le 1 (c.fld (IMP_STATUS.INJ_STATE s))) ++ toneIdx.flatMap (fun k => le 4 (p.tone k).1)
    ++ le 8 0
    ++ strings.flatMap (fun s => (cellsFrom 1 512).flatMap fun n => toneIdx.flatMap fun k => c.impEntry s n k)
    ++ le 4 seq ++ le 60 0

/-- Writes an impedance page into the buffer whose turn it is. -/
def Card.publishImp (c : Card) (page : List Byte) : Card :=
  if !c.masters then (c.stick IMP_STICKY.PAGE_SKIPPED).setFld IMP_STATUS.PAGE_SUSPENDED 1
  else
    let lo := if c.imp.pageB then IMP_PAGE_B_LO.ADDR_LO else IMP_PAGE_A_LO.ADDR_LO
    let hi := if c.imp.pageB then IMP_PAGE_B_HI.ADDR_HI else IMP_PAGE_A_HI.ADDR_HI
    let c := c.dma (c.fld lo * 64 + c.fld hi * 2 ^ 32) page
    let c := { c with imp.pageB := !c.imp.pageB }.setFld IMP_PAGE_SEQ.SEQ (nextSeq (c.fld IMP_PAGE_SEQ.SEQ))
    (c.setFld IMP_STATUS.PAGE_SUSPENDED 0).fire 81

/-- This is a page frame whose page work is still to do. -/
def Card.impDue (c : Card) : Bool := decide (c.frame.toNat % 1024 = 0) && decide (c.imp.pageAt ≠ some c.frame)

/-- The work of a page frame up to the page itself: the anomaly check (R189). -/
def Card.impPageWork (c : Card) : Card := { c with imp.pageAt := some c.frame }.checkAnomalies

/-- IMPEDANCE_PAGE (R193): in slot 7 of a frame divisible by 1,024, with the anomaly check of the page frame; or of the
frame after one whose slot 7 overran (R37). -/
def execImpedancePage (s : State) : Host.Outcome State Fault Refusal :=
  s.on fun c =>
    if c.tim.slot ≠ 7 then c
    else if c.imp.pageHeld ≠ [] then { c.publishImp c.imp.pageHeld with imp.pageHeld := [] }
    else if c.impDue then
      let c := c.impPageWork
      if c.bit IMP_CTRL.PAGE_EN then c.publishImp (c.impPage (nextSeq (c.fld IMP_PAGE_SEQ.SEQ))) else c
    else c

/-! ### Host operations (R195, R196) -/

/-- IMP_INJ_CTRL. -/
def rowImpInjCtrl : Row where
  opcode := 0x51
  role := 1
  args _ d := impArgs (d.only [(0, 2)] && maskOk d && decide (d.byte 1 ≤ 1))
  checks c d :=
    if d.byte 1 = 1 ∧ (maskStrings (d.byte 0)).any (fun s => (c.impStr s).plan.isNone) then some (3, 0x5008, 0) else none
  start _ c := c

/-- IMP_HIST_RESET. -/
def rowImpHistReset : Row where
  opcode := 0x52
  role := 2
  args _ d := impArgs (d.only [(0, 1), (2, 4)] && rangeOk d)
  start _ c := c

/-- IMP_SPECTRUM_READ. -/
def rowImpSpectrumRead : Row where
  opcode := 0x53
  role := 1
  args _ d := impArgs (d.only [(0, 1), (2, 4), (8, 8)] && rangeOk d && decide (d.at 4 2 ≤ 64))
  start _ c := c

/-- The history resets are applied at the slot 3 boundary. -/
def Card.applyHistOps (c : Card) : Card :=
  c.each c.running fun c x =>
    let d := x.2.desc
    if x.2.opcode ≠ 0x52 ∨ x.2.produced then c
    else
      let c := (c.commit x.1).each (cellsFrom (d.at 2 2) (d.at 4 2)) fun c cell => c.each toneIdx fun c k =>
        let s := d.byte 0
        let b := toneBlock k
        let c := (c.putPair36 s cell (b + 8) 0).putPair36 s cell (b + 10) 0
        c.putCell s cell (b + 0xF) (c.cellWord s cell (b + 0xF) % 32)
      c.done x.1

/-- The injection controls and spectrum reads of a slot 7 boundary. -/
def Card.applyInjOps (c : Card) : Card :=
  c.each c.running fun c x =>
    let d := x.2.desc
    if x.2.produced then c
    else if x.2.opcode = 0x51 then
      ((c.commit x.1).each (maskStrings (d.byte 0)) fun c s =>
        c.modImp s fun y => { y with hostSusp := decide (d.byte 1 = 0) }).done x.1
    else if x.2.opcode = 0x53 then
      (c.commit x.1).doneWith x.1 (d.at 8 8)
        ((cellsFrom (d.at 2 2) (d.at 4 2)).flatMap fun k =>
          (List.range 48).flatMap fun w => le 4 (c.outWord (d.byte 0) k (0xC0 + w)))
    else c

/-! ### Slot work -/

/-- A frame begins: the samples of the frame that ended were taken under the plan active until now. -/
def Card.impFrame (c : Card) : Card :=
  c.each strings fun c s =>
    let m := c.injecting s
    c.modImp s fun x =>
      let changed := match x.seen, x.plan with
        | some a, some b => (toneIdx.filter fun k => ((a.tone k).1, (a.tone k).2.2) ≠ ((b.tone k).1, (b.tone k).2.2)
            ∨ a.on k ≠ b.on k)
        | none, some b => b.enabled
        | _, _ => []
      let new := decide (x.seen.map (·.at') ≠ x.plan.map (·.at'))
      { x with
        seen := x.plan
        resetTones := changed.foldl (fun m k => m + 2 ^ k) 0
        filt := changed.foldl (fun f k => f.set (fun _ => (0, 0)) k (0, 0)) x.filt
        base := if new then none else x.base
        injPrev := x.injAll, injAll := m }

/-- The tracker's part of a slot 3 boundary, before the input window is filled. -/
def Card.impSlot3 (c : Card) : Card :=
  let c := c.each strings fun c s => ((c.loadHistories s).servePlan s).writeImpTables s
  c.clearSwapped.applyHistOps

/-- The tracker's part of slot 6. -/
def Card.impSlot6 (c : Card) : Card :=
  c.each strings fun c s => ((c.limitAmps s).evalInjection s).broadcastPlan s

/-- The tracker's part of a slot 7 boundary. -/
def Card.impSlot7 (c : Card) : Card :=
  let c := c.each strings fun c s =>
    let c := c.moveInjection s
    let m := c.injecting s
    (c.modImp s fun x => { x with injAll := x.injAll &&& m }).commitHist s
  c.endPlanOps.applyInjOps

/-- IMP_PLAN_LOAD (R175, R195). -/
def execImpPlanLoad (d : Desc) (s : State) : Host.Outcome State Fault Refusal := s.on fun c => c.accept rowImpPlanLoad d
/-- IMP_INJ_CTRL (R195). -/
def execImpInjCtrl (d : Desc) (s : State) : Host.Outcome State Fault Refusal := s.on fun c => c.accept rowImpInjCtrl d
/-- IMP_HIST_RESET (R195). -/
def execImpHistReset (d : Desc) (s : State) : Host.Outcome State Fault Refusal := s.on fun c => c.accept rowImpHistReset d
/-- IMP_SPECTRUM_READ (R195). -/
def execImpSpectrumRead (d : Desc) (s : State) : Host.Outcome State Fault Refusal := s.on fun c => c.accept rowImpSpectrumRead d

end Sys2Proof.Machine
end

