-- ==== Sys2Proof/Machine/Cnv.lean ====
section
/-! DEFINITION. The converter engine (R199 to R233): sense channels, current and voltage control, start, stop, hand-over
and trips. The two sample commands, which other blocks read as well, stand in Machine/Dsp.lean. -/

namespace Sys2Proof.Machine

/-- A string's engine. -/
def Card.eng (c : Card) (s : Nat) : CnvStr := c.cnv.strs.get (fun _ => {}) s

/-- Changes a string's engine. -/
def Card.modEng (c : Card) (s : Nat) (f : CnvStr → CnvStr) : Card :=
  { c with cnv.strs := c.cnv.strs.set (fun _ => {}) s (f (c.eng s)) }

/-- One working unit: 2^-16 of a code. The working precision of the engine is not stated. -/
def fx : Int := 65536

/-- CNV_STATUS.STATE. -/
def Card.cnvState (c : Card) (s : Nat) : Nat := c.fld (CNV_STATUS.STATE s)

/-- CNV_STATUS.MODE. -/
def Card.cnvMode (c : Card) (s : Nat) : Nat := c.fld (CNV_STATUS.MODE s)

/-- CNV_STATUS.SUBMODE. -/
def Card.cnvSub (c : Card) (s : Nat) : Nat := c.fld (CNV_STATUS.SUBMODE s)

/-- Gates switch in RAMP_UP, RUN, STOP_DELAY and RAMP_DOWN (R206). -/
def Card.gating (c : Card) (s : Nat) : Bool := decide (2 ≤ c.cnvState s ∧ c.cnvState s ≤ 5)

/-- The active phases. -/
def Card.phaseCount (c : Card) (s : Nat) : Nat := c.fld (CNV_PHASE_CFG.PHASES s)

/-- The active phases' numbers. -/
def Card.activePhases (c : Card) (s : Nat) : List Nat := (List.range (c.phaseCount s)).map (· + 1)

/-- A phase's record. -/
def Card.phase (c : Card) (s k : Nat) : Phase := (c.eng s).phases.get (fun _ => {}) k

/-- Changes a phase's record. -/
def Card.modPhase (c : Card) (s k : Nat) (f : Phase → Phase) : Card :=
  c.modEng s fun e => { e with phases := e.phases.set (fun _ => {}) k (f (e.phases.get (fun _ => {}) k)) }

/-- Every gate of a string is driven off. -/
def Card.gatesOff (c : Card) (s : Nat) : Card :=
  c.modEng s fun e => { e with phases := e.phases.map fun x =>
    (x.1, { x.2 with gh := false, gl := false, due := none, offAt := none, limited := 0,
                     ghAt := if x.2.gh then c.tim.clock else x.2.ghAt
                     glAt := if x.2.gl then c.tim.clock else x.2.glAt }) }

/-! ### Codes and loss (R203) -/

/-- A channel's string and number j. -/
def chanOf (ch : Nat) : Nat × Nat := (ch / 9 + 1, ch % 9)

/-- A channel carries a voltage. -/
def isVolt (j : Nat) : Bool := decide (7 ≤ j)

/-- The precise code before and after its clamp (R203), of a sample with postmark `pm`: a sample from before the frame keeps
the gain and the offset of the frame before (R204). -/
def Card.preciseCode (c : Card) (ch : Nat) (d : Int) (pm : Nat) : Int × Int :=
  let old := decide (pm < c.cnv.curPm)
  let gains := if old then c.cnv.oldGains else c.cnv.gains
  let ofss := if old then c.cnv.oldOfss else c.cnv.ofss
  let raw := roundShift (d * gains.get (fun _ => 0x20000) ch) 17 + signed 18 (ofss.get (fun _ => 0) ch)
  let v := isVolt (ch % 9)
  (raw, if v then clampInt 0 262143 raw else clampInt (-131072) 131071 raw)

/-- The fast code of a channel. -/
def fastCode (volt : Bool) (p : Int) : Int :=
  if volt then clampInt 0 16383 (roundShift p 4) else clampInt (-8192) 8191 (roundShift p 4)

/-- SENSE_SAT rises: the flag and event 0x6020 (R226). -/
def Card.senseSat (c : Card) (ch : Nat) : Card :=
  let f := CNV_STICKY.SENSE_SAT (chanOf ch).1
  if c.bit f then c else (c.stick f).record 0x6020 [pN ch]

/-- A channel of the string is lost. -/
def Card.chanLost (c : Card) (s j : Nat) : Bool :=
  (c.eng s).lost.testBit j || !c.bit (CNV_SD_CFG.CLK_EN s)

/-! ### Trips (R227) -/

/-- A capture ends: its samples go to the host buffer. -/
def Card.captureBytes (k : Capture) : List Byte :=
  le 8 (k.firstPm.getD 0) ++ le 4 k.samples.length ++ le 4 0 ++ k.samples.flatMap fun v => le 4 v

/-- The converter operations in flight for a string. -/
def Op.onEngine (o : Op) (s : Nat) : Bool :=
  if o.opcode = 0x64 then (o.desc.byte 0).testBit (s - 1)
  else decide (0x60 ≤ o.opcode) && decide (o.opcode ≤ 0x65) && decide (o.desc.byte 0 = s)

/-- The converter operations in flight for a string end with the string that leaves service (R227, R447). -/
def Card.loseEngineOps (c : Card) (s : Nat) : Card :=
  c.each c.running fun c x =>
    if x.2.onEngine s && !x.2.produced then c.complete x.1 0x0B (0x6180 + (s - 1)) else c

/-- The engine trips a string (R227): 1 fabric, 2 sense lost, 3 PHASE_OC. An OFF engine does not trip (R206). -/
def Card.engineTrip (c : Card) (s cause : Nat) : Card :=
  let st := c.cnvState s
  if st = 0 ∨ st = 6 then c
  else
    let c := (c.setFld (CNV_STATUS.STATE s) 6).gatesOff s
    let c := (c.setFld (CNV_STATUS.SUBMODE s) 0).setFld (CNV_TRIP_CAUSE.CAUSE s) cause
    let c := c.recordStr s 0x6003 [pN s, pN cause]
    let c := c.each (c.eng s).caps fun c k => c.dma ((c.descOf k.slot).at 8 8) (Card.captureBytes k)
    (c.modEng s fun e => { e with caps := [] }).loseEngineOps s

/-! ### Set points, bounds and ramps (R207, R208, R223, R224) -/

/-- The per-frame step of a ramp register, in working units (0.1 A is 10 codes). -/
def rampStep (v : Nat) : Int := 10 * v * fx

/-- `a` moved toward `b` by at most `d`. -/
def toward (a b d : Int) : Int := if b - a > d then a + d else if a - b > d then a - d else b

/-- The accepted setpoint, in working units. -/
def Card.accepted (c : Card) (s : Nat) : Int := c.sfld (CNV_SETPOINT.ACCEPTED s) * fx

/-- What the bounds hold: I_eff in current mode, I_dem in the voltage modes. -/
def Card.boundHeld (c : Card) (s : Nat) : Int := if c.cnvMode s = 0 then (c.eng s).eff else (c.eng s).iDem

/-- Holds the setpoint and the demand within the bounds. -/
def Card.applyBounds (c : Card) (s : Nat) : Card :=
  c.modEng s fun e => { e with eff := clampInt e.lo e.hi e.eff, iDem := clampInt e.lo e.hi e.iDem }

/-- The clamp bounds follow the latched limits and RATING at a slot 6 boundary (R207, R208). -/
def Card.moveBounds (c : Card) (s : Nat) : Card :=
  let rating := c.fld (CNV_RATING.RATING s)
  let e := c.eng s
  let hi : Int := min (c.currentLimit s 0) (100 * rating) * fx
  let lo : Int := -(min (c.currentLimit s 1) (100 * rating) * fx)
  let d := rampStep (c.fld (CNV_RAMP.STOP_RAMP s))
  let held := c.boundHeld s
  let newHi := if hi < held then max hi (min e.hi held - d) else hi
  let newLo := if held < lo then min lo (max e.lo held + d) else lo
  let moved := decide (newHi ≠ e.hi ∨ newLo ≠ e.lo)
  (c.modEng s fun e => { e with rating := rating, hi := newHi, lo := newLo, still := if moved then 0 else e.still }).applyBounds s

/-- The interpolated table entry at the string's state of charge and mean temperature (R219). -/
def Card.ffTable (c : Card) (s : Nat) (t : List Nat) : Int :=
  let soc : Int := quot (((c.estStr s).chans.getD 12 0 + (c.estStr s).chans.getD 13 0) * 16) 2
  let temp : Int := c.sfld (THM_STR_MEAN.MEAN s) + 20 * 512
  let i : Nat := min (max soc 0 / 2 ^ 18).toNat 15
  let fi := clampInt 0 (2 ^ 18) (soc - (i : Int) * 2 ^ 18)
  let j : Nat := min (max temp 0 / 5120).toNat 7
  let fj := clampInt 0 5120 (temp - (j : Int) * 5120)
  let v (a b : Nat) : Int := (t.getD (9 * (i + a) + (j + b)) 0 : Nat)
  let row (a : Nat) : Int := v a 0 * (5120 - fj) + v a 1 * fj
  quot (row 0 * (2 ^ 18 - fi) + row 1 * fi) (2 ^ 18 * 5120)

/-- The latest precise code of channel j. -/
def Card.prec (c : Card) (s j : Nat) : Int := (c.eng s).prec.get (fun _ => 0) j

/-- The feed-forward string voltage at a current in working units, in codes (R219). -/
def Card.vff (c : Card) (s : Nat) (i : Int) : Int :=
  let r := c.ffTable s (c.eng s).res
  let n := (i - c.prec s 6 * fx) * r
  if c.gating s then c.prec s 7 + quot n (fx * 100000) else c.ffTable s (c.eng s).ocv + quot (i * r) (fx * 100000)

/-- The band is rescaled when a setpoint step is accepted (R212); a ratio over nothing is free within its clamp. -/
def Card.rescaleBand (c : Card) (s : Nat) (old new : Int) : Card :=
  let vb := c.prec s 8
  let vs := c.prec s 7
  let vp := c.vff s new
  let n := vp * (vb - vp) * (if vs * (vb - vs) < 0 then -1 else 1)
  let d : Int := (vs * (vb - vs)).natAbs
  if old = new then c
  else if d = 0 then
    let (k, c) := c.draw
    c.modEng s fun e => { e with band := clampInt (quot e.band 2) (2 * e.band) (signed 64 (Config.freeValue k).toNat) }
  else c.modEng s fun e =>
    { e with band := if 2 * d < n then 2 * e.band else if 2 * n < d then quot e.band 2 else quot (e.band * n) d }

/-- Whether the string's lowest requirement on |I_eff| for diode emulation holds now: |I_eff| / N below DE_ENTER. -/
def Card.belowDe (c : Card) (s : Nat) : Bool :=
  decide ((c.eng s).eff.natAbs < c.phaseCount s * c.fld (CNV_CUR_CFG.DE_ENTER s) * 16 * 65536)

/-- The setpoint of the boundary enters CNV_SETPOINT after its clamp, and takes effect (R207, R224). -/
def Card.acceptSetpoint (c : Card) (s : Nat) : Card :=
  let e := c.eng s
  let manual := c.bit (CNV_CTRL.MANUAL s)
  let want := (if manual then e.manSet else e.dspSet) * fx
  let r : Int := 100 * e.rating * fx
  let lim0 : Int := c.currentLimit s 0 * fx
  let lim1 : Int := c.currentLimit s 1 * fx
  let got := clampInt (-(min lim1 r)) (min lim0 r) want
  let c := if got ≠ want then c.stick (CNV_STICKY.REF_CLAMP s) else c
  let old := c.accepted s
  let c := c.setSfld (CNV_SETPOINT.ACCEPTED s) (got / fx)
  let c := if old ≠ got then c.modEng s fun e => { e with still := 0 } else c
  if (c.cnvState s = 3 ∨ c.cnvState s = 4) ∧ c.cnvMode s = 0 ∧ !e.glide then
    let c := (c.rescaleBand s e.eff got).modEng s fun e => { e with eff := got }
    let c := c.applyBounds s
    c.modEng s fun e => { e with deBelow := e.deBelow && c.belowDe s }
  else c

/-- I_eff moves by a frame's ramp (R206, R207, R221, R223). -/
def Card.rampSetpoint (c : Card) (s : Nat) : Card :=
  let e := c.eng s
  let st := c.cnvState s
  let up := rampStep (c.fld (CNV_RAMP.START_RAMP s))
  let dn := rampStep (c.fld (CNV_RAMP.STOP_RAMP s))
  let c := if c.cnvMode s ≠ 0 then c
    else if st = 2 then c.modEng s fun e => { e with eff := toward e.eff (c.accepted s) up }
    else if (st = 3 ∨ st = 4) ∧ e.glide then
      let n := toward e.eff (c.accepted s) up
      c.modEng s fun e => { e with eff := n, glide := decide (n ≠ c.accepted s) }
    else if st = 5 then c.modEng s fun e => { e with eff := toward e.eff 0 dn, zeroRun := if e.eff = 0 then e.zeroRun + 1 else 0 }
    else c
  c.applyBounds s

/-! ### Hand-over (R222, R223) -/

/-- Bounds of the band, in working units: 2 codes to H_MAX, which a derating doubles (R212, R225). -/
def Card.bandClamp (c : Card) (s : Nat) (h : Int) : Int :=
  clampInt (2 * fx) (c.fld (CNV_BAND_CFG.H_MAX s) * 2 ^ (c.eng s).derate * fx) h

/-- Shows the band in CNV_BAND_STAT. -/
def Card.showBand (c : Card) (s : Nat) : Card :=
  c.setFld (CNV_BAND_STAT.H s) (min (quot (c.eng s).band fx).toNat 255)

/-- CNV_INT shows I_int in BUS and FLOAT and I_trim in CURRENT, rounded to a code. -/
def Card.showInt (c : Card) (s : Nat) : Card :=
  let e := c.eng s
  c.setSfld (CNV_INT.I_INT s) (clampInt (-131072) 131071 (quot (if c.cnvMode s = 0 then e.trim else e.iInt) fx))

/-- Kp × e in working units; a derating halves Kp (R216, R225). -/
def Card.kpTerm (c : Card) (s : Nat) (e : Int) : Int :=
  quot (c.fld (CNV_VLOOP_CFG.KP s) * e) (256 * 2 ^ (c.eng s).derate)

/-- Ki × e × 12.8 µs in working units. -/
def Card.kiTerm (c : Card) (s : Nat) (e : Int) : Int :=
  quot (c.fld (CNV_VLOOP_KI.KI s) * e * 128) (10000000 * 2 ^ (c.eng s).derate)

/-- The regulated voltage of a mode: the bus, or the string. -/
def regulated (mode : Nat) : Nat := if mode = 1 then 8 else 7

/-- The error e of a mode in working units (R216). -/
def voltError (mode : Nat) (v vref : Int) : Int := if mode = 1 then v * fx - vref else vref - v * fx

/-- A derating and the oscillation count end at a start or a hand-over (R225). -/
def Card.freshOsc (c : Card) (s : Nat) : Card :=
  c.modEng s fun e =>
    { e with derate := 0, oscSign := 0, oscOver := false, oscSince := 0, oscNow := 0, oscPast := [] }

/-- Hand-over to CURRENT (R223). -/
def Card.toCurrent (c : Card) (s : Nat) : Card :=
  let old := c.cnvMode s
  let c := ((c.setFld (CNV_STATUS.MODE s) 0).setFld (CNV_STATUS.SUBMODE s) 0).gatesOff s
  let c := (c.freshOsc s).modEng s fun e =>
    { e with eff := e.iDem, trim := 0, glide := true, below := 0, deBelow := false
             band := e.bandUsed.getD (c.fld (CNV_BAND_CFG.BAND_INIT s) * fx) }
  ((c.showBand s).showInt s).record 0x6004 [pN s, pN old, 0, pN (c.fld (CNV_INT.I_INT s))]

/-- Hand-over to a voltage mode; answers whether the preload was clamped (R222). -/
def Card.toVoltage (c : Card) (s mode : Nat) : Card × Bool :=
  let e := c.eng s
  let old := c.cnvMode s
  let l := e.last8
  let iMeas := if l = [] then 0 else quot (l.foldl (· + ·) 0 * fx) l.length
  let v := c.prec s (regulated mode)
  let tgt : Int := e.target
  let win : Int := 10 * c.fld (CNV_VLOOP_CFG.BUMP_WIN s)
  let vref := (if (tgt - v).natAbs ≤ win.toNat then tgt else v) * fx
  let err := voltError mode v vref
  let c := ((c.freshOsc s).setFld (CNV_STATUS.MODE s) mode).setFld (CNV_STATUS.SUBMODE s) 0
  let ask := iMeas - c.kpTerm s err
  let got := clampInt e.lo e.hi ask
  let c := (c.gatesOff s).modEng s fun e =>
    { e with vref := vref, iInt := got, iDem := clampInt e.lo e.hi (got + c.kpTerm s err)
             bandUsed := if old = 0 then some e.band else e.bandUsed, turn := 1, below := 0, burst := 0, glide := false }
  let c := c.showInt s
  let c := c.record 0x6004 [pN s, pN old, pN mode, pN (c.fld (CNV_INT.I_INT s))]
  if got ≠ ask then
    ((c.stick (CNV_STICKY.BUMP s)).record 0x6006 [pN s, p32 (quot ask fx), p32 (quot got fx)], true)
  else (c, false)

/-! ### Start and stop (R206, R220, R221) -/

/-- A feed-forward table is valid: every entry nonzero, each voltage row non-decreasing in state of charge (R219). -/
def ffValid (ocv res : List Nat) : Bool :=
  decide (ocv.length = 153) && decide (res.length = 153) && ocv.all (· ≠ 0) && res.all (· ≠ 0)
    && (List.range 144).all fun n => decide (ocv.getD n 0 ≤ ocv.getD (n + 9) 0)

/-- The start checks of R220: the reason of the first that fails. -/
def Card.startCheck (c : Card) (s : Nat) : Option Nat :=
  let e := c.eng s
  let lost := if c.bit (CNV_SD_CFG.CLK_EN s) then e.lost else 511
  if c.fld (SAF_STR_STATE.STATE s) ≠ 4 then some 0x6002
  else if !ffValid e.ocv e.res then some 0x6003
  else if !(c.fld TIL_FRESH.FRESH).testBit (s - 1) then some 0x6004
  else if lost ||| e.endsPrev ≠ 0 then some 0x6005
  else if c.prec s 8 * 256 < c.prec s 7 * (256 + c.fld (CNV_RATING.VMARGIN s)) then some 0x6006
  else none

/-- The pending operations of an opcode on a string, in submission order. -/
def Card.engOps (c : Card) (s opcode : Nat) : List (Nat × Op) :=
  c.running.filter fun x => decide (x.2.opcode = opcode) && decide (x.2.desc.byte 0 = s) && !x.2.produced

/-- The engine reaches OFF: its stops complete, with event 0x6002. -/
def Card.engineOff (c : Card) (s : Nat) : Card :=
  let c := ((c.setFld (CNV_STATUS.STATE s) 0).setFld (CNV_STATUS.SUBMODE s) 0).gatesOff s
  let c := (c.modEng s fun e => { e with eff := 0, glide := false, zeroRun := 0 }).record 0x6002 [pN s, c.frame]
  c.each (c.engOps s 0x61) fun c x => if x.2.phase = 1 then c.done x.1 else c

/-- RAMP_DOWN begins; a voltage mode first hands over to current mode (R221). -/
def Card.rampDown (c : Card) (s : Nat) : Card :=
  if !c.gating s ∨ c.cnvState s = 5 then c
  else
    let c := if c.cnvMode s ≠ 0 then c.toCurrent s else c
    (c.setFld (CNV_STATUS.STATE s) 5).modEng s fun e => { e with glide := false, zeroRun := 0 }

/-- START_DELAY_ELAPSED (R206): RAMP_UP begins, and CNV_START completes. -/
def execStartDelayElapsed (string : Nat) (s : State) : Host.Outcome State Fault Refusal :=
  s.on fun c =>
    if string = 0 ∨ 4 < string ∨ c.cnvState string ≠ 1 ∨ (c.startCheck string).isSome then c
    else
      let mode := c.cnvMode string
      let v := c.prec string (regulated mode)
      let c := (c.freshOsc string).modEng string fun e =>
        { e with eff := 0, trim := 0, band := c.fld (CNV_BAND_CFG.BAND_INIT string) * fx, glide := false, phases := []
                 vref := v * fx, iInt := 0, iDem := 0, turn := 1, below := 0, burst := 0, deBelow := false }
      let c := ((c.setFld (CNV_STATUS.STATE string) 2).showBand string).showInt string
      let c := c.record 0x6001 [pN string, pN mode]
      c.each (c.engOps string 0x60) fun c x => if x.2.phase = 1 then (c.commit x.1).done x.1 else c

/-- STOP_DELAY_ELAPSED (R206). -/
def execStopDelayElapsed (string : Nat) (s : State) : Host.Outcome State Fault Refusal :=
  s.on fun c => if string = 0 ∨ 4 < string ∨ c.cnvState string ≠ 4 then c else c.rampDown string

/-! ### Gates: the switches of a phase (R200, R210 to R215, R217) -/

/-- The rising edge of GH of phase k at time t: the switching frequency, the interleave and the ripple (R212, R213,
R217). -/
def Card.ghRise (c : Card) (s k t : Nat) : Card :=
  let p := c.phase s k
  let e := c.eng s
  let one := c.phase s 1
  let n := c.phaseCount s
  let lag : Int := (t : Int) - one.riseAt
  let t1 : Int := one.period
  let above := decide ((100 * n : Nat) * lag > t1 * (100 * (k - 1 : Nat) + n : Nat))
  let under := decide ((100 * n : Nat) * lag < t1 * ((100 * (k - 1 : Nat) : Nat) - (n : Int)))
  let want := if k < 2 ∨ n < 2 ∨ c.cnvMode s ≠ 0 ∨ t1 = 0 then p.ofs
    else if above then p.ofs + quot e.band 64 else if under then p.ofs - quot e.band 64 else p.ofs
  let lim := quot e.band 4
  let got := clampInt (-lim) lim want
  let c := if got ≠ want then c.stick (CNV_STICKY.BAND_SAT s) else c
  let swing := p.ripMax - p.ripMin
  let r := quot (-swing) 2
  c.modPhase s k fun p =>
    { p with gh := true, ghAt := t, due := none, limited := p.limited - 1, rises := p.rises + 1
             period := if p.riseAt = 0 then 0 else t - p.riseAt, riseAt := t, ofs := if k = 1 then 0 else got
             rip := r, ripMin := r, ripMax := r, ripAt := t }

/-- The synthesised ripple runs on to time t (R217). -/
def Card.ripple (c : Card) (s k t : Nat) : Card :=
  let l : Int := 1000 * c.fld (CNV_COT_CFG.L_SYN s)
  let dt : Int := (t : Int) - (c.phase s k).ripAt
  c.modPhase s k fun p =>
    let r := if p.gh then p.rip + quot ((c.prec s 8 - c.prec s 7) * fx * dt) l
      else if p.gl then p.rip - quot (c.prec s 7 * fx * dt) l else p.rip
    { p with rip := r, ripMin := min p.ripMin r, ripMax := max p.ripMax r, ripAt := t }

/-- DEAD in ns. -/
def Card.deadNs (c : Card) (s : Nat) : Nat := 4 * c.fld (CNV_PHASE_CFG.DEAD s)

/-- Turns one switch of a phase off at time t and the other on after DEAD. -/
def Card.swap (c : Card) (s k : Nat) (high : Bool) (t : Nat) : Card :=
  c.modPhase s k fun p =>
    let offAt := if high then (if p.gl then t else p.glAt) else (if p.gh then t else p.ghAt)
    let p := if high then { p with gl := false, glAt := offAt } else { p with gh := false, ghAt := offAt }
    { p with due := some (high, max t (offAt + c.deadNs s)), offAt := none }

/-- The phase's timed edges up to the present: the end of an on-time, and the switch that waited out DEAD. -/
def Card.phaseTick (c : Card) (s k : Nat) : Card :=
  let c := match (c.phase s k).offAt with
    | some t => if t ≤ c.tim.clock ∧ (c.phase s k).gh then (c.ripple s k t).swap s k false t else c
    | none => c
  match (c.phase s k).due with
  | some (high, t) =>
    if c.tim.clock < t then c
    else if high then (c.ripple s k t).ghRise s k t
    else (c.ripple s k t).modPhase s k fun p => { p with gl := true, glAt := t, due := none }
  | none => c

/-- The timed edges of a string. -/
def Card.gateTick (c : Card) (s : Nat) : Card :=
  if c.gating s then c.each (c.activePhases s) fun c k => c.phaseTick s k else c

/-- MIN_PULSE has passed since either switch last changed (R210). -/
def Card.pulseOk (c : Card) (s : Nat) (p : Phase) : Bool :=
  let m := 4 * c.fld (CNV_PHASE_CFG.MIN_PULSE s)
  decide (p.ghAt + m ≤ c.tim.clock) && decide (p.glAt + m ≤ c.tim.clock) && p.due.isNone

/-- A limited cycle (R214): counted once in the cycle, which the next rising edge of GH ends, or the one after the edge that
the limit itself brings; 64 in a frame trip the engine. -/
def Card.limitPhase (c : Card) (s k : Nat) (i : Int) : Card :=
  let c := if (c.phase s k).limited ≠ 0 then c
    else
      let n := (c.eng s).phOc + 1
      let c := c.jrnSwitch s k 3
      let c := ((c.modEng s fun e => { e with phOc := n }).count (CNV_REG_CNT.PH_OC s)).stick (CNV_STICKY.PH_OC s)
      if n = 1 then c.record 0x6011 [pN s, pN k, pN n] else c
  let p := c.phase s k
  let waits (high : Bool) : Bool := p.due.any fun d => d.1 == high
  let c := if 0 < i then (if p.gl || waits false then c else c.swap s k false c.tim.clock)
    else (if p.gh || waits true then c else c.swap s k true c.tim.clock)
  let c := c.modPhase s k fun q =>
    { q with limited := if p.limited ≠ 0 then p.limited else if 0 < i ∨ p.gh then 1 else 2 }
  if 64 ≤ (c.eng s).phOc then c.engineTrip s 3 else c

/-- The reference of a phase in 2^-16 of a fast code (R210). -/
def Card.phaseRef (c : Card) (s : Nat) : Int :=
  let e := c.eng s
  quot (e.eff + c.injection s c.pm + e.trim) (16 * c.phaseCount s)

/-- The comparators of current mode (R210). -/
def Card.compare (c : Card) (s k : Nat) (i : Int) : Card :=
  let p := c.phase s k
  let e := c.eng s
  let r := c.phaseRef s
  let v := i * fx
  if !c.pulseOk s p then c
  else if v ≤ r - e.band + p.ofs ∧ !p.gh then (c.jrnSwitch s k 0).swap s k true c.tim.clock
  else if r + e.band + p.ofs ≤ v ∧ p.gh then (c.jrnSwitch s k 1).swap s k false c.tim.clock
  else c

/-- Diode emulation (R215): pulses started by the charge error, mirrored for a negative reference. -/
def Card.emulate (c : Card) (s k : Nat) (i : Int) : Card :=
  let r := c.phaseRef s
  let v := i * fx
  let c := c.modPhase s k fun p => { p with err := p.err + (r - v) }
  let p := c.phase s k
  let e := c.eng s
  let z : Int := c.fld (CNV_CUR_CFG.ZCD_THR s) * fx
  let off (c : Card) : Card := c.modPhase s k fun p =>
    { p with gh := false, gl := false, ghAt := if p.gh then c.tim.clock else p.ghAt
             glAt := if p.gl then c.tim.clock else p.glAt }
  if !c.pulseOk s p then c
  else if 0 ≤ r then
    if p.gh then (if r + e.band + p.ofs ≤ v then (c.jrnSwitch s k 1).swap s k false c.tim.clock else c)
    else if p.gl then (if v ≤ z then off (c.jrnSwitch s k 2) else c)
    else if 0 ≤ p.err then c.swap s k true c.tim.clock else c
  else
    if p.gl then (if v ≤ r - e.band + p.ofs then (c.jrnSwitch s k 0).swap s k true c.tim.clock else c)
    else if p.gh then (if -z ≤ v then off (c.jrnSwitch s k 2) else c)
    else if p.err ≤ 0 then c.swap s k false c.tim.clock else c

/-- The on-time of R217 in ns, and whether its clamp acted. -/
def Card.onTime (c : Card) (s : Nat) : Nat × Bool :=
  let f : Int := c.fld (CNV_COT_CFG.F_SW s)
  let raw := 4 * quot (c.vff s (c.eng s).iDem * 250000) (c.prec s 8 * f)
  let got := clampInt (4 * c.fld (CNV_PHASE_CFG.MIN_PULSE s)) (quot 950000 f) raw
  (got.toNat, decide (got ≠ raw))

/-- The rotation of R217: the phase in turn starts a pulse. -/
def Card.rotate (c : Card) (s : Nat) : Card :=
  let e := c.eng s
  let j := e.turn
  let c := c.ripple s j c.tim.clock
  let p := c.phase s j
  let emu := c.prec s (j - 1) * fx + p.rip
  let ready := decide (e.pulseAt + 4 * c.fld (CNV_PHASE_CFG.MIN_PULSE s) ≤ c.tim.clock) && p.due.isNone && !p.gh
  if ready ∧ emu * c.phaseCount s ≤ e.iDem then
    let (t, sat) := c.onTime s
    let c := if sat then c.stick (CNV_STICKY.TON_SAT s) else c
    let c := ((c.jrnSwitch s j 0).swap s j true c.tim.clock).modPhase s j fun p =>
      { p with offAt := some ((match p.due with | some d => d.2 | none => c.tim.clock) + t) }
    c.modEng s fun e => { e with pulseAt := c.tim.clock, turn := if j < c.phaseCount s then j + 1 else 1 }
  else c

/-- A capture takes a sample of its channel and path. -/
def Card.capture (c : Card) (s j : Nat) (fast : Bool) (v : Int) (pm : Nat) : Card :=
  c.modEng s fun e => { e with caps := e.caps.map fun k =>
    if k.begun && k.fast == fast && k.chan == j then
      { k with samples := k.samples ++ [code 18 v], firstPm := some (k.firstPm.getD pm) } else k }

/-- The engine's part of a fast sample (R210 to R217), with the sample's fast code. -/
def Card.fastEngine (c : Card) (s j : Nat) (i : Int) : Card :=
  let c := (c.gateTick s).capture s j true i (c.pm - 600)
  let c := if j = 6 then c.modEng s fun e => { e with fastI := i } else c
  let k := j + 1
  if !c.gating s then c
  else if c.cnvMode s ≠ 0 then (if c.cnvSub s = 2 then c else (c.rotate s).gateTick s)
  else if c.phaseCount s < k ∨ 6 ≤ j then c
  else if 1000 * c.fld (CNV_RATING.PH_OC s) ≤ 160 * i.natAbs then (c.limitPhase s k i).gateTick s
  else if c.cnvSub s = 1 then (c.emulate s k i).gateTick s
  else (c.compare s k i).gateTick s

/-! ### Precise samples (R211, R216, R218, R225) -/

/-- The oscillation detector's step with an error and its amplitude threshold in working units (R225). -/
def Card.oscStep (c : Card) (s : Nat) (err amp : Int) : Card :=
  if c.cnvState s ≠ 3 then c
  else
    let e := c.eng s
    let beyond := e.oscOver || decide (amp < (err.natAbs : Int))
    let sgn : Int := if 0 < err then 1 else if err < 0 then -1 else e.oscSign
    let since := e.oscSince + 1
    let hit := decide (e.oscSign ≠ 0 ∧ sgn ≠ e.oscSign) && beyond && decide (4 ≤ since)
    let c := c.modEng s fun e =>
      { e with oscSign := sgn, oscOver := if hit then false else beyond, oscSince := if hit then 0 else since
               oscNow := if hit then e.oscNow + 1 else e.oscNow }
    let n := (c.eng s).oscNow + (((c.eng s).oscPast.take (c.fld (CNV_OSC_CFG.OSC_WIN s) - 1)).foldl (· + ·) 0)
    if n < c.fld (CNV_OSC_CFG.OSC_CNT s) then c
    else
      let act := c.fld (CNV_OSC_CFG.OSC_ACT s)
      let c := (c.stick (CNV_STICKY.OSC s)).record 0x6008
        [pN s, if c.cnvMode s = 0 then 0 else 1, pN n, pN act]
      let c := c.modEng s fun e => { e with oscNow := 0, oscPast := [], derate := if act = 1 then e.derate + 1 else e.derate }
      if act = 2 then c.rampDown s else c

/-- The current loop at a precise string current sample (R211). -/
def Card.trimStep (c : Card) (s : Nat) (i : Int) : Card :=
  if !c.gating s ∨ c.cnvMode s ≠ 0 then c
  else
    let e := c.eng s
    let ref := e.eff + c.injection s c.pm
    let err := ref - i * fx
    let raw := e.trim + quot err (2 ^ (c.fld (CNV_CUR_CFG.TRIM_SHIFT s) + e.derate))
    let lim := quot (c.fld (CNV_CUR_CFG.TRIM_MAX s) * e.rating * fx) 10
    let got := clampInt (-lim) lim raw
    let c := if got ≠ raw then c.stick (CNV_STICKY.TRIM_SAT s) else c
    let c := (c.modEng s fun e => { e with trim := got, refSum := (e.refSum.1 + ref, e.refSum.2 + 1) }).showInt s
    c.oscStep s (-err) (10 * c.fld (CNV_OSC_CFG.OSC_AMP_I s) * fx)

/-- Burst (R218): what the sub-mode becomes after a sample with error e and demand d. -/
def Card.burstStep (c : Card) (s : Nat) (err dem : Int) : Card :=
  let be' := c.fld (CNV_BURST_CFG.BURST_ENTER s)
  let enter : Int := 10 * be' * fx
  let x := c.eng s
  let below := if c.cnvState s = 3 ∧ (dem.natAbs : Int) < enter then min (x.below + 1) 16 else 0
  let c := c.modEng s fun x => { x with below := below }
  let sub := c.cnvSub s
  if be' = 0 ∨ c.cnvState s ≠ 3 then (if sub = 0 then c else c.setFld (CNV_STATUS.SUBMODE s) 0)
  else if sub ≠ 0 ∧ 2 * enter ≤ (dem.natAbs : Int) then c.setFld (CNV_STATUS.SUBMODE s) 0
  else match sub with
    | 0 => if below = 16 then (c.setFld (CNV_STATUS.SUBMODE s) 2).gatesOff s else c
    | 2 => if 10 * c.fld (CNV_BURST_CFG.BURST_BAND s) * 65536 ≤ err.natAbs then
        ((c.jrnSwitch s 1 5).setFld (CNV_STATUS.SUBMODE s) 3).modEng s fun x => { x with burst := 16 } else c
    | _ =>
      if x.burst ≤ 1 ∧ below = 16 then
        ((c.setFld (CNV_STATUS.SUBMODE s) 2).gatesOff s).modEng s fun x => { x with burst := 0 }
      else c.modEng s fun x => { x with burst := x.burst - 1 }

/-- The voltage loop at a precise sample of the regulated voltage (R216). -/
def Card.voltStep (c : Card) (s : Nat) (v : Int) : Card :=
  let mode := c.cnvMode s
  if !c.gating s ∨ mode = 0 then c
  else
    let x := c.eng s
    let slew := quot (c.fld (CNV_VLOOP_KI.SLEW s) * fx * 128) 10000
    let vref := toward x.vref (x.target * fx) slew
    let err := voltError mode v vref
    let rawI := if c.cnvSub s = 2 then x.iInt else x.iInt + c.kiTerm s err
    let i := clampInt x.lo x.hi rawI
    let rawD := i + c.kpTerm s err
    let d := clampInt x.lo x.hi rawD
    let c := if i ≠ rawI ∨ d ≠ rawD then c.stick (CNV_STICKY.PI_SAT s) else c
    let c := (c.modEng s fun x => { x with vref := vref, iInt := i, iDem := d }).showInt s
    let c := if c.cnvState s = 2 ∧ vref = x.target * fx then c.setFld (CNV_STATUS.STATE s) 3 else c
    (c.burstStep s err d).oscStep s err (10 * c.fld (CNV_OSC_CFG.OSC_AMP_V s) * fx)

/-- The engine's part of a precise sample, with its code and postmark. -/
def Card.preciseEngine (c : Card) (s j : Nat) (v : Int) (pm : Nat) : Card :=
  let top : Bool := if isVolt j then decide (v = 0 ∨ v = 262143) else decide (v = -131072 ∨ v = 131071)
  let c := ((c.gateTick s).capture s j false v pm).jrnPrecise s j v pm
  let c := c.modEng s fun e =>
    let a := e.sums.get (fun _ => (0, 0)) j
    { e with prec := e.prec.set (fun _ => 0) j v, sums := e.sums.set (fun _ => (0, 0)) j (a.1 + v, a.2 + 1)
             ends := if top then e.ends ||| 2 ^ j else e.ends
             last8 := if j = 6 then (v :: e.last8).take 8 else e.last8
             hist := if j = 6 then e.hist ++ [(pm, v)] else e.hist }
  if j = 6 then c.trimStep s v
  else if c.cnvMode s ≠ 0 ∧ j = regulated (c.cnvMode s) then c.voltStep s v
  else c

/-! ### The hand-over to the input window (R205) -/

/-- The current at an instant: between the two samples that bracket it. -/
def interpolate (l : List (Nat × Int)) (t : Nat) : Option Int :=
  match (l.filter fun x => decide (x.1 ≤ t)).getLast?, l.find? fun x => decide (t ≤ x.1) with
  | some a, some b => if a.1 = b.1 then some a.2 else some (a.2 + divRne ((b.2 - a.2) * (t - a.1)) (b.1 - a.1))
  | _, _ => none

/-- Values that samples give, and free values where no samples bracket an instant. -/
def Card.orFree (c : Card) (l : List (Option Int)) : List Int × Card :=
  l.foldl (fun st o =>
    match o with
    | some v => (st.1 ++ [v], st.2)
    | none =>
      let (n, c) := st.2.draw
      (st.1 ++ [signed 18 (Config.freeValue n).toNat], c)) ([], c)

/-- The sixteen codes of frame F − 1 with their instants, and the slot 0 mean of frame F, at the slot 3 boundary of F. -/
def Card.currentCodes (c : Card) (s : Nat) : List (Nat × Int) × Int × Card :=
  let e := c.eng s
  let ts := (List.range 16).map fun k => c.cnv.prevPm + 500 * c.fld (CHN_TIMING.SAMPLE_OFS s) + 62500 * k
  let lost := c.chanLost s 6
  let c := c.modEng s fun e => { e with gap := lost }
  if lost then
    let v : Int := if c.prec s 6 < 0 then -131072 else 131071
    (ts.map fun t => (t, v), v, c)
  else
    let (vs, c) := c.orFree (ts.map (interpolate e.hist))
    let in0 := (e.hist.filter fun x => decide (c.cnv.curPm ≤ x.1) && decide (x.1 < c.cnv.curPm + 125000)).map (·.2)
    let (m, c) := c.orFree [if in0 = [] then none else some (divRne (in0.foldl (· + ·) 0) in0.length)]
    (ts.zip vs, m.headD 0, c)

/-! ### Frame and slot work -/

/-- The regulation check of the frame that ended (R209). -/
def Card.checkRegulation (c : Card) (s : Nat) : Card :=
  let e := c.eng s
  let mean (j : Nat) : Option Int :=
    let a := e.sums.get (fun _ => (0, 0)) j
    if a.2 = 0 then none else some (quot (a.1 * fx) a.2)
  let mode := c.cnvMode s
  let ok := decide (c.cnvState s = 3 ∧ c.cnvSub s = 0 ∧ 2 ≤ e.still)
  let err : Option (Int × Int) :=
    if mode = 0 then
      match mean 6 with
      | some m => if e.refSum.2 = 0 then none
          else some (m - quot e.refSum.1 e.refSum.2, quot ((e.rating : Int) * fx) 2 + 50 * fx)
      | none => none
    else (mean (regulated mode)).map fun m => (m - e.vref, quot e.vref 1000 + 20 * fx)
  match err with
  | some (d, tol) =>
    if ok ∧ tol < (d.natAbs : Int) then
      let c := (c.count (CNV_REG_CNT.REG s)).stick (CNV_STICKY.REG_ERR s)
      let first := match e.regAt with
        | some f => decide (256 ≤ framesSince c.frame f)
        | none => true
      if first then (c.modEng s fun e => { e with regAt := some c.frame }).record 0x6010 [pN s, c.frame, p32 (quot d fx)]
      else c
    else c
  | none => c

/-- The band and the switching frequency of the frame that ended (R212). -/
def Card.adaptBand (c : Card) (s : Nat) : Card :=
  let ks := c.activePhases s
  let rises : Nat := (ks.map fun k => (c.phase s k).rises).foldl (fun (a b : Nat) => a + b) 0
  let n := c.phaseCount s
  let c := c.setFld (CNV_BAND_STAT.FREQ s) (min (quot rises n).toNat 255)
  let c := c.each ks fun c k => c.modPhase s k fun p => { p with rises := 0 }
  if !c.gating s ∨ c.cnvMode s ≠ 0 then c
  else
    let h := (c.eng s).band
    let want := if c.fld (CNV_BAND_CFG.F_MAX s) * n < rises then quot (h * 9) 8
      else if rises < c.fld (CNV_BAND_CFG.F_MIN s) * n then quot (h * 7) 8 else h
    let got := c.bandClamp s want
    let c := if got ≠ want then c.stick (CNV_STICKY.BAND_SAT s) else c
    (c.modEng s fun e => { e with band := got, bandUsed := some got }).showBand s

/-- Diode emulation is entered or left at a frame boundary (R215). -/
def Card.diode (c : Card) (s : Nat) : Card :=
  let e := c.eng s
  let de := c.fld (CNV_CUR_CFG.DE_ENTER s)
  let c := if !c.gating s ∨ c.cnvMode s ≠ 0 then c
    else if c.cnvSub s = 0 ∧ de ≠ 0 ∧ e.deBelow then
      (c.setFld (CNV_STATUS.SUBMODE s) 1).each (c.activePhases s) fun c k => c.modPhase s k fun p => { p with err := 0 }
    else if c.cnvSub s = 1 ∧ 2 * c.phaseCount s * de * 16 * 65536 < e.eff.natAbs then c.setFld (CNV_STATUS.SUBMODE s) 0
    else c
  c.modEng s fun e => { e with deBelow := c.belowDe s }

/-- The feed-forward check (R219). -/
def Card.checkFf (c : Card) (s : Nat) : Card :=
  let e := c.eng s
  if !ffValid e.ocv e.res then c
  else
    let ocv := c.ffTable s e.ocv
    let d := c.prec s 7 - ocv - quot (c.prec s 6 * c.ffTable s e.res) 100000
    let n := if ocv < 50 * (d.natAbs : Int) then min (e.ffMiss + 1) 17 else 0
    let c := c.modEng s fun e => { e with ffMiss := n }
    if n = 16 then (c.stick (CNV_STICKY.FF_MISMATCH s)).record 0x6012 [pN s, p32 d] else c

/-- CNV_MEAS of the frame that ended (R205). -/
def Card.latchMeans (c : Card) (s : Nat) : Card :=
  let e := c.eng s
  let put (c : Card) (f : Fld) (j : Nat) : Card :=
    let a := e.sums.get (fun _ => (0, 0)) j
    if a.2 = 0 then c else c.setSfld f (quot a.1 a.2)
  put (put (put c (CNV_MEAS_I.MEAS s) 6) (CNV_MEAS_V.MEAS s) 7) (CNV_MEAS_VBUS.MEAS s) 8

/-- A START_DELAY whose checks fail at a frame boundary ends (R206). -/
def Card.recheckStart (c : Card) (s : Nat) : Card :=
  if c.cnvState s ≠ 1 then c
  else match c.startCheck s with
    | none => c
    | some r =>
      let c := c.setFld (CNV_STATUS.STATE s) 0
      c.each (c.engOps s 0x60) fun c x => if x.2.phase = 1 then c.complete x.1 3 r else c

/-- RAMP_UP ends in RUN when I_eff has reached the setpoint, RAMP_DOWN in OFF after a frame at zero (R206). -/
def Card.endRamps (c : Card) (s : Nat) : Card :=
  let e := c.eng s
  if c.cnvState s = 2 ∧ c.cnvMode s = 0 ∧ e.eff = clampInt e.lo e.hi (c.accepted s) then c.setFld (CNV_STATUS.STATE s) 3
  else if c.cnvState s = 5 ∧ 1 ≤ e.zeroRun then c.engineOff s
  else c

/-- The captures at a frame boundary: they begin with a frame, and end after their last. -/
def Card.stepCaptures (c : Card) (s : Nat) : Card :=
  let caps := (c.eng s).caps.map fun k => if k.begun then { k with left := k.left - 1 } else { k with begun := true }
  let c := c.modEng s fun e => { e with caps := caps.filter (·.left ≠ 0) }
  let c := c.each caps fun c k => if k.left ≠ 0 then c.commit k.slot else c
  c.each (caps.filter (·.left = 0)) fun c k => c.doneWith k.slot ((c.descOf k.slot).at 8 8) (Card.captureBytes k)

/-- The feed-forward table of a string from its 306 words (R219). -/
def Card.putFf (c : Card) (s : Nat) (bs : List Byte) : Card :=
  let w (i : Nat) : Nat := leAt bs (4 * i) 4
  c.modEng s fun e => { e with ocv := (List.range 153).map w, res := (List.range 153).map fun i => w (153 + i) }

/-- The staged feed-forward tables are applied at a frame boundary (R219, R229). -/
def Card.applyFf (c : Card) : Card :=
  c.each c.running fun c x =>
    if x.2.opcode ≠ 0x64 ∨ x.2.produced then c
    else
      let d := x.2.desc
      let c := c.each (maskStrings (d.byte 0)) fun c s => (c.putFf s d.buf).setLive 2 s 0 (d.buf.take 1224)
      ((c.commit x.1).record 0x6013 [pN (d.byte 0), c.frame]).done x.1

/-- The engines' part of a frame boundary, once the new frame's postmark is known (R206). -/
def Card.cnvFrame (c : Card) : Card :=
  let c := { c with cnv.prevPm := c.cnv.curPm, cnv.curPm := c.tim.framePm }
  let c := c.each strings fun c s =>
    let c := (((c.latchMeans s).adaptBand s).checkRegulation s).diode s
    let c := (((c.checkFf s).recheckStart s).rampSetpoint s).endRamps s
    let c := (c.stepCaptures s).modEng s fun e =>
      { e with sums := [], refSum := (0, 0), phOc := 0, still := e.still + 1, endsPrev := e.ends, ends := 0
               oscPast := (e.oscNow :: e.oscPast).take 15, oscNow := 0
               hist := e.hist.filter fun x => decide (c.cnv.prevPm ≤ x.1 + 13000) }
    c
  let c := { c.applyFf with cnv.oldGains := c.cnv.gains, cnv.oldOfss := c.cnv.ofss }
  c.each (List.range 36) fun c ch => { c with
    cnv.gains := c.cnv.gains.set (fun _ => 0x20000) ch (c.fld (CNV_SENSE_GAIN.GAIN ch))
    cnv.ofss := c.cnv.ofss.set (fun _ => 0) ch (c.fld (CNV_SENSE_OFS.OFS ch)) }

/-- The engines' part of any slot boundary: writes to CNV_VCMD are applied (R206). -/
def Card.cnvSlot (c : Card) : Card :=
  c.each strings fun c s => c.modEng s fun e => { e with target := c.fld (CNV_VCMD.TARGET s) }

/-- The engines' part of a slot 6 boundary. -/
def Card.cnvSlot6 (c : Card) : Card := c.each strings fun c s => c.moveBounds s

/-- The CNV_SETPOINT operations of a string whose trigger has fired, or is due at this boundary. -/
def Card.dueSetpoints (c : Card) (s : Nat) : List (Nat × Op) :=
  (c.engOps s 0x63).filter fun x =>
    decide (x.2.phase = 1) || x.2.trig.any fun t => c.trigDue t && !(decide (t.kind = 2) && c.unqualified)

/-- CNV_SETPOINT operations whose trigger has fired are accepted at the slot 7 boundary; of several, the later-submitted
one (R229, R230). -/
def Card.takeSetpoints (c : Card) (s : Nat) : Card :=
  let ops := c.dueSetpoints s
  let last := ops.foldl (fun m x => max m x.2.order) 0
  let manual := c.bit (CNV_CTRL.MANUAL s)
  c.each ops fun c x =>
    if x.2.order ≠ last then c.complete x.1 3 0x6008
    else if c.cnvMode s ≠ 0 then c.complete x.1 9 0x6009
    else if !manual then c.complete x.1 3 0x600A
    else (c.commit x.1).modEng s fun e => { e with manSet := x.2.desc.signedAt 4 4 }

/-- The engines' part of a slot 7 boundary: setpoints (R207). -/
def Card.cnvSlot7 (c : Card) : Card :=
  c.each strings fun c s =>
    let c := (c.takeSetpoints s).acceptSetpoint s
    c.each (c.engOps s 0x63) fun c x =>
      if !x.2.committed then c
      else if c.accepted s ≠ x.2.desc.signedAt 4 4 * fx then c.complete x.1 1 0x600B else c.done x.1

/-! ### Host operations (R229 to R232) -/

/-- The RESERVED_FIELD check of the converter opcodes. -/
def cnvArgs (b : Bool) : Option (Nat × Nat) := if b then none else some (7, 0x6001)

/-- One of the opcodes is pending for the string before its commit point. -/
def Card.engBusy (c : Card) (s : Nat) (codes : List Nat) : Bool :=
  c.running.any fun x => codes.contains x.2.opcode && decide (x.2.desc.byte 0 = s) && !x.2.committed && !x.2.produced

/-- CNV_START. -/
def rowCnvStart : Row where
  opcode := 0x60
  role := 1
  args _ d := cnvArgs (d.only [(0, 2), (8, 8)] && stringOk d && decide (d.byte 1 ≤ 2) && !trigReserved (d.at 8 8))
  hold := true
  drain _ := true
  checks c d := if c.engBusy (d.byte 0) [0x60, 0x61, 0x62] then some (3, 0x6007, 0) else none
  trig d := some (d.at 8 8)
  start _ c := c
  fire slot c :=
    let d := c.descOf slot
    let s := d.byte 0
    if c.cnvState s ≠ 0 then c.complete slot 9 0x6009
    else match c.startCheck s with
      | some r => c.complete slot 3 r
      | none => ((c.setFld (CNV_STATUS.STATE s) 1).setFld (CNV_STATUS.MODE s) (d.byte 1)).setPhase slot 1

/-- The pending starts and hand-overs of a string are superseded by a stop (R230). -/
def Card.supersede (c : Card) (s : Nat) : Card :=
  c.each (c.engOps s 0x60 ++ c.engOps s 0x62) fun c x => if x.2.committed then c else c.complete x.1 3 0x6008

/-- CNV_STOP. -/
def rowCnvStop : Row where
  opcode := 0x61
  role := 1
  args _ d := cnvArgs (d.only [(0, 1), (8, 8)] && stringOk d && !trigReserved (d.at 8 8))
  checks c d := if c.engBusy (d.byte 0) [0x61] then some (3, 0x6007, 0) else none
  trig d := some (d.at 8 8)
  start _ c := c
  fire slot c :=
    let s := (c.descOf slot).byte 0
    let st := c.cnvState s
    let c := c.supersede s
    if st = 0 then (c.commit slot).done slot
    else if st = 6 then ((c.commit slot).setFld (CNV_STATUS.STATE s) 0).done slot
    else if st = 1 then ((c.commit slot).setFld (CNV_STATUS.STATE s) 0).done slot
    else
      let c := (c.commit slot).setPhase slot 1
      if st = 4 ∨ st = 5 then c else c.setFld (CNV_STATUS.STATE s) 4

/-- CNV_MODE. -/
def rowCnvMode : Row where
  opcode := 0x62
  role := 2
  args _ d := cnvArgs (d.only [(0, 2), (8, 8)] && stringOk d && decide (d.byte 1 ≤ 2) && !trigReserved (d.at 8 8))
  checks c d := if c.engBusy (d.byte 0) [0x60, 0x61, 0x62] then some (3, 0x6007, 0) else none
  trig d := some (d.at 8 8)
  start _ c := c
  fire slot c :=
    let d := c.descOf slot
    let s := d.byte 0
    let m := d.byte 1
    if c.cnvState s ≠ 3 ∨ c.cnvMode s = m then c.complete slot 9 0x6009
    else
      let c := c.commit slot
      if m = 0 then (c.toCurrent s).done slot
      else
        let (c, bumped) := c.toVoltage s m
        if bumped then c.complete slot 0 0x600C else c.done slot

/-- CNV_SETPOINT: the trigger's boundary, then the next slot 7 boundary. -/
def rowCnvSetpoint : Row where
  opcode := 0x63
  role := 2
  args _ d := cnvArgs (d.only [(0, 1), (4, 12)] && stringOk d && !trigReserved (d.at 8 8)
    && decide (-131072 ≤ d.signedAt 4 4) && decide (d.signedAt 4 4 ≤ 131071))
  trig d := some (d.at 8 8)
  start _ c := c
  fire slot c := c.setPhase slot 1

/-- CNV_FF_LOAD. -/
def rowCnvFfLoad : Row where
  opcode := 0x64
  role := 2
  args _ d := cnvArgs (d.only [(0, 1), (8, 8)] && maskOk d && wordsOk d 306)
  checks _ d :=
    let w (i : Nat) : Nat := leAt d.buf (4 * i) 4
    if ffValid ((List.range 153).map w) ((List.range 153).map fun i => w (153 + i)) then none else some (3, 0x600D, 0)
  start _ c := c

/-- CNV_CAPTURE: it begins at the next frame boundary. -/
def rowCnvCapture : Row where
  opcode := 0x65
  role := 1
  args _ d := cnvArgs (d.only [(0, 5), (8, 8)] && stringOk d && decide (d.byte 1 ≤ 1) && decide (1 ≤ d.at 2 2)
    && decide (d.at 2 2 ≤ 64) && decide (d.byte 4 ≤ 8))
  start slot c :=
    let d := c.descOf slot
    c.modEng (d.byte 0) fun e =>
      { e with caps := e.caps ++ [{ slot := slot, fast := decide (d.byte 1 = 1), chan := d.byte 4, left := d.at 2 2 }] }

/-- CNV_START (R229). -/
def execCnvStart (d : Desc) (s : State) : Host.Outcome State Fault Refusal := s.on fun c => c.accept rowCnvStart d
/-- CNV_STOP (R229). -/
def execCnvStop (d : Desc) (s : State) : Host.Outcome State Fault Refusal := s.on fun c => c.accept rowCnvStop d
/-- CNV_MODE (R229). -/
def execCnvMode (d : Desc) (s : State) : Host.Outcome State Fault Refusal := s.on fun c => c.accept rowCnvMode d
/-- CNV_SETPOINT (R229). -/
def execCnvSetpoint (d : Desc) (s : State) : Host.Outcome State Fault Refusal := s.on fun c => c.accept rowCnvSetpoint d
/-- CNV_FF_LOAD (R229). -/
def execCnvFfLoad (d : Desc) (s : State) : Host.Outcome State Fault Refusal := s.on fun c => c.accept rowCnvFfLoad d
/-- CNV_CAPTURE (R229). -/
def execCnvCapture (d : Desc) (s : State) : Host.Outcome State Fault Refusal := s.on fun c => c.accept rowCnvCapture d

end Sys2Proof.Machine
end

