-- ==== Sys2Proof/Machine/Saf.lean ====
section
/-! DEFINITION. The safety fabric (R263 to R284): causes and openings, the emergency stop, lock-out and release, closing
and opening sequences, weld checks and driver tests. -/

namespace Sys2Proof.Machine

/-- The fabric's record of a string. -/
def Card.safStr (c : Card) (s : Nat) : SafStr := c.saf.strs.get (fun _ => {}) s

/-- Changes the fabric's record of a string. -/
def Card.modSaf (c : Card) (s : Nat) (f : SafStr → SafStr) : Card :=
  { c with saf.strs := c.saf.strs.set (fun _ => {}) s (f (c.safStr s)) }

/-- SAF_STR_STATE.STATE: 0 OPEN, 1 CLOSE_NEG, 2 PRECHARGE, 3 TRANSFER, 4 CLOSED, 5 OPENING, 6 LOCKED. -/
def Card.safState (c : Card) (s : Nat) : Nat := c.fld (SAF_STR_STATE.STATE s)

/-- Sets SAF_STR_STATE.STATE. -/
def Card.setSafState (c : Card) (s v : Nat) : Card := c.setFld (SAF_STR_STATE.STATE s) v

/-! ### Coils and drivers (R263, R264) -/

/-- The high-side and low-side drivers of a coil: 0 PM, 1 NM, 2 PC. -/
def coilDrivers (coil : Nat) : Nat × Nat :=
  match coil with
  | 0 => (0, 2)
  | 1 => (1, 3)
  | _ => (0, 4)

/-- A coil is energised while its two drivers are on (R263). -/
def SafStr.coil (x : SafStr) (k : Nat) : Bool :=
  let d := coilDrivers k
  x.drivers.contains d.1 && x.drivers.contains d.2

/-- SAF_STR_STATE.COILS follows the drivers. -/
def Card.showCoils (c : Card) (s : Nat) : Card :=
  let x := c.safStr s
  let old := c.fld (SAF_STR_STATE.COILS s)
  let new := (if x.coil 0 then 1 else 0) + (if x.coil 1 then 2 else 0) + (if x.coil 2 then 4 else 0)
  (c.setFld (SAF_STR_STATE.COILS s) new).when (decide (old &&& new ≠ old)) (·.isolate s)

/-- Energises a coil at full duty. -/
def Card.energise (c : Card) (s coil : Nat) : Card :=
  let d := coilDrivers coil
  let c := c.modSaf s fun x => { x with drivers := x.drivers.filter (fun n => n ≠ d.1 ∧ n ≠ d.2) ++ [d.1, d.2] }
  c.showCoils s

/-- De-energises one coil in a sequence: its low-side driver, and its high-side driver where no other coil uses it. -/
def Card.dropCoil (c : Card) (s coil : Nat) : Card :=
  let d := coilDrivers coil
  let c := c.modSaf s fun x =>
    let left := x.drivers.filter (· ≠ d.2)
    let share := if coil = 0 then left.contains 4 else if coil = 2 then left.contains 2 else false
    { x with drivers := if share then left else left.filter (· ≠ d.1), held := x.held.filter (· ≠ coil) }
  c.showCoils s

/-- De-energises every coil of a string in one cycle. A weld check follows where PM or NM was energised, and a
learned-value commit where the string was CLOSED (R273, R276). -/
def Card.dropAll (c : Card) (s : Nat) : Card :=
  let x := c.safStr s
  let mains := x.coil 0 || x.coil 1
  let c := (c.modSaf s fun x => { x with drivers := [], held := [], offDue := false, wasClosed := false }).showCoils s
  let c := if mains then c.setFld (SAF_STR_STATE.WELD_PEND s) 1 else c
  if mains && x.wasClosed then c.wantCommit s 1 else c

/-- The |voltage| of a weld-sense sample in whole volts. -/
def voltsOf (v : Int) : Nat := (quot (v.natAbs : Int) 10).toNat

/-- SAF_WELD_V shows a pair of samples. -/
def Card.showWeldV (c : Card) (s : Nat) (vpm vnm : Int) : Card :=
  (c.setFld (SAF_WELD_V.PM s) (min (voltsOf vpm) 4095)).setFld (SAF_WELD_V.NM s) (min (voltsOf vnm) 4095)

/-! ### Openings by the fabric (R265) -/

/-- The fast-path string current lies beyond a threshold: 1 above OC_CHG, or below −OC_DIS; the code is in 160 mA. -/
def Card.overCurrent (c : Card) (s : Nat) (i : Int) : Bool :=
  decide (1000 * (c.fld (SAF_OC_CFG.OC_CHG s) : Int) < 160 * i)
    || decide (160 * i < -(1000 * (c.fld (SAF_OC_CFG.OC_DIS s) : Int)))

/-- Sets a cause bit of a string. -/
def Card.setCause (c : Card) (s bit : Nat) : Card := c.setFld ⟨SAF_LOCK_CAUSE s, bit, 1⟩ 1

/-- The operations that a fabric opening ends: a pending close or coil test, and an opening on request. -/
def Card.endSafOps (c : Card) (s : Nat) : Card :=
  c.each c.running fun c x =>
    if x.2.produced ∨ x.2.desc.byte 0 ≠ s then c
    else if x.2.opcode = 0x80 then c.complete x.1 3 0x8006
    else if x.2.opcode = 0x84 ∧ x.2.committed then c.complete x.1 3 0x8006
    else if x.2.opcode = 0x81 ∧ x.2.committed then c.complete x.1 3 0x8003
    else c

/-- A cause opens a string (R265): gates off, the coils with them or after OPEN_DELAY, lock-out, event 0x8001. A string
already LOCKED only gains the bit. -/
def Card.fabricOpen (c : Card) (s bit : Nat) (atOnce : Bool) : Card :=
  if c.safState s = 6 then
    let c := c.setCause s bit
    if atOnce && (c.safStr s).offDue then c.dropAll s else c
  else
    let closed := decide (c.safState s = 4)
    let c := (c.gatesOff s).engineTrip s 1
    let c := (c.setReg (SAF_LOCK_CAUSE s) 0).setCause s bit
    let c := c.recordStr s 0x8001 [pN s, pN (c.fld (SAF_LOCK_CAUSE.CAUSE s)), p32 (c.eng s).fastI]
    let c := ((c.stick SAF_STICKY.OPENED).count (SAF_OPEN_CNT.FABRIC s)).setSafState s 6
    let c := c.modSaf s fun x => { x with wasClosed := x.wasClosed || closed, offDue := true, lockAt := some c.tim.clock }
    let c := if atOnce then c.dropAll s else c
    let c := ((c.endSafOps s).loseModelOps s).loseChainOps s
    c.modSaf s fun x => { x with closeOp := none, openOps := [], testOp := none, underLoad := false }

/-- A cause opens every string. -/
def Card.fabricOpenAll (c : Card) (bit : Nat) (atOnce : Bool) : Card :=
  c.each strings fun c s => c.fabricOpen s bit atOnce

/-- Both lanes have failed. -/
def Card.lanesFailed (c : Card) : Bool := decide (c.fld LAN_STATUS.A_STATE = 6 ∧ c.fld LAN_STATUS.B_STATE = 6)

/-- Both faults of a DOUBLE_FAULT remain for the string (R27): the ring broken twice, both feeds lost, or both lanes
failed. -/
def Card.doubleFault (c : Card) (s : Nat) : Bool :=
  decide (c.fld (CHN_STATUS.RING_STATE s) = 3) || c.bit SYS_FEED_STAT.HOLDUP || c.lanesFailed

/-- CENSUS (R92 to R94, R461): `head` and `tail` are the entries of the census that left each port, in the order reached.
A ring found broken twice is a double fault (R27). -/
def execCensus (chain : Nat) (head tail : List CensusEntry) (s : State) : Host.Outcome State Fault Refusal :=
  s.on fun c =>
    let old := c.fld (CHN_STATUS.RING_STATE chain)
    let c := c.takeCensus chain head tail
    if chain ≠ 0 ∧ chain ≤ 4 ∧ old ≠ 3 ∧ c.fld (CHN_STATUS.RING_STATE chain) = 3 then c.fabricOpen chain 9 true else c

/-! ### The fault loop (R102) -/

/-- The verdict of two end codes: 0 WHOLE, 1 BROKEN, 2 TRIP. -/
def loopVerdict (h t : Nat) : Nat :=
  if h = 3 ∨ t = 3 ∨ h = 4 ∨ t = 4 ∨ (h = 0 ∧ t = 0) then 2
  else if h = 2 ∨ t = 2 ∨ h = 0 ∨ t = 0 then 1
  else 0

/-- LOOP_CODE_CHANGE (R102): an end of a string's loop reads another code, 0 SILENT to 4 INVALID as in CHN_LOOP. -/
def execLoopCodeChange (chain : Nat) (tailEnd : Bool) (code : Nat) (s : State) : Host.Outcome State Fault Refusal :=
  s.on fun c =>
    if chain = 0 ∨ 4 < chain ∨ 4 < code then c
    else
      let c := c.setFld (if tailEnd then CHN_LOOP.TAIL_CODE chain else CHN_LOOP.HEAD_CODE chain) code
      let c := c.jrnField (2 * (chain - 1) + (if tailEnd then 1 else 0)) code
      let h := c.fld (CHN_LOOP.HEAD_CODE chain)
      let t := c.fld (CHN_LOOP.TAIL_CODE chain)
      let old := c.fld (CHN_LOOP.VERDICT chain)
      let v := loopVerdict h t
      let c := c.setFld (CHN_LOOP.VERDICT chain) v
      if v = 1 ∧ old ≠ 1 then c.recordStr chain 0x200A [pN chain, pN h, pN t]
      else if v = 2 ∧ old ≠ 2 then c.fabricOpen chain 0 true
      else c

/-! ### Sense loss and over-current -/

/-- A sense channel is lost (R203, R227, R265). -/
def Card.loseChannel (c : Card) (ch : Nat) : Card :=
  let (s, j) := chanOf ch
  let c := (c.modEng s fun e => { e with lost := e.lost ||| 2 ^ j }).stick (CNV_STICKY.SENSE_LOST s)
  let c := c.record 0x6021 [pN ch, pN (c.cnvState s)]
  let c := if c.gating s ∧ (j = 6 ∨ j = 7 ∨ j < c.phaseCount s) then c.engineTrip s 2 else c
  if j = 6 ∧ c.fld (SAF_STR_STATE.COILS s) % 4 ≠ 0 then c.fabricOpen s 3 true else c

/-- SENSE_LOST (R203). -/
def execSenseLost (channel : Nat) (s : State) : Host.Outcome State Fault Refusal :=
  s.on fun c =>
    let (n, j) := chanOf channel
    if 36 ≤ channel ∨ (c.eng n).lost.testBit j then c else c.loseChannel channel

/-- The fabric's comparators at a fast string current sample (R265). -/
def Card.fabricCurrent (c : Card) (s : Nat) (i : Int) : Card :=
  let n := if c.overCurrent s i then min ((c.safStr s).oc + 1) 8 else 0
  let c := c.modSaf s fun x => { x with oc := n }
  if n = c.fld (SAF_OC_CFG.OC_N s) ∧ n ≠ 0 then (c.jrnSwitch s 1 4).fabricOpen s 2 true else c

/-- FAST_SAMPLE (R202, R210): `value` is the decimated value of the channel's fast path, normalised. A channel without a
modulator clock brings no sample. -/
def execFastSample (channel : Nat) (value : Int) (s : State) : Host.Outcome State Fault Refusal :=
  s.on fun c =>
    let (n, j) := chanOf channel
    if 36 ≤ channel ∨ !c.bit (CNV_SD_CFG.CLK_EN n) then c
    else
      let (raw, p) := c.preciseCode channel value (c.pm - 600)
      let c := if raw ≠ p then c.senseSat channel else c
      let c := c.modEng n fun e => { e with lost := e.lost - (if e.lost.testBit j then 2 ^ j else 0) }
      let i := fastCode (isVolt j) p
      let c := c.fastEngine n j i
      if j = 6 then c.fabricCurrent n i else c

/-! ### Emergency stop (R268, R269) -/

/-- Both channels read closed for 10 ms after a complete open period. -/
def Card.seqDone (c : Card) : Bool :=
  c.saf.openDone && (match c.saf.closedSince with | some t => decide (t + 10000000 ≤ c.tim.clock) | none => false)

/-- The open–close sequence ends: a discrepancy is no longer present, and the fabric leaves ARMING. -/
def Card.endSequence (c : Card) : Card :=
  let c := { c with saf.openDone := false, saf.closedSince := none, saf.disc := false }
  if c.bit SAF_STATUS.ARMED then c else (c.setFld SAF_STATUS.ARMED 1).record 0x8005 [c.frame]

/-- ESTOP_INPUT_CHANGE (R268): a filtered channel takes a level. -/
def execEstopInputChange (channelB closed : Bool) (s : State) : Host.Outcome State Fault Refusal :=
  s.on fun c =>
    let f := if channelB then SAF_STATUS.ESTOP_B else SAF_STATUS.ESTOP_A
    let c := if c.seqDone then c.endSequence else c
    if c.bit f = closed then c
    else
      let c := c.jrnField (if channelB then 9 else 8) (if closed then 1 else 0)
      let now := c.tim.clock
      let c := c.setBit f closed
      let a := c.bit SAF_STATUS.ESTOP_A
      let b := c.bit SAF_STATUS.ESTOP_B
      let done := c.saf.openDone || (match c.saf.openSince with | some t => decide (t + 10000000 ≤ now) | none => false)
      let c := { c with
        saf.openDone := done
        saf.openSince := if !a && !b then some now else none
        saf.closedSince := if a && b && done then some now else none }
      let c := match c.saf.diff with
        | some (t, la, lb) =>
          if a ≠ b then c
          else
            let c := { c with saf.diff := none }
            if c.fld SAF_INPUT_CFG.DISC_T * 1000000 < now - t then
              c.record 0x8006 [if la then 1 else 0, if lb then 1 else 0, pN (quot ((now - t : Nat) : Int) 1000000).toNat]
            else c
        | none => if a ≠ b then { c with saf.diff := some (now, a, b) } else c
      if closed then c else c.fabricOpenAll 4 true

/-- DISCREPANCY (R265, R268): the channels have differed for DISC_T. -/
def execDiscrepancy (s : State) : Host.Outcome State Fault Refusal :=
  s.on fun c => if c.saf.diff.isNone then c else { c with saf.disc := true }.fabricOpenAll 5 true

/-- FABRIC_ARMED (R269): the open–close sequence completes. -/
def execFabricArmed (s : State) : Host.Outcome State Fault Refusal :=
  s.on fun c => if c.saf.openDone && c.saf.closedSince.isSome then c.endSequence else c

/-! ### Reset edges (R270, R271) -/

/-- The causes of a string that are still present (R271), as a mask. -/
def Card.presentCauses (c : Card) (s : Nat) : Nat :=
  let bits := c.fld (SAF_LOCK_CAUSE.CAUSE s)
  let present (n : Nat) : Bool :=
    match n with
    | 0 => decide (c.fld (CHN_LOOP.VERDICT s) = 2)
    | 1 => (c.chain s).line
    | 2 => c.overCurrent s (c.eng s).fastI
    | 3 => c.chanLost s 6
    | 4 => !(c.bit SAF_STATUS.ESTOP_A && c.bit SAF_STATUS.ESTOP_B)
    | 5 => c.saf.disc
    | 6 => decide (c.saf.lh ≠ 0)
    | 7 => decide (c.fld SAF_DRV_FAULT.FAULT / 2 ^ (5 * (s - 1)) % 32 ≠ 0)
    | 8 => (c.safStr s).weldRec
    | 9 => c.doubleFault s
    | _ => false
  ((List.range 11).filter fun n => bits.testBit n && present n).foldl (fun m n => m + 2 ^ n) 0

/-- A reset edge (R271): every LOCKED string without a present cause is released. -/
def Card.resetEdge (c : Card) : Card :=
  let locked := strings.filter fun s => c.safState s = 6
  let free := locked.filter fun s => c.presentCauses s = 0
  let c := c.each (locked.filter fun s => c.presentCauses s ≠ 0) fun c s =>
    (c.stick SAF_STICKY.RESET_IGNORED).record 0x8003 [pN s, pN (c.presentCauses s)]
  let c := c.each free fun c s => (c.setSafState s 0).setReg (SAF_LOCK_CAUSE s) 0
  if free = [] then c else c.record 0x8002 [pN (free.foldl (fun m s => m + 2 ^ (s - 1)) 0)]

/-- RESET_IN_CHANGE (R270). -/
def execResetInChange (energised : Bool) (s : State) : Host.Outcome State Fault Refusal :=
  s.on fun c =>
    let c := if c.seqDone then c.endSequence else c
    let now := c.tim.clock
    if c.bit SAF_STATUS.RESET_IN = energised then c
    else
      let c := (c.setBit SAF_STATUS.RESET_IN energised).jrnField 10 (if energised then 1 else 0)
      if energised then
        let counts := !c.saf.needIdle || decide (c.saf.idleSince + 100000000 ≤ now)
        { c with saf.resetSince := some (now, c.frame), saf.resetCounts := counts, saf.stuck := false
                 saf.needIdle := c.saf.needIdle && !counts }
      else
        let dt := match c.saf.resetSince with
          | some (t, _) => now - t
          | none => 0
        let edge := c.saf.resetCounts && !c.saf.stuck && decide (100000000 ≤ dt) && decide (dt ≤ 5000000000)
        let c := { c with saf.resetSince := none, saf.idleSince := now, saf.needIdle := c.saf.needIdle || c.saf.stuck
                          saf.stuck := false }
        if edge then c.resetEdge else c

/-- RESET_STUCK (R270): an energisation reaches 5 s. -/
def execResetStuck (s : State) : Host.Outcome State Fault Refusal :=
  s.on fun c =>
    match c.saf.resetSince with
    | some (_, f) =>
      if c.saf.stuck then c
      else ({ c with saf.stuck := true }.stick SAF_STICKY.RESET_STUCK).record 0x8004 [f]
    | none => c

/-! ### Lane health (R266) -/

/-- The fabric counts a frame of the lane that is primary: `present` says that a lane is primary, `toggled` that its line
has toggled since the last boundary. -/
def Card.countHealth (c : Card) (present changed toggled : Bool) : Card :=
  let quiet := if present then 0 else min (c.saf.quiet + 1) 2000
  let watching := c.saf.watching || present || decide (2000 ≤ quiet)
  let lh := if !c.saf.watching || changed || toggled then 0 else min (c.saf.lh + 1) 15
  let c := { c with saf.quiet := quiet, saf.watching := watching, saf.lh := lh }
  c.setBit SAF_STATUS.LANE_OK (watching && decide (lh < c.fld SAF_INPUT_CFG.LH_LIMIT))

/-- LANE_HEALTH (R265, R266). -/
def execLaneHealth (s : State) : Host.Outcome State Fault Refusal :=
  s.on fun c =>
    if c.saf.watching && decide (c.fld SAF_INPUT_CFG.LH_LIMIT ≤ c.saf.lh) then c.fabricOpenAll 6 false else c

/-! ### Closing (R273, R274) -/

/-- The sequence of a close fails: OPENING, the coils off, SAF_CLOSE refused. -/
def Card.closeFails (c : Card) (s reason : Nat) : Card :=
  let c := match (c.safStr s).closeOp with
    | some slot => c.complete slot 3 reason
    | none => c
  ((c.modSaf s fun x => { x with closeOp := none }).setSafState s 5).dropAll s

/-- The two weld-sense channels of a string enter the journal (R378). -/
def Card.jrnWeld (c : Card) (s : Nat) (vpm vnm : Int) : Card :=
  (c.jrnField (9 + 2 * s) vpm).jrnField (10 + 2 * s) vnm

/-- WELD_SENSE_SAMPLE (R274): the voltages across PM and NM in units of 0.1 V; a sample can end PRECHARGE. -/
def execWeldSenseSample (string : Nat) (vpm vnm : Int) (s : State) : Host.Outcome State Fault Refusal :=
  s.on fun c =>
    if string = 0 ∨ 4 < string then c
    else
      let c := (c.modSaf string fun x => { x with vpm := vpm, vnm := vnm }).jrnWeld string vpm vnm
      let st := c.safState string
      let c := if 1 ≤ st ∧ st ≤ 4 then c.showWeldV string vpm vnm else c
      if st = 2 ∧ vpm.natAbs ≤ 10 * c.fld SAF_SEQ_CFG.PRE_DONE then
        ((c.energise string 0).setSafState string 3)
      else c

/-- The energised coils in pull-in duty, in the order in which the sequence energises them: NM, PC, PM. -/
def SafStr.pulling (x : SafStr) : List Nat := [1, 2, 0].filter fun k => x.coil k && !x.held.contains k

/-- T_CLOSE_ELAPSED (R263, R273): the coil that was energised first goes to hold duty; CLOSE_NEG ends with NM's. -/
def execTCloseElapsed (string : Nat) (s : State) : Host.Outcome State Fault Refusal :=
  s.on fun c =>
    if string = 0 ∨ 4 < string then c
    else match (c.safStr string).pulling with
      | [] => c
      | k :: _ =>
        let c := c.modSaf string fun x => { x with held := x.held ++ [k] }
        if c.safState string = 1 then (c.energise string 2).setSafState string 2 else c

/-- PRECHARGE_TIMEOUT (R273). -/
def execPrechargeTimeout (string : Nat) (s : State) : Host.Outcome State Fault Refusal :=
  s.on fun c =>
    if string = 0 ∨ 4 < string ∨ c.safState string ≠ 2 then c
    else ((c.stick SAF_STICKY.PRECHARGE_FAIL).record 0x8012
      [pN string, pN (voltsOf (c.safStr string).vpm)]).closeFails string 0x8007

/-- TRANSFER_ELAPSED (R273). -/
def execTransferElapsed (string : Nat) (s : State) : Host.Outcome State Fault Refusal :=
  s.on fun c =>
    if string = 0 ∨ 4 < string ∨ c.safState string ≠ 3 then c
    else
      let x := c.safStr string
      let lim := 10 * c.fld SAF_SEQ_CFG.CLOSED_V
      if x.vpm.natAbs ≤ lim ∧ x.vnm.natAbs ≤ lim then
        let ms := (quot ((c.tim.clock - x.seqAt : Nat) : Int) 1000000).toNat
        let c := ((c.dropCoil string 2).setSafState string 4).record 0x8010 [pN string, pN ms]
        let c := match x.closeOp with
          | some slot => c.done slot
          | none => c
        c.modSaf string fun x => { x with closeOp := none }
      else
        ((c.stick SAF_STICKY.PRECHARGE_FAIL).record 0x8013
          [pN string, pN (voltsOf x.vpm), pN (voltsOf x.vnm)]).closeFails string 0x8008

/-- TRANSFER_OVERLAP_LIMIT (R264): LS_PC turns off. -/
def execTransferOverlapLimit (string : Nat) (s : State) : Host.Outcome State Fault Refusal :=
  s.on fun c =>
    if string = 0 ∨ 4 < string ∨ c.safState string ≠ 3 then c else c.dropCoil string 2

/-! ### Opening (R267, R275) -/

/-- The coils of an orderly opening are de-energised; the opening counts as under load above I_BREAK. The string leaves
service, in a drain with its chain operations (R447). -/
def Card.breakCoils (c : Card) (s : Nat) : Card :=
  let i := (c.eng s).fastI
  let load := decide (1000 * c.fld SAF_SEQ_CFG.I_BREAK < 160 * i.natAbs)
  let c := (c.modSaf s fun x => { x with underLoad := load, openCode := i }).dropAll s
  let c := c.loseModelOps s
  let c := if c.draining then (c.loseChainOps s).loseEngineOps s else c
  if load then ((c.stick SAF_STICKY.UNDER_LOAD).count (SAF_OPEN_CNT.LOAD s)).record 0x8014 [pN s, p32 i] else c

/-- An orderly opening begins (R275). -/
def Card.orderlyOpen (c : Card) (s : Nat) : Card :=
  let closed := decide (c.safState s = 4)
  let c := (c.modSaf s fun x => { x with wasClosed := x.wasClosed || closed }).setSafState s 5
  if c.gating s then c.rampDown s else c.breakCoils s

/-- OPEN_WAIT_ELAPSED (R275): the engine has reached OFF, or OPEN_WAIT frames have passed. -/
def execOpenWaitElapsed (string : Nat) (s : State) : Host.Outcome State Fault Refusal :=
  s.on fun c =>
    if string = 0 ∨ 4 < string ∨ c.safState string ≠ 5 ∨ (c.safStr string).drivers = [] then c else c.breakCoils string

/-- OPEN_DELAY_ELAPSED (R265). -/
def execOpenDelayElapsed (string : Nat) (s : State) : Host.Outcome State Fault Refusal :=
  s.on fun c =>
    if string = 0 ∨ 4 < string ∨ c.safState string ≠ 6 ∨ !(c.safStr string).offDue then c else c.dropAll string

/-- The string is reported as not measured during a sequence: opened in the orderly way, with no lock-out (R267). -/
def Card.notMeasured (c : Card) (s : Nat) : Card :=
  let st := c.safState s
  if 1 ≤ st ∧ st ≤ 4 then
    let c := match (c.safStr s).closeOp with
      | some slot => c.complete slot 3 0x8005
      | none => c
    (c.modSaf s fun x => { x with closeOp := none }).orderlyOpen s
  else c

/-! ### Weld checks (R276) -/

/-- The sum of the accepted cell voltages of the frame, in volts. -/
def Card.cellSum (c : Card) (s : Nat) : Nat :=
  let v : Nat := (places.filter fun p => decide (p ≤ c.satCount s) && (c.sat s p).accepted).foldl
    (fun (a : Nat) p => a + (c.sat s p).volts.foldl (fun (x y : Nat) => x + y) 0) 0
  (quot (20 * (v : Int)) 1000000).toNat

/-- A weld check has ended without a weld: an opening ends, a coil test completes. -/
def Card.weldEnds (c : Card) (s : Nat) : Card :=
  let x := c.safStr s
  let c := match x.testOp with
    | some (slot, _) => c.done slot
    | none => c
  let c := c.modSaf s fun x => { x with testOp := none }
  if c.safState s ≠ 5 then c
  else
    let c := c.setSafState s 0
    let c := if x.openOps = [] then c else c.record 0x8011 [pN s, p32 x.openCode]
    let c := c.each x.openOps fun c slot => if x.underLoad then c.complete slot 0 0x800E else c.done slot
    c.modSaf s fun x => { x with openOps := [], underLoad := false }

/-- WELD_CHECK (R276): the voltages across PM and NM in units of 0.1 V, T_WELD after de-energisation. -/
def execWeldCheck (string : Nat) (vpm vnm : Int) (s : State) : Host.Outcome State Fault Refusal :=
  s.on fun c =>
    if string = 0 ∨ 4 < string ∨ !c.bit (SAF_STR_STATE.WELD_PEND string) then c
    else
      let w := c.fld SAF_WELD_CFG.WELD_V
      let sum := (c.safStr string).vch
      let c := (c.setFld (SAF_STR_STATE.WELD_PEND string) 0).showWeldV string vpm vnm
      let c := (c.modSaf string fun x => { x with vpm := vpm, vnm := vnm }).jrnWeld string vpm vnm
      if sum < 4 * w ∨ !c.bit (SAF_STR_STATE.MEASURED string) then
        ((c.stick SAF_STICKY.WELD_INCONCL).record 0x8021 [pN string, pN sum]).weldEnds string
      else
        let bad := [(0, vpm), (1, vnm)].filter fun x => x.2.natAbs < 10 * w
        if bad = [] then c.weldEnds string
        else
          let c := c.each bad fun c x => c.record 0x8020 [pN string, pN x.1, pN (voltsOf x.2), pN sum]
          (c.modSaf string fun x => { x with weldRec := true }).fabricOpen string 8 true

/-! ### Driver tests (R278) -/

/-- A driver fails its test (R278): kind 0 off-pulse, 1 on-pulse, 2 PWM edge. -/
def Card.driverFails (c : Card) (s d kind : Nat) : Card :=
  let c := c.setFld ⟨SAF_DRV_FAULT, 5 * (s - 1) + d, 1⟩ 1
  (c.record 0x8030 [pN s, pN d, pN kind]).fabricOpen s 7 true

/-- A low-side driver is in hold duty. -/
def SafStr.holds (x : SafStr) (d : Nat) : Bool :=
  x.held.any fun k => decide ((coilDrivers k).2 = d) && x.coil k

/-- A host test of a driver: the operation ends with its fifth. -/
def Card.hostTest (c : Card) (s d : Nat) (pass : Bool) (slot : Nat) : Card :=
  let x := c.safStr s
  if x.drvDone.contains d then c
  else
    let c := (c.commit slot).modSaf s fun x => { x with drvDone := x.drvDone ++ [d], drvBad := x.drvBad || !pass }
    if 5 ≤ (c.safStr s).drvDone.length then
      let bad := (c.safStr s).drvBad
      let c := c.modSaf s fun x => { x with drvOp := none, drvDone := [], drvBad := false }
      if bad then c.complete slot 0 0x8010 else c.done slot
    else c

/-- DRIVER_TEST (R278): a test of a driver in slot 7 of its frame, or for SAF_DRIVER_TEST. -/
def execDriverTest (string driver : Nat) (pass : Bool) (s : State) : Host.Outcome State Fault Refusal :=
  s.on fun c =>
    let x := c.safStr string
    let turn := decide (c.frame.toNat % 256 = 40 * (string - 1) + 8 * driver)
    if string = 0 ∨ 4 < string ∨ 5 ≤ driver ∨ c.tim.slot ≠ 7 ∨ (!turn ∧ x.drvOp.isNone) then c
    else
      let st := c.safState string
      if st = 1 ∨ st = 2 ∨ st = 3 ∨ st = 5 ∨ x.testOp.isSome then c.count SAF_TEST_CNT.SKIPPED
      else if x.holds driver ∧ x.drvOp.isNone then c
      else
        let kind := if x.drivers.contains driver then 0 else 1
        let c := c.count SAF_TEST_CNT.RUN
        let c := match x.drvOp with
          | some slot => c.hostTest string driver pass slot
          | none => c
        if pass then c else c.driverFails string driver kind

/-- HOLD_PWM_EDGE (R278): a low-side driver in hold duty is checked at an edge. -/
def execHoldPwmEdge (string driver : Nat) (pass : Bool) (s : State) : Host.Outcome State Fault Refusal :=
  s.on fun c =>
    if string = 0 ∨ 4 < string ∨ pass ∨ !(c.safStr string).holds driver then c else c.driverFails string driver 2

/-- COIL_TEST_END (R281): the coil has been energised for its duration. -/
def execCoilTestEnd (string : Nat) (s : State) : Host.Outcome State Fault Refusal :=
  s.on fun c =>
    match (c.safStr string).testOp with
    | none => c
    | some (slot, coil) =>
      if string = 0 ∨ 4 < string ∨ (c.safStr string).drivers = [] then c
      else
        let c := c.dropAll string
        if coil = 2 then (c.modSaf string fun x => { x with testOp := none }).done slot else c

/-! ### Slot and frame work -/

/-- What the chains pass to the fabric at a slot 3 boundary: the measured report, the limit-violation line and V_CH (R265,
R267, R276). -/
def Card.safSlot3 (c : Card) : Card :=
  c.each strings fun c s =>
    let measured := !c.bit (CHN_CTRL.MAINT s)
    let c := c.setBit (SAF_STR_STATE.MEASURED s) measured
    let c := if measured then c else c.notMeasured s
    let n := if (c.chain s).line then min ((c.safStr s).limitRun + 1) 5 else 0
    let c := c.modSaf s fun x => { x with limitRun := n }
    let c := c.modSaf s fun x => { x with vch := c.cellSum s }
    if c.fld SAF_INPUT_CFG.LIMIT_N + 1 ≤ n then c.fabricOpen s 1 false else c

/-- A slot boundary: an orderly opening whose engine has come to rest de-energises its coils (R275), and SAF_TRIP acts (R265,
R281). -/
def Card.safSlot (c : Card) : Card :=
  let c := c.each strings fun c s =>
    if c.safState s = 5 ∧ (c.safStr s).drivers ≠ [] ∧ !c.gating s then c.breakCoils s else c
  c.each c.running fun c x =>
    if x.2.opcode ≠ 0x82 ∨ x.2.produced then c
    else ((c.commit x.1).each (maskStrings (x.2.desc.byte 0)) fun c s => c.fabricOpen s 10 false).done x.1

/-! ### Host operations (R281 to R283) -/

/-- The RESERVED_FIELD check of the safety opcodes. -/
def safArgs (b : Bool) : Option (Nat × Nat) := if b then none else some (7, 0x8001)

/-- A close, an opening or a coil test of the string is pending before its commit point. -/
def Card.safBusy (c : Card) (s : Nat) (codes : List Nat) : Bool :=
  c.running.any fun x => codes.contains x.2.opcode && decide (x.2.desc.byte 0 = s) && !x.2.committed && !x.2.produced

/-- SAF_CLOSE. -/
def rowSafClose : Row where
  opcode := 0x80
  role := 1
  args _ d := safArgs (d.only [(0, 1), (8, 8)] && stringOk d && !trigReserved (d.at 8 8))
  hold := true
  drain _ := true
  checks c d := if c.safBusy (d.byte 0) [0x80, 0x81, 0x84] then some (3, 0x800A, 0) else none
  trig d := some (d.at 8 8)
  start _ c := c
  fire slot c :=
    let s := (c.descOf slot).byte 0
    let st := c.safState s
    if st = 4 then (c.commit slot).done slot
    else if st ≠ 0 ∧ st ≠ 6 then c.complete slot 9 0x800F
    else if !c.bit SAF_STATUS.ARMED then c.complete slot 3 0x8002
    else if st = 6 then c.complete slot 3 (if (c.safStr s).lockAt = some c.tim.clock then 0x8006 else 0x8003)
    else if (c.safStr s).testOp.isSome then c.complete slot 3 0x800A
    else if c.fld (CHN_LOOP.VERDICT s) = 2 then c.complete slot 3 0x8004
    else if c.bit (CHN_CTRL.MAINT s) then c.complete slot 3 0x8005
    else if c.fld SAF_DRV_FAULT.FAULT / 2 ^ (5 * (s - 1)) % 32 ≠ 0 then c.complete slot 3 0x800C
    else
      let c := (c.commit slot).modSaf s fun x => { x with closeOp := some slot, seqAt := c.tim.clock }
      (c.energise s 1).setSafState s 1

/-- A SAF_CLOSE that is pending or running is superseded by an opening. -/
def Card.supersedeClose (c : Card) (s : Nat) : Card :=
  let c := c.each c.running fun c x =>
    if x.2.opcode = 0x80 ∧ x.2.desc.byte 0 = s ∧ !x.2.produced then c.complete x.1 3 0x800B else c
  c.modSaf s fun x => { x with closeOp := none }

/-- SAF_OPEN. -/
def rowSafOpen : Row where
  opcode := 0x81
  role := 1
  args _ d := safArgs (d.only [(0, 1), (8, 8)] && stringOk d && !trigReserved (d.at 8 8))
  checks c d := if c.safBusy (d.byte 0) [0x81, 0x84] then some (3, 0x800A, 0) else none
  trig d := some (d.at 8 8)
  start _ c := c
  fire slot c :=
    let s := (c.descOf slot).byte 0
    let c := c.supersedeClose s
    let st := c.safState s
    if st = 0 then (c.commit slot).done slot
    else if st = 6 then c.complete slot 3 0x8003
    else
      let c := (c.commit slot).modSaf s fun x => { x with openOps := x.openOps ++ [slot] }
      if st = 5 then c else c.orderlyOpen s

/-- SAF_TRIP. -/
def rowSafTrip : Row where
  opcode := 0x82
  role := 1
  args _ d := safArgs (d.only [(0, 1)] && maskOk d)
  start _ c := c

/-- SAF_DRIVER_TEST. -/
def rowSafDriverTest : Row where
  opcode := 0x83
  role := 2
  args _ d := safArgs (d.only [(0, 1)] && stringOk d)
  checks c d :=
    let st := c.safState (d.byte 0)
    if st ≠ 0 ∧ st ≠ 4 ∧ st ≠ 6 then some (9, 0x800F, 0)
    else if (c.safStr (d.byte 0)).drvOp.isSome then some (3, 0x800A, 0) else none
  start slot c := c.modSaf ((c.descOf slot).byte 0) fun x => { x with drvOp := some slot, drvDone := [], drvBad := false }

/-- SAF_COIL_TEST. -/
def rowSafCoilTest : Row where
  opcode := 0x84
  role := 2
  args _ d := safArgs (d.only [(0, 4)] && stringOk d && decide (d.byte 1 ≤ 2) && decide (10 ≤ d.at 2 2)
    && decide (d.at 2 2 ≤ 1000))
  checks c d :=
    let s := d.byte 0
    let x := c.safStr s
    match x.testOp with
    | some (_, k) => if (k = 0 ∧ d.byte 1 = 2) ∨ (k = 2 ∧ d.byte 1 = 0) then some (3, 0x8009, 0) else some (3, 0x800A, 0)
    | none =>
      if c.safState s ≠ 0 ∨ c.bit (SAF_STR_STATE.WELD_PEND s) then some (9, 0x800F, 0)
      else if !c.bit SAF_STATUS.ARMED then some (3, 0x8002, 0)
      else if c.safBusy s [0x80, 0x81] then some (3, 0x800A, 0) else none
  start slot c :=
    let d := c.descOf slot
    ((c.commit slot).modSaf (d.byte 0) fun x => { x with testOp := some (slot, d.byte 1) }).energise (d.byte 0) (d.byte 1)

/-- The fault records of a string: bit 0 WELDED, bit 1 DRIVER. -/
def Card.faultRecords (c : Card) (s : Nat) : Nat :=
  (if (c.safStr s).weldRec then 1 else 0) + (if c.fld SAF_DRV_FAULT.FAULT / 2 ^ (5 * (s - 1)) % 32 ≠ 0 then 2 else 0)

/-- SAF_FAULT_CLEAR. -/
def rowSafFaultClear : Row where
  opcode := 0x85
  role := 3
  args _ d := safArgs (d.only [(0, 2)] && stringOk d && decide (d.byte 1 ≤ 3))
  checks c d := if d.byte 1 &&& c.faultRecords (d.byte 0) = 0 then some (3, 0x800D, 0) else none
  start slot c :=
    let d := c.descOf slot
    let s := d.byte 0
    let m := d.byte 1 &&& c.faultRecords s
    let c := c.commit slot
    let c := if m.testBit 0 then c.modSaf s fun x => { x with weldRec := false } else c
    let c := if m.testBit 1 then c.setFld ⟨SAF_DRV_FAULT, 5 * (s - 1), 5⟩ 0 else c
    (c.record 0x8031 [pN s, pN m]).done slot

/-- SAF_CLOSE (R281). -/
def execSafClose (d : Desc) (s : State) : Host.Outcome State Fault Refusal := s.on fun c => c.accept rowSafClose d
/-- SAF_OPEN (R281). -/
def execSafOpen (d : Desc) (s : State) : Host.Outcome State Fault Refusal := s.on fun c => c.accept rowSafOpen d
/-- SAF_TRIP (R281). -/
def execSafTrip (d : Desc) (s : State) : Host.Outcome State Fault Refusal := s.on fun c => c.accept rowSafTrip d
/-- SAF_DRIVER_TEST (R281). -/
def execSafDriverTest (d : Desc) (s : State) : Host.Outcome State Fault Refusal := s.on fun c => c.accept rowSafDriverTest d
/-- SAF_COIL_TEST (R281). -/
def execSafCoilTest (d : Desc) (s : State) : Host.Outcome State Fault Refusal := s.on fun c => c.accept rowSafCoilTest d
/-- SAF_FAULT_CLEAR (R281). -/
def execSafFaultClear (d : Desc) (s : State) : Host.Outcome State Fault Refusal := s.on fun c => c.accept rowSafFaultClear d

end Sys2Proof.Machine
end

