-- ==== Sys2Proof/Machine/Dsp.lean ====
section
/-! DEFINITION. The dispatcher: the request table, eligibility and bounds, serving under overload, outcomes, allocation
and setpoints (chapter 9, R234 to R252). -/

namespace Sys2Proof.Machine

/-! ### The request table (R234 to R238) -/

/-- The request in an entry of the table. -/
def Card.entry (c : Card) (e : Nat) : Option DspReq := c.dsp.entries.get (fun _ => none) e

/-- Places or removes a request. -/
def Card.putRequest (c : Card) (e : Nat) (r : Option DspReq) : Card :=
  { c with dsp.entries := c.dsp.entries.set (fun _ => none) e r }

/-- The requests held, by entry. -/
def Card.requests (c : Card) : List (Nat × DspReq) := c.dsp.entries.filterMap fun x => x.2.map fun r => (x.1, r)

/-- DSP_STATUS shows the requests held and waiting. -/
def Card.showRequests (c : Card) : Card :=
  let l := c.requests
  (c.setFld DSP_STATUS.ENTRIES l.length).setFld DSP_STATUS.WAITING (l.filter fun x => x.2.state == 2).length

/-- The source code of the host (R260). -/
def hostSource : Nat := 2 ^ 31

/-- The lowest free entry open to a class: entries 0 to 31 are kept for reserve requests (R237). -/
def Card.freeEntry (c : Card) (cls : Nat) : Option Nat :=
  (List.range 256).find? fun e => (c.entry e).isNone && (decide (cls = 0) || decide (32 ≤ e))

/-- A DISPATCH_NOTICE to a plant node (R327). The key slot of its AUTH is a free value. -/
def Card.notice (c : Card) (port source id cls status reason : Nat) (served : Int) : Card :=
  let (n, c) := c.draw
  c.sendPlant port 3 source ((Config.freeValue n).toNat % 8)
    (le 2 id ++ le 1 cls ++ le 1 status ++ le 2 reason ++ le 2 0 ++ le 4 (code 32 served) ++ le 4 c.frame.toNat)

/-- The counter of an outcome (R246). -/
def Card.countOutcome (c : Card) (status : Nat) : Card :=
  match status with
  | 0 => c.count DSP_OUTCOME_CNT.DONE
  | 1 => c.count DSP_OUTCOME_CNT.CLIPPED
  | 2 => c.count DSP_OUTCOME_CNT.DEFERRED
  | 3 => c.count DSP_OUTCOME_CNT.REFUSED
  | _ => c

/-- What every refused request leaves: the flag and event 0x7003. -/
def Card.refusedRequest (c : Card) (id cls reason : Nat) (asked : Int) : Card :=
  (c.stick DSP_STICKY.REFUSED).record 0x7003 [pN id, pN cls, pN reason, p32 asked]

/-- A request's operation completes, once: the host's completion, or the node's notice (R246, R328). -/
def Card.endRequest (c : Card) (r : DspReq) (status reason : Nat) (served : Int) : Card :=
  if !r.open' then c
  else
    let c := c.countOutcome status
    let c := if status = 3 then c.refusedRequest r.id r.cls reason r.asked else c
    match r.slot with
    | some slot => c.complete slot status reason (p32 served)
    | none => if r.source = hostSource then c else c.notice r.port r.source r.id r.cls status reason served

/-- Removes requests; those whose operation has not completed complete REFUSED with a reason. -/
def Card.dropRequests (c : Card) (l : List (Nat × DspReq)) (reason : Nat) : Card :=
  (c.each l fun c x => (c.putRequest x.1 none).endRequest x.2 3 reason 0).showRequests

/-- The request of a withdrawn host operation leaves the table. -/
def Card.withdrawRequest (c : Card) (slot : Nat) : Card :=
  (c.each (c.requests.filter fun x => x.2.slot == some slot) fun c x => c.putRequest x.1 none).showRequests

/-- The RESERVED_FIELD check of DSP_REQUEST's body (R44, R235, R260). -/
def requestBad (d : Desc) : Bool :=
  !d.only [(0, 21), (22, 2)] || decide (2 < d.byte 0) || decide (1 < d.byte 1) || decide (d.at 4 4 = 0)
    || decide (d.at 16 4 = 0) || trigReserved (d.at 8 8)

/-- The first refusal of a request at acceptance (R361, R261, R50). -/
def Card.requestRefusal (c : Card) (source : Nat) (d : Desc) : Option Nat :=
  let held := c.requests.any fun x => x.2.source == source && x.2.id == d.at 2 2
  if c.holding then some 0xB0F0
  else if !c.bit DSP_CTRL.EN then some 0x7002
  else if d.byte 0 = 2 ∧ !c.bit DSP_CTRL.OPP_EN then some 0x7003
  else if held ∧ d.byte 1 % 2 = 0 then some 0x7004
  else if (c.freeEntry (d.byte 0)).isNone then some 0x7005
  else (c.trigCheck c.opTriggers (d.at 8 8)).map fun e => e.2

/-- A request is checked and takes its entry, or is refused. -/
def Card.takeRequest (c : Card) (source : Nat) (slot : Option Nat) (port : Nat) (d : Desc) : Card :=
  let r : DspReq := {
    source := source, id := d.at 2 2, cls := d.byte 0, replace := decide (d.byte 1 % 2 = 1), asked := d.signedAt 4 4
    duration := d.at 16 4, minFrac := d.byte 20, maxDefer := 100 * d.at 22 2
    trig := { kind := trigKind (d.at 8 8), at' := trigWhen (d.at 8 8) }, order := c.dsp.order, slot := slot, port := port }
  match c.requestRefusal source d with
  | some reason => (c.when (reason = 0x7005) fun c => c.stick DSP_STICKY.TABLE_FULL).endRequest r 3 reason 0
  | none =>
    match c.freeEntry r.cls with
    | none => c
    | some e =>
      let c := { c with dsp.order := c.dsp.order + 1 }.putRequest e (some r)
      let c := match slot with
        | some n => c.modOp n fun o => { o with trig := some r.trig }
        | none => c
      c.showRequests

/-- DSP_REQUEST (0x70). Its trigger's firing marks the request for decision at the next slot 6 boundary (R238). -/
def rowDspRequest : Row where
  opcode := 0x70
  role := 1
  args _ d := if requestBad d then some (7, 0x7001) else none
  start slot c := c.takeRequest hostSource (some slot) 0 (c.descOf slot)
  fire slot c := c.each (c.requests.filter fun x => x.2.slot == some slot) fun c x =>
    c.putRequest x.1 (some { x.2 with fired := true })
  slots n := decide (n = 6)

/-- DSP_REQUEST. -/
def execDspRequest (d : Desc) (s : State) : Host.Outcome State Fault Refusal := s.on fun c => c.accept rowDspRequest d

/-- DISPATCH_REQUEST (R328): checked and served exactly as DSP_REQUEST, with SRC as its source. -/
def execDispatchRequest (e : Envelope) (s : State) : Host.Outcome State Fault Refusal :=
  s.on fun c => c.plantMessage 1 e fun c =>
    let d : Desc := { area := BitVec.ofNat 384 (fromLe e.body) }
    let src := e.src.toNat
    let bad (status reason : Nat) := c.notice e.port src (d.at 2 2) (d.byte 0) status reason 0
    if requestBad d then bad 7 0x7001
    else if c.rcd.replay then bad 3 0xC00D
    else if c.lan.recovery then bad 3 0xB015
    else c.takeRequest src none e.port d

/-! ### Cancels (R260) -/

/-- Applies a cancel of a key at a slot 6 boundary; whether a request was held. A running request of a plant node is
told with a notice of reason CANCELLED. -/
def Card.cancelKey (c : Card) (source id : Nat) : Bool × Card :=
  let l := c.requests.filter fun x => x.2.source == source && x.2.id == id
  let c := c.dropRequests l 0x7007
  (decide (l ≠ []), c.each l fun c x =>
    if x.2.open' ∨ x.2.source = hostSource then c else c.notice x.2.port source id x.2.cls 3 0x7007 0)

/-- DSP_CANCEL (0x71). -/
def rowDspCancel : Row where
  opcode := 0x71
  role := 1
  args _ d := if d.only [(0, 6)] && (decide (d.at 0 4 = hostSource) || decide (d.at 0 4 < 2 ^ 18)) then none
    else some (7, 0x7001)
  start _ c := c

/-- DSP_CANCEL. -/
def execDspCancel (d : Desc) (s : State) : Host.Outcome State Fault Refusal := s.on fun c => c.accept rowDspCancel d

/-- DISPATCH_CANCEL (R328): acts as DSP_CANCEL for the key (SRC, request ID). -/
def execDispatchCancel (e : Envelope) (s : State) : Host.Outcome State Fault Refusal :=
  s.on fun c => c.plantMessage 2 e fun c =>
    { c with dsp.cancels := c.dsp.cancels ++ [(e.src.toNat, leAt e.body 0 2, e.port)] }

/-- The cancels of a slot 6 boundary, the host's and the plant's. -/
def Card.applyCancels (c : Card) : Card :=
  let ops := c.running.filter fun x => decide (x.2.opcode = 0x71) && !x.2.produced
  let c := c.each ops fun c x =>
    let r := (c.commit x.1).cancelKey (x.2.desc.at 0 4) (x.2.desc.at 4 2)
    if r.1 then r.2.done x.1 else r.2.complete x.1 3 0x7008
  let c := c.each c.dsp.cancels fun c x =>
    let r := c.cancelKey x.1 x.2.1
    if r.1 then r.2 else r.2.notice x.2.2 x.1 x.2.1 0 3 0x7008 0
  { c with dsp.cancels := [] }

/-! ### Eligible strings and bounds (R239 to R241) -/

/-- Why a string is not eligible: 0 contactor, 1 engine, 2 STRING_EN or MANUAL; `none` when it is (R239). -/
def Card.ineligible (c : Card) (s : Nat) : Option Nat :=
  if c.fld (SAF_STR_STATE.COILS s) % 4 ≠ 3 then some 0
  else if c.cnvState s ≠ 3 ∨ c.cnvMode s ≠ 0 then some 1
  else if !(c.fld DSP_CTRL.STRING_EN).testBit (s - 1) ∨ c.bit (CNV_CTRL.MANUAL s) then some 2
  else none

/-- The strings that the dispatcher holds eligible. -/
def Card.eligible (c : Card) : List Nat := strings.filter fun s => decide (c.dsp.joined.get (fun _ => 0) s ≠ 0)

/-- The string's voltage V_s, in units of 10 mV. -/
def Card.measV (c : Card) (s : Nat) : Nat := c.fld (CNV_MEAS_V.MEAS s)

/-- Strings join and leave dispatch at a slot 6 boundary; the strings that leave (R251). -/
def Card.updateEligible (c : Card) : List Nat × Card :=
  let left := c.eligible.filter fun s => (c.ineligible s).isSome
  let c := c.each strings fun c s =>
    let k := c.dsp.joined.get (fun _ => 0) s
    let put (c : Card) (n : Nat) : Card := { c with dsp.joined := c.dsp.joined.set (fun _ => 0) s n }
    match c.ineligible s with
    | none => (put c (k + 1)).when (k = 0) fun c => c.record 0x7006 [pN s]
    | some cause => if k = 0 then c else (put c 0).recordStr s 0x7005 [pN s, pN cause]
  (left, c.setFld DSP_STATUS.ELIGIBLE (c.eligible.foldl (fun (a s : Nat) => a + 2 ^ (s - 1)) 0))

/-- B_s(D) and its kind in a direction (0 charge, 1 discharge): the least of the limits that D brings in, a shorter
horizon deciding a tie (R240), reduced while the string joins (R241). -/
def Card.bound (c : Card) (dir d s : Nat) : Nat × Nat :=
  let la := if c.bit (EST_STATUS.LA_VALID s) && c.bit EST_CTRL.LA_EN then 3 else 4
  let terms := [(c.powerLimit s dir, 0)]
    ++ (if 1000 < d then [(c.powerLimit s (2 + dir), 1)] else [])
    ++ (if 10000 < d then [(c.powerLimit s (4 + dir), 2)] else [])
    ++ (if 60000 < d then [(c.laBound s dir, la)] else [])
  let least := terms.foldl (fun (a b : Nat × Nat) => if b.1 < a.1 then b else a) (c.powerLimit s dir, 0)
  let k := c.dsp.joined.get (fun _ => 0) s
  let join := (quot (k * c.fld (CNV_RAMP.START_RAMP s) * c.measV s) 1000).toNat
  (if k = 0 then least.1 else min least.1 join, least.2)

/-! ### Serving (R242 to R245) -/

/-- A share of power: the request's entry, whether it runs, and the W asked and MIN_FRAC. -/
abbrev Ask := Nat × DspReq

/-- The W that a request asks, without its sign. -/
def DspReq.want (r : DspReq) : Nat := r.asked.natAbs

/-- The requests' asked power together. -/
def wanted (l : List Ask) : Nat := l.foldl (fun (a : Nat) (x : Ask) => a + x.2.want) 0

/-- Proportional shares in whole watts, the leftover watts one by one in arrival order (R243). -/
def shares (avail : Nat) (l : List Ask) : List (Nat × Nat) :=
  let sum := wanted l
  let base := l.map fun x => (x.1, if sum = 0 then 0 else x.2.want * avail / sum)
  let left := avail - base.foldl (fun (a : Nat) (x : Nat × Nat) => a + x.2) 0
  base.zipIdx.map fun x => (x.1.1, x.1.2 + (if x.2 < left then 1 else 0))

/-- A request not yet running that its share leaves out (R243). -/
def leftOut (r : DspReq) (served : Nat) : Bool :=
  decide (r.state ≠ 3) && (decide (served = 0) || decide (256 * served < r.want * r.minFrac))

/-- Serves the requests of a class within `avail`: entries and W (R243). -/
def serveClass (fuel avail : Nat) (l : List Ask) : List (Nat × Nat) :=
  match fuel with
  | 0 => []
  | n + 1 =>
    if wanted l ≤ avail then l.map fun x => (x.1, x.2.want)
    else
      let sh := shares avail l
      let bad := l.filter fun x => sh.any fun y => decide (y.1 = x.1) && leftOut x.2 y.2
      if bad = [] then sh else serveClass n avail (l.filter fun x => !bad.any fun y => decide (y.1 = x.1))

/-- What one class got in a direction: the bounds of the strings, its shares, and what R245 asks of it. -/
structure Pass where
  cls : Nat
  bounds : List (Nat × Nat × Nat)
  served : List (Nat × Nat)
  reason : Nat
deriving DecidableEq, Repr

/-- Frames that a request has left to run: its full DURATION before admission (R238, R242). -/
def Card.remaining (c : Card) (r : DspReq) : Nat :=
  if r.duration = 0xFFFFFFFF then r.duration
  else if r.state = 3 then r.duration - framesSince c.frame r.admitted
  else r.duration

/-- The bound kind shared by the most strings, the lowest-numbered string deciding a tie; NO_STRING without one. -/
def commonKind (bounds : List (Nat × Nat × Nat)) : Nat :=
  let count (k : Nat) := (bounds.filter fun x => x.2.2 == k).length
  (bounds.foldl (fun (a : Nat × Nat) x => if a.2 < count x.2.2 then (x.2.2, count x.2.2) else a) (8, 0)).1

/-- Serves a direction, class after class, for the requests in play (R242, R245). -/
def Card.serveDir (c : Card) (elig : List Nat) (play : List Ask) (dir : Nat) : List Pass :=
  let mine := play.filter fun x => decide ((x.2.asked < 0) = (dir = 1))
  let total (p : Pass) : Nat := p.served.foldl (fun (a : Nat) (x : Nat × Nat) => a + x.2) 0
  let max := 1000 * (if dir = 0 then c.fld DSP_MODULE_MAX.CHG else c.fld DSP_MODULE_MAX.DIS)
  let res := 1000 * (if dir = 0 then c.fld DSP_RES_HOLD.CHG else c.fld DSP_RES_HOLD.DIS)
  [0, 1, 2].foldl (fun (ps : List Pass) cls =>
    let d := (mine.filter fun x => decide (x.2.cls ≤ cls)).foldl (fun (a : Nat) x => Nat.max a (c.remaining x.2)) 0
    let bounds := elig.map fun s => (s, c.bound dir d s)
    let sum := bounds.foldl (fun (a : Nat) x => a + x.2.1) 0
    let capped := decide (max ≠ 0) && decide (max < sum)
    let used := ps.foldl (fun (a : Nat) p => a + total p) 0
    let hold := if cls = 0 then 0 else res - (ps.head?.map total).getD 0
    let l := mine.filter fun x => decide (x.2.cls = cls)
    let avail := (if capped then max else sum) - used - hold
    let reason := if capped then 7 else if hold ≠ 0 then 5 else if used ≠ 0 then 6 else commonKind bounds
    ps ++ [{ cls := cls, bounds := bounds, served := serveClass (l.length + 1) avail l, reason := reason }]) []

/-- Both directions. -/
def Card.serve (c : Card) (elig : List Nat) (play : List Ask) : List Pass × List Pass :=
  (c.serveDir elig play 0, c.serveDir elig play 1)

/-- The W that a request is served, and the bound of its class. -/
def grant (p : List Pass × List Pass) (x : Ask) : Option Nat × Nat :=
  let ps := if x.2.asked < 0 then p.2 else p.1
  match ps.find? fun y => y.cls == x.2.cls with
  | some y => ((y.served.find? fun z => z.1 == x.1).map (·.2), y.reason)
  | none => (none, 8)

/-- A request takes the place of the held requests of its key at its own admission (R236). -/
def displaces (new old : Ask) : Bool :=
  new.2.replace && new.2.state != 3 && new.1 != old.1 && new.2.source == old.2.source && new.2.id == old.2.id
    && (decide (old.2.order < new.2.order) || old.2.state == 3)

/-- Serves with every replacing request in its predecessor's place; a replacing request that is left out stays out, and
its predecessor is served. The result, and the requests in play. -/
def Card.serveReplacing (c : Card) (fuel : Nat) (elig : List Nat) (all : List Ask) (out : List Nat) :
    (List Pass × List Pass) × List Ask :=
  let news := all.filter fun x => x.2.replace && x.2.state != 3 && !out.contains x.1
  let play := all.filter fun x => !out.contains x.1 && !news.any fun n => displaces n x
  let p := c.serve elig play
  match fuel with
  | 0 => (p, play)
  | n + 1 =>
    let lost := news.filter fun x => all.any (displaces x) && (grant p x).1.isNone
    if lost = [] then (p, play) else c.serveReplacing n elig all (out ++ lost.map (·.1))

/-! ### Allocation (R249 to R251) -/

/-- Fixes at their caps the strings whose weighted share exceeds it, and shares the rest among the others, until no share
exceeds its cap: string, weight, cap. -/
def fixCaps (fuel p : Nat) (l : List (Nat × Nat × Nat)) : List (Nat × Nat) :=
  let w := l.foldl (fun (a : Nat) x => a + x.2.1) 0
  let over' := l.filter fun x => decide (x.2.2 * w < x.2.1 * p)
  match fuel with
  | 0 => []
  | n + 1 =>
    if over' = [] then l.map fun x => (x.1, if w = 0 then 0 else x.2.1 * p / w)
    else
      over'.map (fun x => (x.1, x.2.2))
        ++ fixCaps n (p - over'.foldl (fun (a : Nat) x => a + x.2.2) 0) (l.filter fun x => !over'.contains x)

/-- Leftover watts go to the lowest-numbered string with room. -/
def giveLeft (left : Nat) (l : List (Nat × Nat × Nat)) : List (Nat × Nat) :=
  match l with
  | [] => []
  | (s, share, cap) :: r => let g := min left (cap - share); (s, share + g) :: giveLeft (left - g) r

/-- The strings' shares of `p` W in a direction under their bounds (R249). -/
def Card.allocate (c : Card) (dir p : Nat) (bounds : List (Nat × Nat × Nat)) : List (Nat × Nat) :=
  let energy (s : Nat) : Nat := ((c.estStr s).chans.getD (if dir = 1 then 14 else 15) 0).toNat
  let byE := c.bit DSP_CTRL.EQ_EN && bounds.any fun x => decide (energy x.1 ≠ 0)
  let l := bounds.map fun x => (x.1, if byE then energy x.1 else x.2.1, x.2.1)
  let sh := fixCaps 5 p l
  let share (s : Nat) : Nat := ((sh.find? fun x => x.1 == s).map (·.2)).getD 0
  giveLeft (p - sh.foldl (fun (a : Nat) x => a + x.2) 0) (l.map fun x => (x.1, share x.1, x.2.2))

/-- The power in W that strings ramping down still carry in a direction (R251). -/
def Card.rampPower (c : Card) (dir : Nat) : Nat :=
  strings.foldl (fun (a : Nat) s =>
    let st := c.cnvState s
    if (c.ineligible s).isSome ∧ (st = 4 ∨ st = 5) then
      let w := quot ((c.eng s).eff * c.measV s) (65536 * 10000)
      a + (if dir = 0 then w else -w).toNat
    else a) 0

/-- The setpoint of a string for `w` signed watts (R250). -/
def Card.setpointFor (c : Card) (s : Nat) (w : Int) : Int :=
  let i := if c.measV s = 0 then 0 else (w * 10000).tdiv (c.measV s)
  clampInt (-(c.currentLimit s 1 : Int)) (c.currentLimit s 0) i

/-- The net power is shared out, and every string's setpoint follows (R249 to R251). -/
def Card.shareOut (c : Card) (elig : List Nat) (p : List Pass × List Pass) : Card :=
  let total (ps : List Pass) : Nat := ps.foldl (fun (a : Nat) y => y.served.foldl (fun (b : Nat) z => b + z.2) a) 0
  let net : Int := total p.1 - total p.2
  let dir := if net < 0 then 1 else 0
  let ps := if dir = 0 then p.1 else p.2
  let bounds := ((ps.filter fun y => decide (y.served ≠ [])).getLast?.map (·.bounds)).getD
    (elig.map fun s => (s, 0, 0))
  let sh := c.allocate dir (net.natAbs - c.rampPower dir) bounds
  c.each strings fun c s =>
    let w : Int := (((sh.find? fun x => x.1 == s).map (·.2)).getD 0 : Nat)
    c.modEng s fun e => { e with dspSet := c.setpointFor s (if dir = 0 then w else -w) }

/-! ### Outcomes (R246 to R248) -/

/-- A reserve request is not served in full (R248). -/
def Card.reserveShort (c : Card) (r : DspReq) (served : Int) (reason : Nat) : Card :=
  if r.cls ≠ 0 then c
  else (c.stick DSP_STICKY.RESERVE_SHORT).record 0x7004 [pN r.id, p32 r.asked, p32 served, pN reason]

/-- A running request's served power follows the limits (R244, R247). -/
def Card.followRunning (c : Card) (e : Nat) (r : DspReq) (w b : Nat) : Card :=
  let served : Int := if r.asked < 0 then -(w : Int) else w
  let full := decide (w = r.want)
  let reason := if full then 0 else 0x7010 + b
  let c := c.putRequest e (some { r with served := served, reason := reason, last := b, full := full })
  let c := c.when (!full) fun c => c.stick DSP_STICKY.CLIPPED
  let tell (c : Card) (status : Nat) : Card :=
    if r.source = hostSource then c else c.notice r.port r.source r.id r.cls status reason served
  if r.full && !full then
    tell ((c.record 0x7001 [pN r.id, pN r.cls, p32 served, pN reason]).reserveShort r served reason) 1
  else if full && !r.full then tell (c.record 0x7002 [pN r.id, pN r.cls]) 0
  else c

/-- The operation of a request that has been decided has passed its commit point (R262), and its trigger is spent. -/
def Card.decidedOp (c : Card) (r : DspReq) : Card :=
  match r.slot with
  | some n => (c.commit n).modOp n fun o => { o with trig := none }
  | none => c

/-- A request is admitted (R246). `lost` names the string whose leaving cost it its full service (R251). -/
def Card.grantWatts (c : Card) (e : Nat) (r : DspReq) (w b : Nat) (lost : Option Nat) : Card :=
  let served : Int := if r.asked < 0 then -(w : Int) else w
  let full := decide (w = r.want)
  let old := c.requests.filter fun x => displaces (e, r) x
  let c := (c.dropRequests old 0x7006).decidedOp r
  let reason := if full then 0 else 0x7010 + b
  let (status, told) : Nat × Nat := if r.state = 2 then (2, 0x7010 + r.bound) else if full then (0, 0)
    else match lost with
      | some s => (0x0B, 0x7180 + (s - 1))
      | none => (1, reason)
  let c := c.endRequest r status told served
  let c := c.when (!full) fun c => (c.stick DSP_STICKY.CLIPPED).reserveShort r served reason
  c.putRequest e (some { r with
    state := 3, open' := false, slot := none, served := served, reason := reason, last := b, admitted := c.frame, full := full })

/-- A request is left out of a frame: refused where it may not wait, otherwise it waits (R246). -/
def Card.leaveOut (c : Card) (e : Nat) (r : DspReq) (b : Nat) : Card :=
  let c := c.decidedOp r
  if r.state = 2 then
    if r.maxDefer ≤ framesSince c.frame r.decided then c.dropRequests [(e, r)] (0x7030 + b)
    else c.putRequest e (some { r with last := b, reason := 0x7010 + b })
  else
    let c := c.reserveShort r 0 (0x7010 + b)
    if r.maxDefer = 0 then c.dropRequests [(e, r)] (0x7010 + b)
    else c.putRequest e (some { r with state := 2, bound := b, last := b, reason := 0x7010 + b, decided := c.frame })

/-- A pending request reaches its decision at this slot 6 boundary (R238). -/
def Card.deciding (c : Card) (r : DspReq) : Bool :=
  decide (r.state = 1) && (r.fired || c.trigDue r.trig || (match r.slot.bind c.op with
    | some o => o.trig.any c.trigDue
    | none => false))

/-- The requests whose decision is due and that may not be decided now: CFG_HOLD (R361), UNQUALIFIED (R48), EN 0. -/
def Card.refuseDue (c : Card) : Card :=
  c.each c.requests fun c x =>
    let due := c.deciding x.2
    if due && c.holding then c.dropRequests [x] 0xB0F0
    else if due && decide (x.2.trig.kind = 2) && !x.2.fired && c.unqualified then c.dropRequests [x] 0xF003
    else if (due || x.2.state == 2) && !c.bit DSP_CTRL.EN then c.dropRequests [x] 0x7002
    else c

/-- The running requests that have run their time leave the table (R238). -/
def Card.expireRequests (c : Card) : Card :=
  (c.each c.requests fun c x =>
    if x.2.state = 3 ∧ c.remaining x.2 = 0 then c.putRequest x.1 none else c).showRequests

/-- The requests in play at a slot 6 boundary, in arrival order. -/
def Card.inPlay (c : Card) : List Ask :=
  let l := c.requests.filter fun x => decide (x.2.state ≠ 1) || c.deciding x.2
  l.mergeSort fun a b => decide (a.2.order ≤ b.2.order)

/-- While EN is 0 nothing is served: running requests get nothing, and every setpoint is zero (R250). -/
def Card.serveNone (c : Card) : Card :=
  let c := c.each (c.requests.filter fun x => x.2.state == 3) fun c x =>
    c.putRequest x.1 (some { x.2 with served := 0, reason := 0x7002, full := false })
  c.each strings fun c s => c.modEng s fun e => { e with dspSet := 0 }

/-- The dispatcher's work at a slot 6 boundary (R238 to R251), on the primary lane. -/
def Card.dspSlot6 (c : Card) : Card :=
  let c := c.applyCancels.expireRequests
  let (left, c) := c.updateEligible
  let c := c.refuseDue
  if !c.bit DSP_CTRL.EN then c.serveNone.showRequests
  else
    let all := c.inPlay
    let elig := c.eligible
    let (p, play) := c.serveReplacing all.length elig all []
    let lost (x : Ask) : Option Nat := left.find? fun s =>
      (grant (c.serve (strings.filter fun t => elig.contains t || t == s) play) x).1 == some x.2.want
    let c := c.each all fun c x =>
      if (c.entry x.1).isNone then c
      else
        let (w, b) := grant p x
        if x.2.state = 3 then (if play.any (fun y => y.1 == x.1) then c.followRunning x.1 x.2 (w.getD 0) b else c)
        else match w with
          | some w => c.grantWatts x.1 x.2 w b (if x.2.state = 1 then lost x else none)
          | none => c.leaveOut x.1 x.2 b
    (c.shareOut elig p).showRequests

/-- REQUEST_EXPIRY (R238): a running request leaves the table once DURATION frames have passed since its admission. -/
def execRequestExpiry (entry : Nat) (s : State) : Host.Outcome State Fault Refusal :=
  s.on fun c => match c.entry entry with
    | some r => if r.state = 3 ∧ c.remaining r = 0 then (c.putRequest entry none).showRequests else c
    | none => c

/-- DEFER_EXPIRY (R246): a request still waiting MAX_DEFER × 100 frames after its decision frame completes REFUSED. -/
def execDeferExpiry (entry : Nat) (s : State) : Host.Outcome State Fault Refusal :=
  s.on fun c => match c.entry entry with
    | some r => if r.state = 2 ∧ r.maxDefer ≤ framesSince c.frame r.decided
        then c.dropRequests [(entry, r)] (0x7030 + r.last) else c
    | none => c

/-- Every request ends at a warm reset (R252). -/
def Card.endAllRequests (c : Card) : Card :=
  { c with dsp.entries := [], dsp.cancels := [], dsp.joined := [] }.showRequests.setFld DSP_STATUS.ELIGIBLE 0

/-! ### Reads -/

/-- A DSP_REQ_READ entry (R260). -/
def Card.requestBytes (c : Card) (e : Nat) : List Byte :=
  match c.entry e with
  | none => List.replicate 32 0
  | some r => le 4 r.source ++ le 2 r.id ++ le 1 r.cls ++ le 1 r.state ++ le 4 (code 32 r.asked)
      ++ le 4 (code 32 r.served) ++ le 2 r.reason ++ le 2 0 ++ le 4 r.admitted.toNat ++ le 4 (c.remaining r) ++ le 4 0

/-- DSP_REQ_READ (0x72): the table from one slot 7 boundary. -/
def rowDspReqRead : Row where
  opcode := 0x72
  role := 1
  args _ d := if d.only [(8, 8)] then none else some (7, 0x7001)
  start _ c := c

/-- DSP_REQ_READ. -/
def execDspReqRead (d : Desc) (s : State) : Host.Outcome State Fault Refusal := s.on fun c => c.accept rowDspReqRead d

/-- The request-table reads of a slot 7 boundary. -/
def Card.readRequests (c : Card) : Card :=
  c.each c.running fun c x =>
    if x.2.opcode ≠ 0x72 ∨ x.2.produced then c
    else (c.commit x.1).doneWith x.1 (x.2.desc.at 8 8) ((List.range 256).flatMap fun e => c.requestBytes e)

end Sys2Proof.Machine
end

