-- ==== Sys2Proof/Machine/Acct.lean ====
section
/-! DEFINITION. The energy accounts: precise samples and their energy, billing intervals, the record ring and the
committed copies (chapter 9, R253 to R259). -/

namespace Sys2Proof.Machine

/-- A grid's unit: a second in ns. -/
def second : Int := 1000000000

/-- The start of the grid interval that holds a postmark: boundaries p with (p / 10^9 − ALIGN) mod LEN = 0 (R254). -/
def gridStart (len : Nat) (align p : Int) : Int :=
  (p - align * second) / (len * second) * (len * second) + align * second

/-- Changes the interval that takes energy: the latest one. -/
def Card.modOpen (c : Card) (f : Ivl → Ivl) : Card :=
  match c.dsp.ivls.getLast? with
  | some x => { c with dsp.ivls := c.dsp.ivls.dropLast ++ [f x] }
  | none => c

/-- The interval that takes energy. -/
def Card.openIvl (c : Card) : Ivl := (c.dsp.ivls.getLast?).getD {}

/-- Sets a record flag in the open interval: 0 SETBACK, 1 GAP, 2 SHORT, 3 HOLDOVER, 4 UNQUALIFIED, 5 POWER_LOSS,
6 SENSE_GAP, 7 SENSE_SAT. -/
def Card.flagOpen (c : Card) (bit : Nat) : Card := c.modOpen fun x => { x with flags := x.flags ||| 2 ^ bit }

/-! ### Energy (R253) -/

/-- 1 mWh in units of 1.28 nJ. -/
def mwhUnit : Nat := 2812500000

/-- Adds to a string's fine accumulator of a direction; whole mWh go to the interval and lifetime counters. -/
def Card.bookEnergy (c : Card) (s dir n : Nat) : Card :=
  let k := 2 * (s - 1) + dir
  let a := c.dsp.fine.get (fun _ => 0) k + n
  let q := a / mwhUnit
  let c := { c with
    dsp.fine := c.dsp.fine.set (fun _ => 0) k (a % mwhUnit)
    dsp.life := c.dsp.life.set (fun _ => 0) k ((c.dsp.life.get (fun _ => 0) k + q) % 2 ^ 64) }
  if q = 0 then c
  else c.modOpen fun x => { x with mwh := x.mwh.set (fun _ => 0) k ((x.mwh.get (fun _ => 0) k + q) % 2 ^ 64) }

/-- A code at the end of its range. -/
def atEnd (j : Nat) (v : Int) : Bool :=
  if isVolt j then decide (v = 0 ∨ v = 262143) else decide (v = -131072 ∨ v = 131071)

/-- A precise code of channel 6 or 7 meets its pair, and their product is booked. While the other channel is lost
nothing is added and the interval carries SENSE_GAP. -/
def Card.pairSample (c : Card) (s j : Nat) (v : Int) : Card :=
  let c := if atEnd j v then c.flagOpen 7 else c
  if c.chanLost s (13 - j) then
    { c with dsp.half := c.dsp.half.set (fun _ => none) s none }.flagOpen 6
  else match c.dsp.half.get (fun _ => none) s with
    | some (i, w) =>
      if i = j then { c with dsp.half := c.dsp.half.set (fun _ => none) s (some (j, v)) }
      else
        let p := v * w
        { c with dsp.half := c.dsp.half.set (fun _ => none) s none }.bookEnergy s (if p < 0 then 1 else 0) p.natAbs
    | none => { c with dsp.half := c.dsp.half.set (fun _ => none) s (some (j, v)) }

/-- PRECISE_SAMPLE (R202, R203, R216, R253): the engine's part, and the accounts'. Its postmark is the centre of its
filter window, 19.2 µs back. -/
def execPreciseSample (channel : Nat) (value : Int) (s : State) : Host.Outcome State Fault Refusal :=
  s.on fun c =>
    let (n, j) := chanOf channel
    if 36 ≤ channel ∨ !c.bit (CNV_SD_CFG.CLK_EN n) then c
    else
      let (raw, p) := c.preciseCode channel value (c.pm - 19200)
      let c := if raw ≠ p then c.senseSat channel else c
      let c := c.modEng n fun e => { e with lost := e.lost - (if e.lost.testBit j then 2 ^ j else 0) }
      let c := c.preciseEngine n j p (c.pm - 19200)
      if j = 6 ∨ j = 7 then c.pairSample n j p else c

/-! ### Commits (R259) -/

/-- The newest valid copy: 0 A, 1 B. -/
def Card.newestAcct (c : Card) : Option Nat :=
  match c.dsp.copyA.valid, c.dsp.copyB.valid with
  | true, true => if after (BitVec.ofNat 32 c.dsp.copyB.seq) (BitVec.ofNat 32 c.dsp.copyA.seq) then some 1 else some 0
  | true, false => some 0
  | false, true => some 1
  | false, false => none

/-- An account copy. -/
def Card.acctCopy (c : Card) (k : Nat) : AcctCopy := if k = 0 then c.dsp.copyA else c.dsp.copyB

/-- Writes an account copy. -/
def Card.setAcctCopy (c : Card) (k : Nat) (x : AcctCopy) : Card :=
  if k = 0 then { c with dsp.copyA := x } else { c with dsp.copyB := x }

/-- Whether a copy reads back as written: a free value. -/
def Card.readsBack (c : Card) : Bool × Card :=
  let (n, c) := c.draw
  ((Config.freeValue n).toNat % 2 = 0, c)

/-- Commits the accounts into the copy that does not hold the newest valid sequence, reads it back, and repeats once on
a mismatch (R259 under R163). -/
def Card.commitAccounts (c : Card) : Card :=
  let (k, seq) := match c.newestAcct with
    | some k => (1 - k, ((c.acctCopy k).seq + 1) % 2 ^ 32)
    | none => (0, 1)
  let x : AcctCopy := {
    valid := true, seq := seq, ivls := c.dsp.ivls, len := c.dsp.len, align := c.dsp.align, life := c.dsp.life
    fine := c.dsp.fine, hwm := c.dsp.hwm }
  let fail (c : Card) (n : Nat) : Card :=
    ((c.stick DSP_STICKY.COMMIT_FAIL).record 0x7014 [pN k, pN n]).setAcctCopy k { x with valid := false }
  let (a, c) := c.readsBack
  let c := { c with dsp.since := 0 }
  if a then c.setAcctCopy k x
  else
    let (b, c) := (fail c 1).readsBack
    if b then c.setAcctCopy k x else fail c 2

/-- ACCOUNT_COMMIT (R259): every 1,000 frames. -/
def execAccountCommit (s : State) : Host.Outcome State Fault Refusal :=
  s.on fun c => if c.dsp.since < 1000 then c else c.commitAccounts

/-! ### Intervals (R254 to R258) -/

/-- The interval that holds a booking time at or after the end of the latest one. A changed grid takes effect here: the
next interval runs to the next boundary of the new grid and is SHORT (R257). -/
def nextIvl (last : Ivl) (bt : Int) (changed : Bool) (len : Nat) (align : Int) : Ivl :=
  let l : Int := len * second
  let g := gridStart len align bt
  if changed then
    let b := gridStart len align last.stop + l
    if bt < b then { start := last.stop, stop := b, flags := 4 }
    else { start := g, stop := g + l, skipped := 1 + ((g - b) / l).toNat }
  else { start := g, stop := g + l, skipped := ((g - last.stop) / l).toNat }

/-- A later interval opens for booking when the booking time reaches it. -/
def Card.openLater (c : Card) : Card :=
  let last := c.openIvl
  if (c.dsp.hwm : Int) < last.stop then c
  else
    let len := c.fld DSP_INTERVAL.LEN
    let align := c.sfld DSP_INTERVAL.ALIGN
    let x := nextIvl last c.dsp.hwm (decide (len ≠ c.dsp.len ∨ align ≠ c.dsp.align)) len align
    { c with dsp.ivls := c.dsp.ivls ++ [x], dsp.len := len, dsp.align := align }

/-- The counters in snapshot order: interval charge, interval discharge, lifetime charge, lifetime discharge of each
string. -/
def Card.counters (c : Card) (x : Ivl) : Store Nat :=
  strings.foldl (fun (m : Store Nat) s =>
    [0, 1].foldl (fun (m : Store Nat) d =>
      (m.set (fun _ => 0) (4 * (s - 1) + d) (x.mwh.get (fun _ => 0) (2 * (s - 1) + d))).set (fun _ => 0)
        (4 * (s - 1) + 2 + d) (c.dsp.life.get (fun _ => 0) (2 * (s - 1) + d))) m) []

/-- Plant time has passed HWM again: event 0x7012 with the seconds spent behind (R256). -/
def Card.catchUp (c : Card) : Card :=
  match c.dsp.behind with
  | none => c
  | some t =>
    if c.tim.framePm < c.dsp.hwm then c
    else
      let c := { c with dsp.behind := none }.setFld DSP_STATUS.SETBACK 0
      c.record 0x7012 [p32 (quot ((c.tim.clock : Int) - t) second)]

/-- Plant time lies behind HWM: SETBACK (R256). -/
def Card.fallBehind (c : Card) (pm : Nat) : Card :=
  if c.dsp.hwm ≤ pm ∨ c.dsp.behind.isSome then c
  else { c with dsp.behind := some c.tim.clock }.setFld DSP_STATUS.SETBACK 1

/-- A frame begins: what the counters read as, and where its energy is booked (R254 to R256). -/
def Card.acctFrame (c : Card) : Card :=
  let head := (c.dsp.ivls.head?).getD {}
  let c := { c with
    dsp.shown := c.counters head, dsp.shownPm := c.dsp.booked, dsp.shownOpen := head.start, dsp.booked := c.tim.framePm
    dsp.since := c.dsp.since + 1 }
  let c := c.catchUp.fallBehind c.tim.framePm
  let c := { c with dsp.hwm := max c.dsp.hwm c.tim.framePm }.openLater
  let c := c.modOpen fun x => { x with frames := x.frames + 1 }
  let c := if c.dsp.behind.isSome then c.flagOpen 0 else c
  let c := match c.fld TIM_STATUS.TIME_STATE with
    | 0 => c.flagOpen 4
    | 2 => c.flagOpen 3
    | _ => c
  if strings.any fun s => c.chanLost s 6 || c.chanLost s 7 then c.flagOpen 6 else c

/-- A step of plant time backward (R256): event 0x7011 where it leads into an earlier interval. -/
def Card.acctStep (c : Card) (back : Bool) : Card :=
  let c := c.fallBehind c.pm
  if back && decide ((c.pm : Int) < c.openIvl.start) then
    (c.stick DSP_STICKY.SETBACK).record 0x7011 [p32 (quot ((c.dsp.hwm : Int) - c.pm) second), pN c.dsp.seq]
  else c

/-- A closed-interval record (R258). -/
def recordBytes (seq : Nat) (start len : Int) (flags frames : Nat) (mwh : Store Nat) : List Byte :=
  let b := le 8 (code 64 start) ++ le 4 (code 32 len) ++ le 4 flags ++ le 4 seq ++ le 4 frames
    ++ ((List.range 8).flatMap fun k => le 8 (mwh.get (fun _ => 0) k)) ++ le 4 0
  b ++ le 4 (crc32 b)

/-- A record enters the ring, over the oldest. -/
def Card.putRecord (c : Card) (start len : Int) (flags frames : Nat) (mwh : Store Nat) : Card :=
  let n := c.dsp.seq
  { c with
    dsp.ring := c.dsp.ring.set (fun _ => []) (n % 1024) (recordBytes n start len flags frames mwh)
    dsp.seq := (n + 1) % 2 ^ 32 }

/-- INTERVAL_CLOSE (R255, R325): in slot 7, the open interval's record, event 0x7010 and source 90; a GAP record over whole intervals
passed; a commit. -/
def execIntervalClose (s : State) : Host.Outcome State Fault Refusal :=
  s.on fun c =>
    if c.tim.slot ≠ 7 then c
    else match c.dsp.ivls with
    | x :: y :: r =>
      let n := c.dsp.seq
      let c := { c with dsp.ivls := y :: r }.putRecord x.start ((x.stop - x.start) / second) x.flags x.frames x.mwh
      let c := (c.record 0x7010 ([pN n, pN x.flags] ++ pLoHi (code 64 x.start))).fire 90
      let c := if y.skipped = 0 then c
        else
          let n := c.dsp.seq
          let c := (c.putRecord x.stop ((y.start - x.stop) / second) 2 0 []).stick DSP_STICKY.GAP
          c.record 0x7013 [pN n, pN y.skipped]
      c.commitAccounts
    | _ => c

/-- A value of LEN that is accepted (R262's table). -/
def lenOk (n : Nat) : Bool := decide (60 ≤ n) && decide (n ≤ 3600) && decide (86400 % n = 0)

/-- The accounts after a cold reset: the newest valid copy with POWER_LOSS, or zero from the HWM of the newest record
(R259). -/
def Card.loadAccounts (c : Card) : Card :=
  let c := { c with dsp.half := [], dsp.behind := none, dsp.since := 0, dsp.booked := 0, dsp.shown := [], dsp.shownPm := 0, dsp.shownOpen := 0 }
  match c.newestAcct with
  | some k =>
    let x := c.acctCopy k
    { c with
      dsp.ivls := x.ivls, dsp.len := x.len, dsp.align := x.align, dsp.life := x.life, dsp.fine := x.fine
      dsp.hwm := x.hwm }.flagOpen 5
  | none =>
    let last := c.dsp.ring.get (fun _ => []) ((c.dsp.seq + 2 ^ 32 - 1) % 1024)
    let hwm : Int := if last = [] then 0 else signed 64 (leAt last 0 8) + leAt last 8 4 * second
    let g := gridStart c.dsp.len c.dsp.align hwm
    let c := { c with
      dsp.ivls := [{ start := g, stop := g + c.dsp.len * second }], dsp.life := [], dsp.fine := []
      dsp.hwm := hwm.toNat }.flagOpen 5
    (c.stick DSP_STICKY.COMMIT_FAIL).record 0x7014 [0, 1]

/-! ### Host operations (R260) -/

/-- A closed record still in the ring. -/
def Card.closedRecord (c : Card) (n : Nat) : Option (List Byte) :=
  let b := c.dsp.ring.get (fun _ => []) (n % 1024)
  if b ≠ [] ∧ leAt b 16 4 = n then some b else none

/-- DSP_ACCT_READ (0x73). -/
def rowDspAcctRead : Row where
  opcode := 0x73
  role := 1
  args _ d := if d.only [(0, 6), (8, 8)] && within 1 64 (d.at 4 2) then none else some (7, 0x7001)
  checks c d := if (List.range (d.at 4 2)).all fun i => (c.closedRecord ((d.at 0 4 + i) % 2 ^ 32)).isSome then none
    else some (3, 0x7009, 0)
  start slot c :=
    let d := c.descOf slot
    (c.commit slot).doneWith slot (d.at 8 8)
      ((List.range (d.at 4 2)).flatMap fun i => (c.closedRecord ((d.at 0 4 + i) % 2 ^ 32)).getD [])

/-- DSP_ACCT_READ. -/
def execDspAcctRead (d : Desc) (s : State) : Host.Outcome State Fault Refusal := s.on fun c => c.accept rowDspAcctRead d

/-- DSP_ACCT_PRESET (0x74): applied in slot 7. -/
def rowDspAcctPreset : Row where
  opcode := 0x74
  role := 3
  args _ d := if d.only [(0, 2), (8, 8)] && stringOk d && decide (d.byte 1 ≤ 1) then none else some (7, 0x7001)
  start _ c := c

/-- DSP_ACCT_PRESET. -/
def execDspAcctPreset (d : Desc) (s : State) : Host.Outcome State Fault Refusal :=
  s.on fun c => c.accept rowDspAcctPreset d

/-- The lifetime presets of a slot 7 boundary: event 0x7015 and a commit. -/
def Card.applyPresets (c : Card) : Card :=
  c.each c.running fun c x =>
    let d := x.2.desc
    if x.2.opcode ≠ 0x74 ∨ x.2.produced then c
    else
      let c := (c.commit x.1)
      let c := { c with dsp.life := c.dsp.life.set (fun _ => 0) (2 * (d.byte 0 - 1) + d.byte 1) (d.at 8 8) }
      ((c.record 0x7015 ([pN (d.byte 0), pN (d.byte 1)] ++ pLoHi (d.at 8 8))).commitAccounts).done x.1

/-- The dispatcher's part of a slot 7 boundary. -/
def Card.dspSlot7 (c : Card) : Card := c.applyPresets.readRequests

/-! ### Snapshots (R5) -/

/-- DSP_HWM_SNAPSHOT. -/
def execDspHwmSnapshot (s : State) : Host.Outcome State Fault Refusal :=
  s.on fun c => ((c.jrnFree 0x06).setFld DSP_HWM_LO.HWM c.dsp.hwm).setFld DSP_HWM_HI.HWM (c.dsp.hwm / 2 ^ 32)

/-- DSP_ACCT_SNAPSHOT: the last booked frame, the open interval and the 16 counters as of the last frame boundary. -/
def execDspAcctSnapshot (s : State) : Host.Outcome State Fault Refusal :=
  s.on fun c =>
    let o := code 64 c.dsp.shownOpen
    let c := c.jrnFree 0x06
    let c := (c.setFld DSP_ACCT_PM_LO.ACCT_PM c.dsp.shownPm).setFld DSP_ACCT_PM_HI.ACCT_PM (c.dsp.shownPm / 2 ^ 32)
    let c := (c.setFld DSP_ACCT_OPEN_LO.ACCT_OPEN o).setFld DSP_ACCT_OPEN_HI.ACCT_OPEN (o / 2 ^ 32)
    c.each strings fun c s => c.each [0, 1, 2, 3] fun c k =>
      let v := c.dsp.shown.get (fun _ => 0) (4 * (s - 1) + k)
      (c.setFld (DSP_ACCT_WORD.WORD s (2 * k)) v).setFld (DSP_ACCT_WORD.WORD s (2 * k + 1)) (v / 2 ^ 32)

end Sys2Proof.Machine
end

