-- ==== Sys2Proof/Machine/Thm.lean ====
section
/-! DEFINITION. Temperature sensing and thermal duty: channels and the round, the watch list, broken sensors, throttle
levels, pauses, swap signatures and the analog outputs (chapter 11, R285 to R301; R158). -/

namespace Sys2Proof.Machine

/-! ### Channels (R285, R286) -/

/-- A temperature channel. -/
def Card.temp (c : Card) (i : Nat) : ThmChan := c.thm.chans.get (fun _ => {}) i

/-- Writes a temperature channel. -/
def Card.setTemp (c : Card) (i : Nat) (x : ThmChan) : Card :=
  { c with thm.chans := c.thm.chans.set (fun _ => {}) i x }

/-- The group of a channel: 0 cell, 1 die, 2 card, 3 field. -/
def groupOf (i : Nat) : Nat := if i < 1024 then 0 else if i < 1028 then 1 else if i < 1032 then 2 else 3

/-- The cell channel of a string, ring place and thermistor input. -/
def cellChan (s p ch : Nat) : Nat := 256 * (s - 1) + 8 * (p - 1) + ch

/-- A channel is active (R285). -/
def Card.chanActive (c : Card) (i : Nat) : Bool :=
  if i < 1024 then c.inService (i / 256 + 1) (i % 256 / 8 + 1)
  else if i < 1032 then true
  else c.bit (THM_FIELD_MAP.EN (i - 1032))

/-- The reading for every purpose: 0x1_FFFF while the channel is broken (R290). -/
def ThmChan.reading (x : ThmChan) : Int := if x.broken then 0x1FFFF else x.code

/-- A channel has a reading, its own or that of a broken one. -/
def ThmChan.has (x : ThmChan) : Bool := x.active && (x.broken || x.readAt.isSome)

/-- The frames since a channel's last reading, or since it became active. -/
def Card.tempAge (c : Card) (x : ThmChan) : Nat :=
  c.thm.frames - (match x.readAt with
    | some n => n
    | none => x.since)

/-- A reading arrives, to be evaluated in slot 6 (R287). -/
def Card.tempRead (c : Card) (i : Nat) (code : Int) (fault : Bool) : Card :=
  if c.chanActive i then c.setTemp i { c.temp i with pend := some (code, fault) } else c

/-- The round of frame F reads a channel, or the watch list does (R287). -/
def Card.tempDue (c : Card) (i : Nat) : Bool :=
  let r := c.frame.toNat % 256
  (c.temp i).watch || (if i < 1024 then decide (r = 32 * (i % 8) + i % 256 / 8) else decide (r = 8 * (i - 1024)))

/-- The channel masks of a chain's TEMP_POLL, one for each ring place (R87, R287). -/
def Card.pollMasks (c : Card) (s : Nat) : List Byte :=
  places.map fun p => BitVec.ofNat 8 ((List.range 8).foldl (fun (m : Nat) ch =>
    let i := cellChan s p ch
    if c.chanActive i && c.tempDue i then m + 2 ^ ch else m) 0)

/-- The thermal reading of a position for input words 0x1B and 0x1C: code and age (R286). -/
def Card.positionTemp (c : Card) (s cell : Nat) : Nat × Nat :=
  let x := c.temp (cellChan s ((cell - 1) / 16 + 1) ((cell - 1) % 16 / 2))
  (code 18 x.reading, if x.readAt.isSome then min 4095 (c.tempAge x) else 4095)

/-! ### Evaluation (R288 to R290) -/

/-- A code of whole degrees. -/
def degrees (t : Int) : Int := 512 * t

/-- The plausible range of a group and its largest step, in °C (R289). -/
def plausible (g : Nat) : Int × Int × Int :=
  match g with
  | 0 => (-40, 120, 10)
  | 1 => (-40, 150, 20)
  | 2 => (-40, 125, 10)
  | _ => (-50, 150, 20)

/-- The stale time of a channel, in frames (R285). -/
def Card.staleTime (c : Card) (i : Nat) : Nat :=
  if i < 1024 then 600 else if i < 1032 then 16 else 100 * c.fld (THM_FIELD_MAP.STALE (i - 1032))

/-- What is wrong with a reading: 0 open or short, 1 range, 2 step (R289). -/
def ThmChan.fault (x : ThmChan) (g : Nat) (code : Int) (open' : Bool) : Option Nat :=
  let (lo, hi, step) := plausible g
  if open' then some 0
  else if code < degrees lo ∨ degrees hi < code then some 1
  else if x.readAt.isSome ∧ degrees step < (code - x.code).natAbs then some 2
  else none

/-- A channel becomes broken: event 0x9001. -/
def Card.breakTemp (c : Card) (i : Nat) (x : ThmChan) (cause : Nat) : Card :=
  ((c.setTemp i { x with broken := true, good := 0 }).stick THM_STICKY.BROKEN).record 0x9001
    [pN i, pN cause, pN (code 18 x.code)]

/-- Evaluates a channel's reading, or its silence (R289, R290). -/
def Card.judge (c : Card) (i : Nat) (x : ThmChan) : Card :=
  match x.pend with
  | none =>
    if !x.broken && decide (c.staleTime i ≤ c.tempAge x) then c.breakTemp i x 3
    else c.setTemp i (if x.broken && decide (c.staleTime i ≤ c.tempAge x) then { x with good := 0 } else x)
  | some (v, o) =>
    let fault := x.fault (groupOf i) v o
    let x := { x with pend := none, code := v, readAt := some c.thm.frames }
    match fault with
    | some cause => if x.broken then c.setTemp i { x with good := if cause = 2 then 1 else 0 } else c.breakTemp i x cause
    | none =>
      if !x.broken then c.setTemp i x
      else if x.good + 1 < 16 then c.setTemp i { x with good := x.good + 1 }
      else (c.setTemp i { x with broken := false, good := 0 }).record 0x9002 [pN i]

/-- A channel joins or leaves the watch list (R288). -/
def Card.watchTemp (c : Card) (i : Nat) : Card :=
  let x := c.temp i
  let g := groupOf i
  let edge := degrees (c.sfld (THM_GRP_CFG.LIM g) - c.fld (THM_GRP_CFG.MARGIN g))
  if !x.has then c
  else if !x.watch && (x.broken || decide (edge ≤ x.reading)) then
    (c.setTemp i { x with watch := true }).record 0x9003 [pN i, pN (code 18 x.reading)]
  else if x.watch && !x.broken && decide (x.reading < edge - degrees (c.fld (THM_GRP_CFG.HYST g))) then
    (c.setTemp i { x with watch := false }).record 0x9004 [pN i, pN (code 18 x.reading)]
  else c

/-- A field channel that reaches its group's LIM (R292). -/
def Card.fieldLimit (c : Card) (i : Nat) : Card :=
  let x := c.temp i
  let at' := x.has && decide (degrees (c.sfld (THM_GRP_CFG.LIM 3)) ≤ x.reading)
  let c := if at' = x.limited then c else c.setTemp i { x with limited := at' }
  if at' && !x.limited then (c.stick THM_STICKY.FIELD_LIM).record 0x9013 [pN i, pN (code 18 x.reading)] else c

/-- The mapped pigeonhole of a field channel gives a new reading when its UPD differs (R285, R286, R405). -/
def Card.fieldRead (c : Card) (i : Nat) : Card :=
  let k := i - 1032
  let h := c.can.holes.get (fun _ => {}) (c.fld (THM_FIELD_MAP.HOLE k))
  let x := c.temp i
  if !c.chanActive i ∨ h.upd = x.upd then c
  else
    let v := leAt (h.data ++ List.replicate 64 0) (c.fld (THM_FIELD_MAP.OFFSET k)) 2
    c.setTemp i { x with upd := h.upd, pend := some (clampInt (-131072) 131071 (divRne (signed 16 v * 512) 10), decide (v = 0x7FFF ∨ v = 0x8000)) }

/-- Every channel's number. -/
def tempChans : List Nat := List.range 1048

/-- Evaluates a channel; an inactive channel keeps nothing. -/
def Card.evalTemp (c : Card) (i : Nat) : Card :=
  let x := c.temp i
  if !c.chanActive i then (if x = {} then c else c.setTemp i {})
  else
    let x := if x.active then x else { x with active := true, since := c.thm.frames }
    (c.judge i x).watchTemp i

/-! ### Throttle levels (R291 to R294) -/

/-- The level of a reading in a group, from its old level (R291). -/
def Card.levelOf (c : Card) (g : Nat) (t : Int) (old : Nat) : Nat :=
  let meets (n : Nat) : Bool := decide (degrees (c.sfld (THM_GRP_CFG.LIM g) + (n - 1 : Nat) * c.fld (THM_GRP_CFG.STEP g)
    - (if n ≤ old then (c.fld (THM_GRP_CFG.HYST g) : Int) else 0)) ≤ t)
  if meets 3 then 3 else if meets 2 then 2 else if meets 1 then 1 else 0

/-- The second-highest of four readings. -/
def secondHighest (l : List Int) : Int := ((l.mergeSort fun a b => decide (b ≤ a)).getD 1 0)

/-- The array level: the higher of the die and card levels; DIE_CRIT (R292). -/
def Card.arrayLevel (c : Card) : Card :=
  let four (first : Nat) : Int := secondHighest ((List.range 4).map fun k => (c.temp (first + k)).reading)
  let d := four 1024
  let die := c.levelOf 1 d c.thm.die
  let card := c.levelOf 2 (four 1028) c.thm.card
  let crit := decide (degrees (c.sfld (THM_GRP_CFG.LIM 1) + 3 * c.fld (THM_GRP_CFG.STEP 1)) ≤ d)
  let level := Nat.max die card
  let was := c.thm.crit
  let c := { c with thm.die := die, thm.card := card, thm.crit := crit, til.nextLevel := level }
  let c := if crit && !was then (c.stick THM_STICKY.DIE_CRIT).record 0x9012 [pN (code 18 d)] else c
  c.setFld THM_STATUS.ARRAY_LEVEL level

/-- A string's cell channels with a reading, with what they read. -/
def Card.cellReadings (c : Card) (s : Nat) : List (Nat × ThmChan) :=
  (List.range 256).filterMap fun k =>
    let x := c.temp (256 * (s - 1) + k)
    if x.has then some (k, x) else none

/-- The readings that the mean, the spread and the median use: neither broken nor inactive (R290). -/
def Card.goodReadings (c : Card) (s : Nat) : List Int :=
  ((c.cellReadings s).filter fun x => !x.2.broken).map fun x => x.2.code

/-- A string's hottest and mean readings and its level; a change records 0x9010 (R293). -/
def Card.stringLevel (c : Card) (s : Nat) : Card :=
  let l := c.cellReadings s
  let good := c.goodReadings s
  let hot : Option (Nat × Int) := l.foldl (fun (a : Option (Nat × Int)) x =>
    match a with
    | some b => if b.2 < x.2.reading then some (x.1, x.2.reading) else a
    | none => some (x.1, x.2.reading)) none
  let mean : Int := if good = [] then 0x07800
    else quot (good.foldl (fun (a b : Int) => a + b) 0) good.length
  let c := ((c.setFld (THM_STR_HOT.HOT s) (code 18 ((hot.map (·.2)).getD 0))).setFld (THM_STR_HOT.CHANNEL s)
    ((hot.map (·.1)).getD 0)).setFld (THM_STR_MEAN.MEAN s) (code 18 mean)
  let old := c.thm.levels.get (fun _ => 0) s
  let new := match hot with
    | some h => c.levelOf 0 h.2 old
    | none => 0
  if new = old then c
  else
    let c := { c with thm.levels := c.thm.levels.set (fun _ => 0) s new }.setFld (THM_STATUS.STR_LEVEL s) new
    c.recordStr s 0x9010 [pN s, pN new, pN old, pN (256 * (s - 1) + (hot.map (·.1)).getD 0)]

/-- The string levels take effect at a frame boundary; each pause cycle begins when its level is entered (R293). -/
def Card.pauses (c : Card) (s : Nat) : Card :=
  let level := c.thm.levels.get (fun _ => 0) s
  let old := c.thm.applied.get (fun _ => (0, 0)) s
  let n := if level = 0 then 0 else if level = old.1 then old.2 + 1 else 0
  let off := 16 * c.fld THM_STR_CFG.BAL_OFF
  let on := 16 * c.fld THM_STR_CFG.BAL_ON
  let stop := 100 * c.fld THM_STR_CFG.CHG_PAUSE
  let go := 100 * c.fld THM_STR_CFG.CHG_ON
  let bal := match level with
    | 0 => false
    | 1 => decide (n % (off + on) < off)
    | _ => true
  let chg := match level with
    | 2 => decide (n % (stop + go) < stop)
    | 3 => true
    | _ => false
  let c := { c with thm.applied := c.thm.applied.set (fun _ => (0, 0)) s (level, n) }
  let c := (c.modChain s fun x => { x with balPermit := !bal }).modEst s fun x => { x with chargePause := chg }
  (c.setBit (THM_STR_HOT.BAL_PAUSE s) bal).setBit (THM_STR_HOT.CHG_PAUSE s) chg

/-! ### Swap signatures (R158) -/

/-- The median of a list; between the middle two of an even count. -/
def median (l : List Int) : Int :=
  let m := l.mergeSort fun a b => decide (a ≤ b)
  let n := m.length
  if n % 2 = 1 then m.getD (n / 2) 0 else quot (m.getD (n / 2 - 1) 0 + m.getD (n / 2) 0) 2

/-- The signatures of a string's satellites at the end of a round, and the swaps that they show. -/
def Card.signatures (c : Card) (s : Nat) : Card :=
  let mid := median (c.goodReadings s)
  c.each places fun c p =>
    let new : List (Option Int) := (List.range 8).map fun ch =>
      let x := c.temp (cellChan s p ch)
      if x.has && !x.broken then some (x.code - mid) else none
    let old := c.est.sig.get (fun _ => []) (placeKey s p)
    let steps : Nat := ((old.zip new).filter fun (x : Option Int × Option Int) => match x.1, x.2 with
      | some a, some b => decide (64 * c.fld EST_SWAP_CFG.SIG_STEP < (b - a).natAbs)
      | _, _ => false).length
    let c := { c with est.sig := c.est.sig.set (fun _ => []) (placeKey s p) (if new.all (·.isNone) then [] else new) }
    if c.est.opened.contains s && decide (c.fld EST_SWAP_CFG.SIG_MIN ≤ steps) && decide (0 < steps) then
      (c.declareSwap s p).record 0x4018 [pN s, pN p, pN steps]
    else c

/-- Contactor openings are noted, and a round's end evaluates the signatures. -/
def Card.signatureStep (c : Card) : Card :=
  let now := strings.filter fun s => decide (c.fld (SAF_STR_STATE.COILS s) % 4 ≠ 3)
  let c := { c with est.opened := c.est.opened ++ now.filter fun s => !c.est.opened.contains s }
  if c.frame.toNat % 256 ≠ 255 then c
  else if c.bit EST_CTRL.SIG_EN then { c.each strings fun c s => c.signatures s with est.opened := [] }
  else { c with est.opened := [], est.sig := [] }

/-! ### Slot 6 -/

/-- The thermal evaluation of a slot 6 boundary. -/
def Card.thmSlot6 (c : Card) : Card :=
  let c := c.each ((List.range 16).map (· + 1032)) fun c i => c.fieldRead i
  let c := c.each tempChans fun c i => c.evalTemp i
  let c := c.each ((List.range 16).map (· + 1032)) fun c i => c.fieldLimit i
  let c := c.arrayLevel
  let c := c.each strings fun c s => c.stringLevel s
  let count (f : ThmChan → Bool) : Nat := (c.thm.chans.filter fun x => f x.2).length
  ((c.setFld THM_STATUS.WATCH (count fun x => x.watch)).setFld THM_STATUS.BROKEN (count fun x => x.broken)).signatureStep

/-! ### Analog outputs (R295 to R297) -/

/-- An analog output's record. -/
def Card.ao (c : Card) (n : Nat) : AnalogOut := c.thm.outs.get (fun _ => {}) n

/-- Changes an analog output's record. -/
def Card.modAo (c : Card) (n : Nat) (f : AnalogOut → AnalogOut) : Card :=
  { c with thm.outs := c.thm.outs.set (fun _ => {}) n (f (c.ao n)) }

/-- An output drives a code in a state: 0 OFF, 1 DRIVING, 2 CHANGING, 3 SAFE. -/
def Card.driveAo (c : Card) (n code state : Nat) : Card :=
  (c.setFld (THM_AO_OUT.CODE n) code).setFld (THM_AO_OUT.STATE n) state

/-- The THM_AO_SET operations of an output whose trigger has fired and that wait for its change to end. -/
def Card.aoWaiting (c : Card) (n : Nat) : List (Nat × Op) :=
  c.running.filter fun x => decide (x.2.opcode = 0x59) && decide (x.2.desc.byte 0 = n) && decide (x.2.phase = 1) && !x.2.produced

/-- Applies a THM_AO_SET: the output drives its code. While the field side hears nothing it keeps its SAFE code (R401). -/
def Card.applyAo (c : Card) (slot n v : Nat) : Card :=
  if c.fio.silent then (c.commit slot).done slot
  else
  let c := ((c.commit slot).driveAo n v 1).modAo n fun x => { x with onSafe := false }
  let m := c.fio.safeAo
  { c with fio.safeAo := m - (if m.testBit n then 2 ^ n else 0) }.done slot

/-- Of the waiting operations of an output the later-submitted one is applied, the others are superseded (R299). -/
def Card.applyAoWaiting (c : Card) (n : Nat) : Card :=
  let ops := c.aoWaiting n
  let last := ops.foldl (fun m x => max m x.2.order) 0
  c.each ops fun c x =>
    if x.2.order ≠ last then c.complete x.1 3 0x9003 else c.applyAo x.1 n (x.2.desc.at 2 2)

/-- A change's step at a frame boundary: N + 1 OFF, N + 11 the range is switched, N + 21 the output drives (R296). -/
def Card.aoStep (c : Card) (n : Nat) : Card :=
  let x := c.ao n
  match x.change with
  | none => c
  | some at' =>
    if c.rcd.replay then c else
    let k := framesSince c.frame at'
    if x.phase = 0 ∧ 1 ≤ k then (c.driveAo n 0 2).modAo n fun x => { x with phase := 1 }
    else if x.phase = 1 ∧ 11 ≤ k then
      c.modAo n fun x => { x with phase := 2, range := c.fld (THM_AO_CFG.RANGE n) }
    else if x.phase = 2 ∧ 21 ≤ k then
      let c := c.modAo n fun x => { x with change := none, phase := 0, onSafe := true, safeMet := false }
      let c := (c.driveAo n (c.fld (THM_AO_CFG.SAFE n)) 1).record 0x9020 [pN n, pN x.range]
      if x.safeMet then c.driveAo n (c.fld (THM_AO_CFG.SAFE n)) 3 else c.applyAoWaiting n
    else c

/-- AO_RANGE_SEQUENCE (R296): the frames N + 1, N + 11 and N + 21 of an output. -/
def execAoRangeSequence (output : Nat) (s : State) : Host.Outcome State Fault Refusal :=
  s.on fun c => if 4 ≤ output then c else ((c.aoStep output).aoStep output).aoStep output

/-- What a frame boundary does for an output at rest: OFF when RANGE is OFF, a new SAFE code, operations that waited out a
change (R295). In replay mode the outputs stay off (R384); a field side that hears nothing holds what it has (R400). -/
def Card.aoFrame (c : Card) (n : Nat) : Card :=
  let x := c.ao n
  if c.rcd.replay || c.fio.silent then c
  else if c.fld (THM_AO_CFG.RANGE n) = 0 then
    let c := (c.driveAo n 0 0).modAo n fun _ => {}
    c.each (c.aoWaiting n) fun c y => c.complete y.1 3 0x9002
  else if x.change.isSome then c
  else
    let c := if x.onSafe then c.setFld (THM_AO_OUT.CODE n) (c.fld (THM_AO_CFG.SAFE n)) else c
    c.applyAoWaiting n

/-! ### Host operations (R299) -/

/-- THM_TEMP_READ (0x58). -/
def rowThmTempRead : Row where
  opcode := 0x58
  role := 1
  args _ d := if d.only [(0, 4), (8, 8)] && decide (d.at 0 2 < 1048) && decide (d.at 0 2 + d.at 2 2 ≤ 1048) then none
    else some (7, 0x9001)
  start _ c := c

/-- THM_TEMP_READ. -/
def execThmTempRead (d : Desc) (s : State) : Host.Outcome State Fault Refusal := s.on fun c => c.accept rowThmTempRead d

/-- A channel's word: code, broken, watched, inactive, age (R299). -/
def Card.tempWord (c : Card) (i : Nat) : Nat :=
  let x := c.temp i
  code 18 x.reading + (if x.broken then 2 ^ 18 else 0) + (if x.watch then 2 ^ 19 else 0)
    + (if c.chanActive i then 0 else 2 ^ 20) + 2 ^ 21 * min 2047 (if x.readAt.isSome then c.tempAge x else 2047)

/-- The channel reads of a slot 7 boundary. -/
def Card.thmSlot7 (c : Card) : Card :=
  c.each c.running fun c x =>
    let d := x.2.desc
    if x.2.opcode ≠ 0x58 ∨ x.2.produced then c
    else (c.commit x.1).doneWith x.1 (d.at 8 8)
      ((List.range (d.at 2 2)).flatMap fun k => le 4 (c.tempWord (d.at 0 2 + k)))

/-- THM_AO_SET (0x59): at its trigger's slot boundary, or at the end of a change sequence. -/
def rowThmAoSet : Row where
  opcode := 0x59
  role := 1
  args _ d := if !(d.only [(0, 1), (2, 2), (8, 8)] && decide (d.byte 0 ≤ 3) && decide (d.at 2 2 ≤ 50000)
      && !trigReserved (d.at 8 8)) then some (7, 0x9001) else none
  hold := true
  trig d := some (d.at 8 8)
  start _ c := c
  fire slot c :=
    let d := c.descOf slot
    let n := d.byte 0
    let order := ((c.op slot).map (·.order)).getD 0
    let later := c.thm.setNow.any (fun x => decide (x.1 = n) && decide (order < x.2))
      || c.running.any fun x => decide (x.2.opcode = 0x59) && decide (x.2.desc.byte 0 = n) && decide (order < x.2.order)
          && x.2.trig.any c.trigDue
    if later then c.complete slot 3 0x9003
    else if c.fld (THM_AO_CFG.RANGE n) = 0 then c.complete slot 3 0x9002
    else if (c.ao n).change.isSome then
      c.modOp slot fun o => { o with phase := 1, trig := none }
    else { c with thm.setNow := c.thm.setNow ++ [(n, order)] }.applyAo slot n (d.at 2 2)

/-- THM_AO_SET. -/
def execThmAoSet (d : Desc) (s : State) : Host.Outcome State Fault Refusal := s.on fun c => c.accept rowThmAoSet d

/-! ### The frame boundary -/

/-- A frame begins: the on-card sensors are read, pauses take effect, outputs at rest move (R287, R293, R295). -/
def Card.thmFrame (c : Card) (sensors : List Sensor) : Card :=
  let c := { c with thm.frames := c.thm.frames + 1 }
  let c := c.each sensors fun c x =>
    if x.index < 8 then c.tempRead (1024 + x.index) (signed 18 x.code.toNat) x.fault else c
  let c := c.each strings fun c s => c.pauses s
  c.each [0, 1, 2, 3] fun c n => c.aoFrame n

end Sys2Proof.Machine
end

