-- ==== Sys2Proof/Machine/Model.lean ====
section
/-! DEFINITION. What the kernels supplied by Tholith compute for one position in the ESSENTIAL batches: the cell model and
the limits (R141, R142, R147, R148, R160). Currents in the formulas are positive in discharge (DEDUCED from the signs of
R147 and R148); quotients whose rounding is not stated round freely. -/

namespace Sys2Proof.Machine

/-! ### The words that a lane reads -/

/-- A word of a position's input window (R122). -/
def Card.inWord (c : Card) (s cell w : Nat) : Nat :=
  (c.tile (c.phys (tileOfCell s cell))).word (0xF000 + 0x100 * ((cell - 1) % 8) + w)

/-- A word of the shared tables of a position's tile, offset from 0xC000 (R143). -/
def Card.tabWord (c : Card) (s cell w : Nat) : Nat := (c.tile (c.phys (tileOfCell s cell))).word (0xC000 + w)

/-- A LUT read of the shared tables: table offset, index bits, U0.18 index. -/
def Card.lut (c : Card) (s cell base k index : Nat) : Int :=
  signed 18 (lutValue k index fun i => c.tabWord s cell (base + i))

/-- The index of the temperature tables: (T + 64 °C) / 128 °C, clamped (R143). -/
def tempIndex (t : Int) : Nat := (clampInt 0 262143 ((t + 32768) * 4)).toNat

/-- The position is unpopulated, stale, swapped, or saturated in a tone: bits of input word 0x01. -/
def Card.inBit (c : Card) (s cell b : Nat) : Bool := (c.inWord s cell 1).testBit b

/-- The position is measured (R141). -/
def Card.measured (c : Card) (s cell : Nat) : Bool := !c.inBit s cell 0 && !c.inBit s cell 6

/-- The string current codes of words 0x20 to 0x2F, positive in discharge. -/
def Card.discharge (c : Card) (s cell w : Nat) : Int := -(signed 18 (c.inWord s cell w))

/-- The voltage or a current that the lane reads stands at an end of its scale: the INPUT flag (R61). -/
def Card.inputEnds (c : Card) (s cell : Nat) : Bool :=
  ((List.range 17).map (· + 0x20) ++ [0]).any fun w => endCode (0xF000 + w) (c.inWord s cell w)

/-! ### The model states (R140, R144, R147) -/

/-- The sizes of the five groups. -/
def Card.groupSizes (c : Card) (s cell : Nat) : List Nat := [1, 2, 3, 4, 5].map fun w => c.tabWord s cell w

/-- The group of state `i`. -/
def Card.groupOf (c : Card) (s cell i : Nat) : Nat :=
  let z := c.groupSizes s cell
  ((List.range 4).filter fun g => decide ((z.take (g + 1)).foldl (· + ·) 0 ≤ i)).length

/-- How many states the model has. -/
def Card.stateCount (c : Card) (s cell : Nat) : Nat := (c.groupSizes s cell).foldl (· + ·) 0

/-- A state of a group is a concentration in U0.18; the others are signed. -/
def isConc (g : Nat) : Bool := decide (g < 3)

/-- The states of a position as numbers. -/
def Card.states (c : Card) (s cell : Nat) : List Int :=
  (List.range (c.stateCount s cell)).map fun i => val18 (!isConc (c.groupOf s cell i)) (c.cellWord s cell i)

/-- Writes the states of a position, clamped to their formats. -/
def Card.putStates (c : Card) (s cell : Nat) (xs : List Int) : Card :=
  c.each xs.zipIdx fun c x => c.putCell s cell x.2 (clamp18 (!isConc (c.groupOf s cell x.2)) x.1).1

/-- The core temperature: state CORE. -/
def Card.coreOf (c : Card) (s cell : Nat) (xs : List Int) : Int := xs.getD (c.tabWord s cell 8) 0

/-- The temperature factor of a group, or the resistance factor (7), in units of 2^-12. -/
def Card.phi (c : Card) (s cell g : Nat) (t : Int) : Int := c.lut s cell (0x0A80 + 0x48 * g) 6 (tempIndex t)

/-- The surface stoichiometries' potentials: cathode minus anode, in units of 40 µV. -/
def Card.openCircuit (c : Card) (s cell : Nat) (xs : List Int) : Int :=
  c.lut s cell 0x0280 9 (xs.getD (c.tabWord s cell 7) 0).toNat - c.lut s cell 0x0500 9 (xs.getD (c.tabWord s cell 6) 0).toNat

/-- The heat of a sample at current `i`: irreversible I² × R × φ_R and reversible I × T × (dU_C/dT − dU_A/dT), in 2^-12
of 10^-10 W. -/
def Card.heatOf (c : Card) (s cell : Nat) (xs : List Int) (i : Int) : Int :=
  let t := c.coreOf s cell xs
  let e := c.lut s cell 0x0780 8 (xs.getD (c.tabWord s cell 7) 0).toNat - c.lut s cell 0x0900 8 (xs.getD (c.tabWord s cell 6) 0).toNat
  i * i * (c.cellWord s cell 0x301 : Int) * c.phi s cell 7 t + i * (10 * t + 1398528) * e * 8

/-- One state after a sample (R147): `l` and `r` are its neighbours, `i` the current. -/
def Card.stepState (c : Card) (s cell k : Nat) (t i heat x l r : Int) : Int :=
  let g := c.groupOf s cell k
  let w (j : Nat) : Int := signed 18 (c.tabWord s cell (0x0E00 + 4 * k + j))
  let unit : Int := if isConc g then 2 ^ 18 else 2 ^ 17
  let scale : Int := c.tabWord s cell 0x1A
  let flow := c.phi s cell g t * (w 0 * (l - x) + w 1 * (r - x))
  let v := x + quot (flow * scale + w 2 * unit * i * 4096) (2 ^ 29 * scale)
  let v := if g = 3 then v + Config.heatStep k heat (c.tabWord s cell 0x10) else v
  let b := !isConc g
  clampInt (low18 b) (high18 b) v

/-- All states after a sample. The thermal group's last state has the measured temperature for its right neighbour (the
thermal boundary of R141). -/
def Card.stepStates (c : Card) (s cell : Nat) (xs : List Int) (i : Int) : List Int :=
  let t := c.coreOf s cell xs
  let heat := c.heatOf s cell xs i
  let edge := ((c.groupSizes s cell).take 4).foldl (· + ·) 0 - 1
  (List.range xs.length).map fun k =>
    let x := xs.getD k 0
    let l := if k = 0 then x else xs.getD (k - 1) 0
    let r := if k = edge then signed 18 (c.inWord s cell 0x1B) else if k = 639 then x else xs.getD (k + 1) 0
    c.stepState s cell k t i heat x l r

/-- The modelled terminal voltage at current `i`, in units of 20 µV. -/
def Card.terminal (c : Card) (s cell : Nat) (xs : List Int) (i : Int) : Int :=
  let first := ((c.groupSizes s cell).take 4).foldl (· + ·) 0
  let relax := (xs.drop first).foldl (· + ·) 0
  2 * (c.openCircuit s cell xs + relax)
    - quot (i * (c.cellWord s cell 0x301 : Int) * c.phi s cell 7 (c.coreOf s cell xs)) (4096 * 2000)

/-- Correction by a residual in units of 20 µV (R147). -/
def Card.correct (c : Card) (s cell : Nat) (xs : List Int) (resid : Int) : List Int :=
  xs.zipIdx.map fun x => x.1 + quot (signed 18 (c.tabWord s cell (0x0E00 + 4 * x.2 + 3)) * resid) (2 ^ 18)

/-! ### Restart (R160) -/

/-- The index at which a full-cell voltage (20 µV) stands in the full-cell table, as a state of charge: the first segment
that reaches it, between its entries. -/
def Card.socAt (c : Card) (s cell : Nat) (v : Int) : Nat :=
  let e (i : Nat) : Int := 2 * signed 18 (c.tabWord s cell (0x0040 + i))
  match (List.range 512).find? fun i => decide (v ≤ e (i + 1)) with
  | none => 262143
  | some i =>
    if v ≤ e i then 512 * i
    else (clampInt 0 262143 (512 * i + quot (512 * (v - e i)) (e (i + 1) - e i))).toNat

/-- The slope of the full-cell table at a state of charge: the difference over its segment, in units of 40 µV. -/
def Card.slopeAt (c : Card) (s cell soc : Nat) : Int :=
  let i := soc / 512
  signed 18 (c.tabWord s cell (0x0041 + i)) - signed 18 (c.tabWord s cell (0x0040 + i))

/-- A measured position restarts its model. -/
def Card.restartModel (c : Card) (s cell : Nat) : Card :=
  let v : Int := c.inWord s cell 0
  let soc := c.socAt s cell (v + quot (c.discharge s cell 0x30 * c.cellWord s cell 0x301) 2000)
  let xs : List Int := (List.range (c.stateCount s cell)).map fun i =>
    let g := c.groupOf s cell i
    if isConc g then ((Config.equilibrium soc i % 2 ^ 18 : Nat) : Int) else if g = 3 then signed 18 (c.inWord s cell 0x1B) else 0
  let c := (c.putStates s cell xs).putCell s cell 0x290 1
  let c := ((c.putCell s cell 0x291 0).putCell s cell 0x292 0).putCell s cell 0x280 soc
  { c with est.started := c.est.started.set (fun _ => false) (cellKey s cell) true }

/-! ### Limits (R148, R149) -/

/-- The horizons in seconds and the header words of their resistance factors. -/
def horizon (n : Nat) : Nat × Nat := ([(1, 0x17), (10, 0x18), (60, 0x19)]).getD (n / 2) (60, 0x19)

/-- R × φ_R(T_core) × F_h in units of 2^-24 µΩ, of limit `n` of words 0x284 to 0x289. -/
def Card.horizonR (c : Card) (s cell n : Nat) : Int :=
  (c.cellWord s cell 0x301 : Int) * c.phi s cell 7 (signed 18 (c.cellWord s cell 0x282)) * c.tabWord s cell (horizon n).2

/-- R_h + h × S / (3,600 × Q) of limit `n` in µΩ, as numerator and denominator. -/
def Card.sourceR (c : Card) (s cell n : Nat) : Int × Int :=
  let q : Int := c.cellWord s cell 0x300
  let h : Int := (horizon n).1
  (c.horizonR s cell n * (9 * q) + h * c.slopeAt s cell (c.cellWord s cell 0x280) * 25600 * 2 ^ 24, 2 ^ 24 * (9 * q))

/-- A quotient truncated to a magnitude; a negative one, and one over nothing, gives zero. -/
def magnitude (n d : Int) : Nat := if d ≤ 0 ∨ n < 0 then 0 else (n / d).toNat

/-- The four terms of limit `n` (even charge, odd discharge), in units of 10 mA. -/
def Card.limitTerms (c : Card) (s cell n : Nat) : List Nat :=
  let chg := n % 2 = 0
  let h : Int := (horizon n).1
  let t := signed 18 (c.cellWord s cell 0x282)
  let soc : Int := c.cellWord s cell 0x280
  let ocv := 2 * signed 18 (c.cellWord s cell 0x281)
  let der := c.lut s cell (if chg then 0x0D00 else 0x0D48) 6 (tempIndex t)
  let der := if der = 0x1FFFF then 0x20000 else der
  let dv := if chg then (c.tabWord s cell 0x0C : Int) - ocv else ocv - c.tabWord s cell 0x0B
  let ds := if chg then (c.tabWord s cell 0x0E : Int) - soc else soc - c.tabWord s cell 0x0D
  let src := c.sourceR s cell n
  let dt := signed 18 (c.tabWord s cell 0x0F) - t
  [magnitude (c.tabWord s cell (0x11 + n) * der) (2 ^ 17),
   magnitude (2000 * dv * src.2) src.1,
   magnitude (720 * ds * c.cellWord s cell 0x300) (2 ^ 18 * h),
   Nat.sqrt (magnitude (dt * c.tabWord s cell 0x10 * 2 ^ 15 * 10 ^ 10) (c.horizonR s cell n * h))]

/-- A position's six limits of its model, and LIMITED_T: the derating term is the least of one of them. While INIT is set
each is halved. -/
def Card.limitsOf (c : Card) (s cell : Nat) : List Nat × Bool :=
  let ts := (List.range 6).map fun n => c.limitTerms s cell n
  let low (l : List Nat) : Nat := l.foldl min 131071
  let init := c.cellWord s cell 0x290 % 2 = 1
  (ts.map fun l => if init then low l / 2 else low l, ts.any fun l => l.headD 0 = low l)

/-- The terminal voltage of a position at the string limit `lim` of index `n` over its horizon, as a voltage code
(R149). -/
def Card.voltageAt (c : Card) (s cell n : Nat) (lim : Int) : Nat :=
  let src := c.sourceR s cell n
  let drop := quot (lim * src.1) (2000 * src.2)
  let ocv := 2 * signed 18 (c.cellWord s cell 0x281)
  (clampInt 0 262143 (if n % 2 = 0 then ocv + drop else ocv - drop)).toNat

/-! ### The ESSENTIAL batches of one position (R141, R142) -/

/-- What a position contributes: nothing but neutral values (unpopulated), zero limits alone (no model), zero limits with
its model, or its limits. -/
inductive Part where
  | neutral
  | noModel
  | zeroed
  | full
deriving DecidableEq, Repr

/-- A position's part in the string's reduction. -/
def Card.partOf (c : Card) (s cell : Nat) : Part :=
  if c.inBit s cell 6 then .neutral
  else if !(c.estStr s).headerOk ∨ !c.started s cell then .noModel
  else if (c.estStr s).mismatch.contains (placeOfCell cell) ∨ c.fld EST_MODEL_CFG.STALE_OPEN < c.cellWord s cell 0x291 then .zeroed
  else .full

/-- Propagation over the sixteen samples, then correction of a measured position, without class mismatch, by its residual
(R141 steps 2 and 3). -/
def Card.advanceModel (c : Card) (s cell : Nat) : Card :=
  let is := (List.range 16).map fun k => c.discharge s cell (0x20 + k)
  let xs := is.foldl (fun xs i => c.stepStates s cell xs i) (c.states s cell)
  if !c.measured s cell ∨ (c.estStr s).mismatch.contains (placeOfCell cell) then c.putStates s cell xs
  else
    let resid := (c.inWord s cell 0 : Int) - c.terminal s cell xs (c.discharge s cell 0x30)
    let w := (clamp18 true resid).1
    (c.putStates s cell (c.correct s cell xs resid)).putCell s cell 0x283 w

/-- State of charge, open-circuit voltage and core temperature (R141 step 4). -/
def Card.deriveOutputs (c : Card) (s cell : Nat) : Card :=
  let xs := c.states s cell
  let soc := Config.stateOfCharge xs % 2 ^ 18
  let c := (c.putCell s cell 0x280 soc).putCell s cell 0x281 (code 18 (c.lut s cell 0x0040 9 soc))
  c.putCell s cell 0x282 (code 18 (c.coreOf s cell xs))

/-- The INIT run (R160): word 0x292, and INIT clears at its end. -/
def Card.runInit (c : Card) (s cell : Nat) : Card :=
  let small := c.measured s cell && decide ((signed 18 (c.cellWord s cell 0x283)).natAbs < 5 * c.fld EST_MODEL_CFG.INIT_RESID)
  let n := if small then min (c.cellWord s cell 0x292 + 1) 262143 else 0
  let c := c.putCell s cell 0x292 n
  if 64 * c.fld EST_MODEL_CFG.INIT_RUN ≤ n then c.putCell s cell 0x290 (c.cellWord s cell 0x290 / 2 * 2) else c

/-- The stale count (R142): the first frame above STALE_OPEN records 0x4005. -/
def Card.countStale (c : Card) (s cell : Nat) : Card :=
  if c.measured s cell then c.putCell s cell 0x291 0
  else
    let n := min (c.cellWord s cell 0x291 + 1) 255
    let c := c.putCell s cell 0x291 n
    if n = c.fld EST_MODEL_CFG.STALE_OPEN + 1 then
      (c.stick EST_STICKY.STALE_OPEN).recordStr s 0x4005 [pN s, pN cell, pN n]
    else c

/-- The position's limits and status (R141 step 5). -/
def Card.storeLimits (c : Card) (s cell : Nat) : Card :=
  let zero := c.partOf s cell ≠ .full
  let (ls, hot) := c.limitsOf s cell
  let c := c.each (List.range 6) fun c n => c.putCell s cell (0x284 + n) (if zero then 0 else ls.getD n 0)
  let mis := if (c.estStr s).mismatch.contains (placeOfCell cell) then 2 else 0
  c.putCell s cell 0x290 (c.cellWord s cell 0x290 % 2 + mis + if hot && !zero then 4 else 0)

/-- A position whose restart waits has no model: INIT, no stale count, and zero limits (R142). -/
def Card.awaitRestart (c : Card) (s cell : Nat) : Card :=
  let c := (c.putCell s cell 0x291 0).putCell s cell 0x292 0
  let c := c.each (List.range 6) fun c n => c.putCell s cell (0x284 + n) 0
  c.putCell s cell 0x290 (1 + if (c.estStr s).mismatch.contains (placeOfCell cell) then 2 else 0)

/-- The model and the limits of one position in a frame. -/
def Card.runModel (c : Card) (s cell : Nat) : Card :=
  let c := if c.inBit s cell 6 || !(c.estStr s).headerOk then c
    else if c.started s cell then
      ((((c.advanceModel s cell).deriveOutputs s cell).runInit s cell).countStale s cell).storeLimits s cell
    else if c.measured s cell ∧ !(c.estStr s).mismatch.contains (placeOfCell cell) then
      ((c.restartModel s cell).deriveOutputs s cell).storeLimits s cell
    else c.awaitRestart s cell
  (c.putCell s cell 0x2C0 (c.frame.toNat % 2 ^ 18)).putCell s cell 0x2C1 (c.frame.toNat / 2 ^ 18)

end Sys2Proof.Machine
end

