-- ==== Sys2Proof/Machine/Kernel.lean ====
section
/-! DEFINITION. The kernels supplied by Tholith as a whole (R122, R141, R149, R151, R154 to R157, R183 to R191): the input
window, reductions, impedance tracking, learning and lookahead. The instructions of the set of delivery are not in the
spec; what the kernels compute is, so a string whose tiles no instruction command has driven in the frame runs them here, at the
end of slot 5. -/

namespace Sys2Proof.Machine

/-! ### The input window (R122, R181, R182) -/

/-- Writes words of a position's input window from word `w` on. -/
def Card.putInput (c : Card) (s cell w : Nat) (vs : List Nat) : Card :=
  c.modTile (c.phys (tileOfCell s cell)) fun y =>
    { y with mem := y.mem.setRange noWord (0xF000 + 0x100 * ((cell - 1) % 8) + w) (vs.map fun v => BitVec.ofNat 18 v) }

/-- Word 0x01 of a position. -/
def Card.inputFlags (c : Card) (s cell : Nat) : Nat :=
  let p := placeOfCell cell
  let x := c.sat s p
  let flag (b : Bool) (n : Nat) : Nat := if b then 2 ^ n else 0
  if c.satCount s < p then 64
  else
    flag ((c.reg (CHN_STALE s)).getLsbD (p - 1)) 0 + flag (x.status.testBit 11) 1 + flag (x.status.testBit 10) 2
      + flag (x.status.testBit 9) 3 + flag (x.status.testBit 5) 4 + flag (c.est.swapNow.contains (placeKey s p)) 5

/-- The tones that a segment's TONES field carries (R80). -/
def tonesSent (toneSel : Nat) : List Nat :=
  if toneSel = 0 then toneIdx else if toneSel = 1 then [0, 1, 2, 3] else [4, 5, 6, 7]

/-- Words 0x02 to 0x19 of a position: exponents, then mantissas from the tone words (R83). -/
def toneWords (x : Sat) (pos : Nat) : List Nat :=
  let sent := tonesSent x.toneSel
  let nt := sent.length
  let at' (k : Nat) : Option Nat := sent.findIdx? (· == k)
  let exp (k : Nat) : Nat := match at' k with
    | some i => x.exps.getD i 0
    | none => 0
  let man (k : Nat) : List Nat := match at' k with
    | some i =>
      let w := x.tones.getD (nt * pos + i) 0
      [code 18 (signed 9 (w / 512)), code 18 (signed 9 w)]
    | none => [0, 0]
  toneIdx.map exp ++ toneIdx.flatMap man

/-- The distributor's words of one position. For one that is stale or unpopulated only word 0x01 is written, beside the
words of the IMP block. -/
def Card.fillPosition (c : Card) (s cell : Nat) : Card :=
  let f := c.inputFlags s cell
  let i := c.impStr s
  let c := (c.putInput s cell 0x1A [i.carried]).putInput s cell 0x31 ((List.range 16).map fun k => i.g.get (fun _ => 0) k)
  let c := c.putInput s cell 0x01 [f]
  if f % 2 = 1 ∨ 64 ≤ f then c
  else
    let x := c.sat s (placeOfCell cell)
    let e := c.estStr s
    let t := c.positionTemp s cell
    let c := c.putInput s cell 0x00 [x.volts.getD ((cell - 1) % 16) 0]
    let c := (c.putInput s cell 0x02 (toneWords x ((cell - 1) % 16))).putInput s cell 0x1B [t.1, t.2]
    c.putInput s cell 0x20 ((List.range 16).map (fun k => code 18 (e.codes.getD k 0)) ++ [code 18 (e.mean0.getD 0)])

/-- INPUT_WINDOW_FILLED (R122): the distributor has written every tile's window, which releases WAIT with V 0. -/
def execInputWindowFilled (s : State) : Host.Outcome State Fault Refusal :=
  s.on fun c =>
    if c.tim.slot < 3 ∨ 5 < c.tim.slot ∨ c.til.filled then c
    else
      let c := c.each strings fun c s =>
        c.each (cellsFrom 1 512) fun c k => if c.noTile (tileOfCell s k) then c else c.fillPosition s k
      c.releaseInput

/-- The string current at a slot 3 boundary: the samples of the frame before, its means, and the rest count (R122, R154). -/
def Card.takeCurrent (c : Card) (s : Nat) : Card :=
  let (vs, mean, c) := c.currentCodes s
  let c := c.demodulate s vs mean
  let quiet := decide ((mean.natAbs : Int) * 5120 < (c.fld EST_LEARN_CFG1.REST_I * c.tableWord s 0x09 : Nat))
  c.modEst s fun x =>
    { x with codes := vs.map (·.2), mean0 := some mean, mean1 := x.mean0, rest := if quiet then x.rest + 1 else 0 }

/-! ### Reductions (R149) -/

/-- The populated positions of a string whose tile has state and has not trapped. -/
def Card.laneCells (c : Card) (s : Nat) : List Nat :=
  (cellsFrom 1 512).filter fun k =>
    !c.noTile (tileOfCell s k) && decide ((c.tile (c.phys (tileOfCell s k))).run ≠ 3) && !c.inBit s k 6

/-- The tiles of a string contribute to a channel, and it is complete. -/
def Card.putChan (c : Card) (s ch : Nat) (sum : Bool) (v : Int) : Card :=
  let ts := c.needed s
  let c := { c with til.chans := c.til.chans.set (fun _ => {}) (chanKey s ch) { val := some v, sum := sum, tiles := c.needed s } }
  c.each ts fun c t => c.modTile (c.phys t) fun y => { y with contributed := y.contributed ++ [ch] }

/-- The sum over the string of what each lane contributes. -/
def Card.sumOver (c : Card) (s ch : Nat) (f : Nat → Int) : Card :=
  c.putChan s ch true ((c.laneCells s).foldl (fun a k => a + f k) 0)

/-- The two stages of batch 2 (R149). -/
def Card.reduceLimits (c : Card) (s : Nat) : Card :=
  let cells := c.laneCells s
  let model := cells.filter fun k => c.partOf s k = .zeroed ∨ c.partOf s k = .full
  let limit (n k : Nat) : Int := if c.partOf s k = .full then c.cellWord s k (0x284 + n) else 0
  let c := c.each (List.range 6) fun c n => c.putChan s n false (cells.foldl (fun a k => min a (limit n k)) 131071)
  let soc (k : Nat) : Int := c.cellWord s k 0x280
  let c := c.putChan s 12 false (model.foldl (fun a k => min a (soc k)) 262143)
  let c := c.putChan s 13 false (model.foldl (fun a k => max a (soc k)) 0)
  let energy (dir k : Nat) : Int := (Config.energy dir (c.cellWord s k 0x280) (c.cellWord s k 0x300) % 2 ^ 17 : Nat)
  let c := c.each [0, 1] fun c dir => c.putChan s (14 + dir) true (model.foldl (fun a k => a + energy dir k) 0)
  c.each (List.range 6) fun c n =>
    let lim := ((c.chan s n).val.getD 0)
    let c := c.each model fun c k => c.putCell s k (0x28A + n) (c.voltageAt s k n lim)
    c.putChan s (6 + n) true (model.foldl (fun a k => a + (c.cellWord s k (0x28A + n) / 1000 : Nat)) 0)

/-! ### Impedance tracking (R183 to R188, R190, R191) -/

/-- A tone's tracked impedance, history or filter: real and imaginary parts from word `w` of its block. -/
def Card.phasor (c : Card) (s cell k w : Nat) : Int × Int :=
  (c.pair36 s cell (toneBlock k + w), c.pair36 s cell (toneBlock k + w + 2))

/-- A 36-bit value within its range. -/
def clamp36 (v : Int) : Int := clampInt (-(2 ^ 35)) (2 ^ 35 - 1) v

/-- Writes a phasor. -/
def Card.putPhasor (c : Card) (s cell k w : Nat) (v : Int × Int) : Card :=
  (c.putPair36 s cell (toneBlock k + w) (clamp36 v.1)).putPair36 s cell (toneBlock k + w + 2) (clamp36 v.2)

/-- The sum of the magnitudes of a difference. -/
def spread (a b : Int × Int) : Int := ((a.1 - b.1).natAbs + (a.2 - b.2).natAbs : Nat)

/-- The frame's impedance from the filtered voltage and the reciprocal reference, in impedance codes (R183). -/
def impedanceOf (v g : Int × Int) : Int × Int :=
  let r (x : Int) : Int := clampInt (-131072) 131071 (divRne x (2 ^ 24))
  (r (v.1 * g.1 - v.2 * g.2), r (v.1 * g.2 + v.2 * g.1))

/-- The tracked impedance is valid (R184). -/
def Card.zValid (c : Card) (s cell k : Nat) : Bool :=
  decide (2 ^ c.fld IMP_TRK_CFG.TRK_SHIFT ≤ c.cellWord s cell (toneBlock k + 0xE))

/-- The tracked impedance at 25 °C and a state of charge of 0.5, in 2^-18 of an impedance code (R185). -/
def Card.normalised (c : Card) (s cell k : Nat) : Int × Int :=
  let z := c.phasor s cell k 4
  let r := c.lut s cell (0x2040 + 0x90 * k) 6 (tempIndex (signed 18 (c.cellWord s cell 0x282)))
    * c.lut s cell (0x2088 + 0x90 * k) 6 (c.cellWord s cell 0x280)
  (quot (z.1 * r) (2 ^ 24), quot (z.2 * r) (2 ^ 24))

/-- A tone with its data carried in this frame: filter, impedance, settling and tracking (R183, R184). Word 0xE0 + 2k and
its neighbour show the frame's Z. -/
def Card.trackCarried (c : Card) (s cell k a : Nat) : Card :=
  let b := toneBlock k
  let e := c.inWord s cell (0x02 + k)
  let m (i : Nat) : Int := signed 18 (c.inWord s cell (0x0A + 2 * k + i)) * (2 ^ e : Nat)
  let f := c.phasor s cell k 0
  let f := (f.1 + quot (m 0 * 1024 - f.1) (2 ^ a), f.2 + quot (m 1 * 1024 - f.2) (2 ^ a))
  let g := (signed 18 (c.inWord s cell (0x31 + 2 * k)), signed 18 (c.inWord s cell (0x32 + 2 * k)))
  let z := impedanceOf f g
  let settle := c.cellWord s cell (b + 0xD) - 1
  let c := (c.putPhasor s cell k 0 f).putCell s cell (b + 0xD) settle
  let c := c.modTile (c.phys (tileOfCell s cell)) fun y =>
    (y.put (0xF800 + 0x100 * ((cell - 1) % 8) + 0xE0 + 2 * k) (code 18 z.1)).put
      (0xF800 + 0x100 * ((cell - 1) % 8) + 0xE1 + 2 * k) (code 18 z.2)
  if settle ≠ 0 then c
  else
    let t : Nat := c.fld IMP_TRK_CFG.TRK_SHIFT
    let zz : Int × Int := (z.1 * 2 ^ 18, z.2 * 2 ^ 18)
    let o := c.phasor s cell k 4
    let n := (o.1 + quot (zz.1 - o.1) (2 ^ t), o.2 + quot (zz.2 - o.2) (2 ^ t))
    let d : Int := c.cellWord s cell (b + 0xC)
    let d := d + quot (spread zz n - d * 2 ^ 18) (2 ^ 18 * 2 ^ t)
    let c := (c.putPhasor s cell k 4 n).putCell s cell (b + 0xC) (clampInt 0 262143 d).toNat
    c.putCell s cell (b + 0xE) (min (c.cellWord s cell (b + 0xE) + 1) 262143)

/-- One enabled tone of one lane: `gap` is the first frame after a gap of its sequence. -/
def Card.trackTone (c : Card) (s cell : Nat) (p : Plan) (gap : Bool) (k : Nat) : Card :=
  let a := (p.tone k).2.2
  let i := c.impStr s
  let carried := (c.inWord s cell 0x1A).testBit k
  let usable := c.measured s cell && !i.unconf.contains (placeOfCell cell) && !c.inBit s cell 3 && !c.inputEnds s cell
  if gap ∨ (carried && !usable) then c.putCell s cell (toneBlock k + 0xD) (2 ^ a)
  else if carried then c.trackCarried s cell k a
  else c

/-- A lane's tones in a frame. A new or changed tone's words are cleared first; no tone has formed a Z yet (R191). -/
def Card.trackLane (c : Card) (s cell : Nat) (p : Plan) (gap : Bool) : Card :=
  let reset := (c.impStr s).resetTones
  let c := c.each (toneIdx.filter reset.testBit) fun c k => c.each (List.range 16) fun c w => c.putCell s cell (toneBlock k + w) 0
  let c := c.modTile (c.phys (tileOfCell s cell)) fun y =>
    { y with mem := y.mem.setRange noWord (0xF8E0 + 0x100 * ((cell - 1) % 8)) (List.replicate 16 0) }
  c.each p.enabled fun c k => c.trackTone s cell p gap k

/-- The table's reference impedance of a tone, in 2^-18 of a code (R185). -/
def Card.zRef (c : Card) (s cell k : Nat) : Int × Int :=
  (signed 18 (c.tabWord s cell (0x20C9 + 0x90 * k)) * 2 ^ 18, signed 18 (c.tabWord s cell (0x20CA + 0x90 * k)) * 2 ^ 18)

/-- The string's mean impedance M_k as a lane forms it (R187). -/
def Card.zMean (c : Card) (s cell k : Nat) : Int × Int :=
  let r := c.zRef s cell k
  let v (ch : Nat) : Int := (c.chan s ch).val.getD 0
  let n := v (48 + k)
  (r.1 + quot (v (32 + 2 * k) * 2 ^ 20) n, r.2 + quot (v (33 + 2 * k) * 2 ^ 20) n)

/-- The reductions of one tone in two stages (R187). -/
def Card.reduceTone (c : Card) (s k : Nat) : Card :=
  let valid := (c.laneCells s).filter fun j => c.zValid s j k
  let step (lo hi v : Int) : Int := clampInt lo hi (quot v (2 ^ 20))
  let sum (c : Card) (ch : Nat) (f : Nat → Int) : Card := c.putChan s ch true (valid.foldl (fun a j => a + f j) 0)
  let c := sum c (32 + 2 * k) fun j => step (-255) 255 ((c.normalised s j k).1 - (c.zRef s j k).1)
  let c := sum c (33 + 2 * k) fun j => step (-255) 255 ((c.normalised s j k).2 - (c.zRef s j k).2)
  let c := c.putChan s (48 + k) true valid.length
  sum c (56 + k) fun j => step 0 255 (spread (c.normalised s j k) (c.zMean s j k))

/-- A score: 16 per dispersion, at most 255 (R188). -/
def score (dist disp : Int) : Nat := if disp ≤ 0 then 255 else min 255 (16 * dist / disp).toNat

/-- A lane's scores and output words of one tone (R188, R191). -/
def Card.showTone (c : Card) (s cell k : Nat) : Card :=
  let b := toneBlock k
  let zn := c.normalised s cell k
  let floor : Int := c.fld IMP_SCORE_CFG.D_FLOOR
  let st := c.cellWord s cell (b + 0xF)
  let d : Int := max (c.cellWord s cell (b + 0xC) : Int) floor
  let self := if st.testBit 5 then score (spread zn (c.phasor s cell k 8)) (d * 2 ^ 18) else 0
  let n := (c.chan s (48 + k)).val.getD 0
  let sk := max (quot ((c.chan s (56 + k)).val.getD 0 * 2 ^ 20) n) (floor * 2 ^ 18)
  let near := if n < 16 then 0 else score (spread zn (c.zMean s cell k)) sk
  let z := c.phasor s cell k 4
  let r (x : Int) : Nat := (clamp18 true (divRne x (2 ^ 18))).1
  let flag (f : Bool) (m : Nat) : Nat := if f then 2 ^ m else 0
  let bits := flag (c.zValid s cell k) 0 + flag (decide (c.cellWord s cell (b + 0xD) ≠ 0)) 1 + flag (st.testBit 5) 2
    + flag (st.testBit 4) 3 + flag ((c.inWord s cell 0x1A).testBit k) 4
  let base := 0xF800 + 0x100 * ((cell - 1) % 8) + 0xC0 + 4 * k
  c.modTile (c.phys (tileOfCell s cell)) fun y =>
    (((y.put base (r z.1)).put (base + 1) (r z.2)).put (base + 2) (self + 256 * near)).put (base + 3) bits

/-- The last frame in which a logical tile ran TRACKING is not the one before this: a gap (R183). -/
def Card.trackGap (c : Card) (t : Nat) : Bool :=
  match c.til.tracked.get (fun _ => none) t with
  | some f => decide (framesSince c.frame f ≠ 1)
  | none => false

/-- Batch 3 of a string. -/
def Card.runTracking (c : Card) (s : Nat) : Card :=
  let p := (c.impStr s).seen.getD {}
  let cells := c.laneCells s
  let c := c.each cells fun c k => c.trackLane s k p (c.trackGap (tileOfCell s k))
  let c := c.each p.enabled fun c k => c.reduceTone s k
  c.each cells fun c j => c.each toneIdx fun c k => c.showTone s j k

/-- HISTORY_UPDATE (R186): once, in slots 3 to 5 of a frame divisible by 65,536, while the kernels of delivery run
TRACKING. -/
def Card.updateHistory (c : Card) (s cell k : Nat) : Card :=
  let b := toneBlock k
  let st := c.cellWord s cell (b + 0xF)
  if !c.zValid s cell k ∨ (c.runOf s cell).2.2 then c
  else
    let zn := c.normalised s cell k
    let h := c.phasor s cell k 8
    let sh : Nat := c.fld IMP_TRK_CFG.HIST_SHIFT
    let n := st / 64
    let h' := if n = 0 then zn else (h.1 + quot (zn.1 - h.1) (2 ^ sh), h.2 + quot (zn.2 - h.2) (2 ^ sh))
    let self := if st.testBit 5 || decide (2 ^ sh ≤ n + 1) then 32 else 0
    (c.putPhasor s cell k 8 h').putCell s cell (b + 0xF) (64 * min (n + 1) 4095 + self + st % 32)

/-- The macro run of the kernels applies to a string: the set of delivery is active, the windows are filled, and no tile of
the string with state has been driven by instruction commands and still stands in a batch. -/
def Card.runsKernels (c : Card) (s : Nat) : Bool :=
  let ts := (tilesOf s).filter fun t => !c.noTile t
  !c.activeSet.known && c.activeSet.batches ≠ [] && c.til.filled && ts ≠ [] && ts.all fun t =>
    let y := c.tile (c.phys t)
    decide (y.run = 3) || (decide (y.run = 1) && !y.stepped)

/-- HISTORY_UPDATE (R186). -/
def execHistoryUpdate (s : State) : Host.Outcome State Fault Refusal :=
  s.on fun c =>
    if c.frame.toNat % 65536 ≠ 0 ∨ c.tim.slot < 3 ∨ 5 < c.tim.slot ∨ c.imp.histAt = some c.frame
      ∨ !classRuns (c.fld TIL_STATUS.THROTTLE) c.frame 1 then c
    else
      let c := { c with imp.histAt := some c.frame }
      c.each (strings.filter c.runsKernels) fun c s =>
        c.each (c.laneCells s) fun c j => c.each (((c.impStr s).seen.getD {}).enabled) fun c k => c.updateHistory s j k

/-! ### Learning (R154 to R157) -/

/-- What the kernels keep of a cell. -/
def Card.learnOf (c : Card) (s cell : Nat) : CellLearn := c.est.learn.get (fun _ => {}) (cellKey s cell)

/-- Writes it. -/
def Card.setLearn (c : Card) (s cell : Nat) (x : CellLearn) : Card :=
  { c with est.learn := c.est.learn.set (fun _ => {}) (cellKey s cell) x }

/-- A capacity segment is open. -/
def Card.segOpen (c : Card) (s cell : Nat) : Bool :=
  [0x307, 0x308, 0x309].any fun w => decide (c.cellWord s cell w ≠ 0)

/-- The charge integral of the open segment: 54 bits, low word first. -/
def Card.integral (c : Card) (s cell : Nat) : Int :=
  signed 54 (c.cellWord s cell 0x304 + 2 ^ 18 * c.cellWord s cell 0x305 + 2 ^ 36 * c.cellWord s cell 0x306)

/-- Writes the charge integral. -/
def Card.putIntegral (c : Card) (s cell : Nat) (v : Int) : Card :=
  let u := code 54 v
  ((c.putCell s cell 0x304 (u % 2 ^ 18)).putCell s cell 0x305 (u / 2 ^ 18 % 2 ^ 18)).putCell s cell 0x306 (u / 2 ^ 36)

/-- The spread of the string's temperatures over its measured positions. -/
def Card.tempSpread (c : Card) (s : Nat) : Int :=
  let ts := ((c.laneCells s).filter (c.measured s)).map fun k => signed 18 (c.inWord s k 0x1B)
  match ts with
  | [] => 0
  | t :: r => r.foldl max t - r.foldl min t

/-- The disqualifier bits that a frame sets in an open segment (R155 bits 0 to 7, 10 and 11). -/
def Card.frameBits (c : Card) (s cell : Nat) (hot gap : Bool) : Nat :=
  let e := c.estStr s
  let t := signed 18 (c.inWord s cell 0x1B)
  let i : Int := signed 18 (c.inWord s cell 0x30)
  let start := BitVec.ofNat 32 (c.cellWord s cell 0x308 + 2 ^ 18 * c.cellWord s cell 0x309)
  let ends := (List.range 17).any fun w => endCode (0xF020 + w) (c.inWord s cell (0x20 + w))
  let flag (b : Bool) (n : Nat) : Nat := if b then 2 ^ n else 0
  flag (decide (t < 512 * c.sfld EST_LEARN_CFG0.T_LO) || decide (512 * c.sfld EST_LEARN_CFG0.T_HI < t)) 0
    + flag hot 1
    + flag (decide ((c.fld EST_LEARN_CFG1.C_MAX * c.tabWord s cell 0x09 : Nat) < i.natAbs * 320)) 2
    + flag (c.inBit s cell 0) 3
    + flag ((c.eng s).gap || ends) 4
    + flag gap 5
    + flag e.isolated 6
    + flag (decide (c.fld EST_LEARN_CFG1.MAX_DUR * 3600000 < framesSince c.frame start)) 7
    + flag (c.inBit s cell 4) 10
    + flag (c.inputEnds s cell) 11

/-- A position comes to rest in this frame (R154): the current has stayed below REST_I for REST_T, and its voltage has
stayed within 100 µV for a minute. -/
def Card.atRest (c : Card) (s : Nat) (x : CellLearn) : Bool :=
  decide (60000 * c.fld EST_LEARN_CFG1.REST_T ≤ (c.estStr s).rest) && decide (60000 ≤ x.steady)

/-- The voltage's minute. -/
def CellLearn.hold (x : CellLearn) (v : Option Nat) : CellLearn :=
  match v with
  | none => { x with steady := 0 }
  | some v =>
    if ((v : Int) - x.held).natAbs < 5 then { x with steady := min (x.steady + 1) 60000 } else { x with held := v, steady := 0 }

/-- What the closed segments of a string add up to in a frame: updates, disqualified, OR of the bits. -/
structure Closed where
  updates : Nat := 0
  bad : Nat := 0
  bits : Nat := 0
deriving DecidableEq, Repr

/-- A closing anchor: the segment's last bits, and the capacity's update (R154, R155). -/
def Card.closeSegment (c : Card) (s cell soc : Nat) (a : Closed) : Card × Closed :=
  let d : Int := ((soc : Int) - c.cellWord s cell 0x307).natAbs
  let flat := decide (c.slopeAt s cell soc * 2048 < 10000)
  let bits := c.cellWord s cell 0x30A
  let bits := bits ||| (if d < (c.fld EST_LEARN_CFG2.DSOC_MIN * 1024 : Nat) then 0x100 else 0) ||| (if flat then 0x200 else 0)
  let qm := quot ((c.integral s cell).natAbs * 2 ^ 18) (720000 * d)
  let qn : Int := c.tabWord s cell 0x09
  let bits := if bits = 0 ∧ (2 * qm < qn ∨ 12 * qn < 10 * qm) then 0x2000 else bits
  let c := c.putCell s cell 0x30A bits
  if bits ≠ 0 then (c, { a with bad := a.bad + 1, bits := a.bits ||| bits })
  else if !c.bit EST_CTRL.LEARN_Q_EN then (c, a)
  else
    let q : Int := c.cellWord s cell 0x300
    let q := clampInt 0 262143 (q + quot (c.fld EST_LEARN_CFG2.K_Q * (qm - q)) 256)
    let c := (c.putCell s cell 0x300 q.toNat).putCell s cell 0x302 (min (c.cellWord s cell 0x302 + 1) 262143)
    (c, { a with updates := a.updates + 1 })

/-- An anchor opens a segment. -/
def Card.openSegment (c : Card) (s cell soc : Nat) : Card :=
  let c := (c.putIntegral s cell 0).putCell s cell 0x307 soc
  let c := (c.putCell s cell 0x308 (c.frame.toNat % 2 ^ 18)).putCell s cell 0x309 (c.frame.toNat / 2 ^ 18)
  c.putCell s cell 0x30A 0

/-- Resistance learning of a frame (R156): `v` and `last` are the voltages of this frame and the one before. -/
def Card.learnResistance (c : Card) (s cell v last : Nat) : Card :=
  let e := c.estStr s
  match e.mean0, e.mean1 with
  | some i, some j =>
    let f := c.phi s cell 7 (signed 18 (c.cellWord s cell 0x282))
    let rn : Int := c.tabWord s cell 0x0A
    let rm := quot (((v : Int) - last) * 2000 * 4096) ((i - j) * f)
    if ((i - j).natAbs < 200 * c.fld EST_LEARN_CFG2.STEP_I) ∨ !c.bit EST_CTRL.LEARN_R_EN ∨ 2 * rm < rn ∨ 4 * rn < rm then c
    else
      let r : Int := c.cellWord s cell 0x301
      let r := clampInt 0 262143 (r + quot (c.fld EST_LEARN_CFG2.K_R * (rm - r)) 256)
      (c.putCell s cell 0x301 r.toNat).putCell s cell 0x303 (min (c.cellWord s cell 0x303 + 1) 262143)
  | _, _ => c

/-- Batch 4 of one lane. -/
def Card.learnLane (c : Card) (s cell : Nat) (hot gap : Bool) (a : Closed) : Card × Closed :=
  let old := c.learnOf s cell
  let now := c.frameBits s cell hot gap
  let v := if c.measured s cell then some (c.inWord s cell 0) else none
  let fit := v.isSome && decide (now &&& 0xC19 = 0)
  let c := if c.segOpen s cell then
      (c.putCell s cell 0x30A (c.cellWord s cell 0x30A ||| now)).putIntegral s cell
        (c.integral s cell + signed 18 (c.inWord s cell 0x30))
    else c
  let c := match fit, v, old.last with
    | true, some v, some l => c.learnResistance s cell v l
    | _, _, _ => c
  let x := old.hold v
  let rest := c.atRest s x
  let c := c.setLearn s cell { x with atRest := rest, last := if fit then v else none }
  match rest && !old.atRest, v with
  | true, some v =>
    let soc := c.socAt s cell v
    let (c, a) := if c.segOpen s cell then c.closeSegment s cell soc a else (c, a)
    (c.openSegment s cell soc, a)
  | _, _ => (c, a)

/-- Batch 4 of a string: event 0x4010 and the counts where segments closed. -/
def Card.runLearning (c : Card) (s : Nat) : Card :=
  let hot := decide (64 * (c.fld EST_LEARN_CFG0.T_SPREAD : Int) < c.tempSpread s)
  let r := (c.laneCells s).foldl (fun (r : Card × Closed) k =>
    let t := tileOfCell s k
    let gap := r.1.trackGap t || (r.1.til.broken.get (fun _ => 0) t).testBit 1
    r.1.learnLane s k hot gap r.2) (c, {})
  let c := r.1.modEst s fun x => { x with isolated := false }
  let a := r.2
  if a.updates = 0 ∧ a.bad = 0 then c
  else
    let c := (c.count (EST_LEARN_CNT.QUALIFIED s) a.updates).count (EST_LEARN_CNT.DISQUALIFIED s) a.bad
    c.recordStr s 0x4010 [pN s, pN a.updates, pN a.bad, pN a.bits]

/-! ### Lookahead (R151, R152) -/

/-- One slice of a string's lookahead window under draw `n`. The reduced model's values are free; the bisection between 0
and the 60 s power limits is R151's. -/
def Card.lookaheadSlice (c : Card) (s n : Nat) : Card :=
  let x := c.estStr s
  let i := x.slice
  let model := (c.laneCells s).filter fun k => c.partOf s k = .full ∨ c.partOf s k = .zeroed
  let c := c.each model fun c k =>
    let c := c.each (List.range (c.tabWord s k 0x1B)) fun c w =>
      if i ≤ 96 then c.putCell s k (0x3C0 + w) (Config.kernelFree n (cellKey s k) (2 + w) % 2 ^ 18) else c
    let c := c.putCell s k 0x3F0 i
    c.each (List.range 6) fun c w => c.putCell s k (0x3F1 + w) (Config.kernelFree n (cellKey s k) (64 + w) % 2 ^ 18)
  if i = 0 then
    c.modEst s fun x => { x with slice := 1, lo := (0, 0), hi := (c.powerLimit s 4, c.powerLimit s 5), outside := false }
  else if i ≤ 96 then
    let dis := (i - 1) / 8 % 2 = 1
    let out := x.outside || decide (Config.kernelFree n s 1 % 2 = 1)
    let c := c.each (List.range 8) fun c j => c.putChan s (16 + j) true (Config.kernelFree n s (8 + j) % 2 ^ 27 : Nat)
    let c := c.putChan s 24 false (if out then 1 else 0)
    if i % 8 ≠ 0 then c.modEst s fun x => { x with slice := i + 1, outside := out }
    else
      let p := if dis then (x.lo.2 + x.hi.2) / 2 else (x.lo.1 + x.hi.1) / 2
      let put (b : Nat × Nat) : Nat × Nat := if dis then (b.1, p) else (p, b.2)
      c.modEst s fun x =>
        { x with slice := i + 1, outside := false, lo := if out then x.lo else put x.lo, hi := if out then put x.hi else x.hi }
  else if i ≤ 98 then c.modEst s fun x => { x with slice := i + 1 }
  else
    let c := (c.putChan s 25 false (x.lo.1 / 32 : Nat)).putChan s 26 false (x.lo.2 / 32 : Nat)
    c.modEst s fun x => { x with slice := 0 }

/-- Batch 5 of a string. A window that a trap, a cut or a repair interrupted starts anew; so does one without LA_EN. -/
def Card.runLookahead (c : Card) (s n : Nat) : Card :=
  let broken := (tilesOf s).any fun t => (c.til.broken.get (fun _ => 0) t).testBit 2
  let c := if broken ∨ !c.bit EST_CTRL.LA_EN then c.modEst s fun x => { x with slice := 0 } else c
  if c.bit EST_CTRL.LA_EN && (c.estStr s).headerOk then c.lookaheadSlice s n else c

/-! ### The run of a frame (R125, R126) -/

/-- The numbers of the batches that run in this frame. -/
def Card.batchNumbers (c : Card) : List Nat := c.runList.map fun b => b.1

/-- A string's kernels run the classes below `stop` (3 for all); where a class is cut, its tiles stand in batch
`batch`. -/
def Card.runString (c : Card) (n : Nat) (batch : Option Nat) (s : Nat) : Card :=
  if !c.runsKernels s then c
  else
    let stop := match batch with
      | some b => ((c.activeSet.batches[b]?).map (·.2)).getD 0
      | none => 3
    let has (k : Nat) : Bool := decide (k < stop) && c.activeSet.batches.any (fun b => b.2 == k)
      && classRuns (c.fld TIL_STATUS.THROTTLE) c.frame k
    let ts := (tilesOf s).filter fun t => !c.noTile t && decide ((c.tile (c.phys t)).run = 1)
    let cells := (cellsFrom 1 512).filter fun k => ts.contains (tileOfCell s k)
    let c := if has 0 then (c.each cells fun c k => c.runModel s k).reduceLimits s else c
    let c := if has 1 then
        let c := (c.runTracking s).runLearning s
        { c with til.tracked := ts.foldl (fun m t => m.set (fun _ => none) t (some c.frame)) c.til.tracked }
      else c
    let c := if has 2 then c.runLookahead s n else c
    let bits (c : Card) (t : Nat) : Nat := c.til.broken.get (fun _ => 0) t &&& ((if has 1 then 0 else 2) + (if has 2 then 0 else 4))
    let c := { c with til.broken := ts.foldl (fun m t => m.set (fun _ => 0) t (bits c t)) c.til.broken }
    let last := (c.batchNumbers.getLast?).getD 0
    c.each ts fun c t =>
      c.modTile (c.phys t) fun y =>
        let y := { y with
          run := if batch.isSome then 1 else 4, batch := batch.getD last
          cycles := (c.batchNumbers.filter fun b => decide (b ≤ batch.getD last)).foldl (fun m b =>
            m.set (fun _ => 0) b (Config.kernelFree n t (80 + b) % 375001)) [] }
        y.mapLanes lanes8 fun l r =>
          r.flag ((if c.inputEnds s (cellOf t l) && !c.unassigned t l then 8 else 0) ||| Config.kernelFree n (8 * t + l) 0 % 8)

/-- The end of slot 5 under the kernels of delivery. Where the slot's work overran, a free batch is the one cut
(R126). -/
def Card.runKernels (c : Card) (overrun : Bool) : Card :=
  let (n, c) := c.draw
  let bs := c.batchNumbers
  let batch := if overrun then bs[Config.kernelFree n 0 90 % bs.length]? else none
  c.each strings fun c s => c.runString n batch s

end Sys2Proof.Machine
end

