-- ==== Sys2Proof/Machine/Fio.lean ====
section
/-! DEFINITION. Field I/O: the link to the isolated field side, digital inputs and change-of-state reporting, digital
outputs, and the safe state (chapter 15, R391 to R401). -/

namespace Sys2Proof.Machine

/-! ### Digital inputs (R394 to R396) -/

/-- The present filtered level of an input. -/
def Card.diLevel (c : Card) (i : Nat) : Bool := c.fio.levels.getLsbD i

/-- An input is broken. -/
def Card.diBroken (c : Card) (i : Nat) : Bool := (c.fld FIO_DI_STATE.BROKEN).testBit i

/-- A bit of a word set or cleared. -/
def putBit (w i : Nat) (b : Bool) : Nat := (if w.testBit i then w - 2 ^ i else w) + (if b then 2 ^ i else 0)

/-- A change-of-state entry enters the queue, or is dropped and counted (R395). -/
def Card.cosEntry (c : Card) (e : CosEntry) : Card :=
  let c := c.setFld FIO_COS.PEND (putBit (c.fld FIO_COS.PEND) e.input true)
  if 256 ≤ c.fio.cos.length then
    { (c.count FIO_COS_STAT.LOST).stick FIO_STICKY.COS_OVF with fio.lostNow := c.fio.lostNow + 1 }
  else
    let c := { c with fio.cos := c.fio.cos ++ [e] }
    c.setFld FIO_COS_STAT.FILL c.fio.cos.length

/-- A filtered level changes; `pm` is the postmark of the first raw sample at the new level. -/
def Card.diChange (c : Card) (i : Nat) (level : Bool) (pm : Nat) : Card :=
  let on := if level then c.bit (FIO_DI_CFG.COS_RISE i) else c.bit (FIO_DI_CFG.COS_FALL i)
  let c := { c with
    fio.levels := BitVec.ofNat 16 (putBit c.fio.levels.toNat i level)
    fio.runs := c.fio.runs.set (fun _ => (0, 0)) i (0, 0) }
  let c := c.jrnField (19 + i) (if level then 1 else 0)
  if on then c.cosEntry { pm := pm, input := i, level := level, broken := c.diBroken i } else c

/-- One sample of an input: its level changes when FILTER consecutive samples agree on the new one (R394). A broken
input reads OFF. -/
def Card.diSample (c : Card) (i : Nat) (raw : Bool) : Card :=
  let v := raw && !c.diBroken i
  let r := c.fio.runs.get (fun _ => (0, 0)) i
  let put (x : Nat × Nat) : Card := { c with fio.runs := c.fio.runs.set (fun _ => (0, 0)) i x }
  if v = c.diLevel i then put (0, 0)
  else
    let first := if r.1 = 0 then c.pm else r.2
    if c.fld (FIO_DI_CFG.FILTER i) ≤ r.1 + 1 then c.diChange i v first else put (r.1 + 1, first)

/-- DI_SAMPLE (R394). While the field side is silent or without power the inputs keep their last levels (R393). -/
def execDiSample (levels : BitVec 16) (s : State) : Host.Outcome State Fault Refusal :=
  s.on fun c =>
    if !c.bit FIO_STATUS.LINK_OK || !c.fio.powered then c
    else c.each (List.range 16) fun c i => c.diSample i (levels.getLsbD i)

/-- An input with WB_EN becomes broken and reads OFF, or is intact again (R396). -/
def Card.wireBreak (c : Card) (input : Nat) (broken : Bool) : Card :=
  if 16 ≤ input ∨ !c.bit (FIO_DI_CFG.WB_EN input) ∨ c.diBroken input = broken then c
  else
    let c := c.setFld FIO_DI_STATE.BROKEN (putBit (c.fld FIO_DI_STATE.BROKEN) input broken)
    if broken then
      let c := (c.stick FIO_STICKY.BROKEN).record 0xD001 [pN input]
      if c.diLevel input then c.diChange input false c.pm else c
    else c.record 0xD002 [pN input]

/-- WIRE_BREAK (R396). What happens while the field side is silent is told when the link returns (R393). -/
def execWireBreak (input : Nat) (broken : Bool) (s : State) : Host.Outcome State Fault Refusal :=
  s.on fun c =>
    if c.bit FIO_STATUS.LINK_OK then c.wireBreak input broken
    else { c with fio.late := c.fio.late ++ [(input, broken)] }

/-! ### Pigeonholes (R403) -/

/-- The key of a pigeonhole. -/
def holeKey (n h : Nat) : Nat := 128 * n + h

/-- A pigeonhole. -/
def Card.hole (c : Card) (n h : Nat) : Hole := c.can.holes.get (fun _ => {}) (holeKey n h)

/-- Changes a pigeonhole. -/
def Card.modHole (c : Card) (n h : Nat) (f : Hole → Hole) : Card :=
  { c with can.holes := c.can.holes.set (fun _ => {}) (holeKey n h) (f (c.hole n h)) }

/-- The holes' numbers. -/
def holeNumbers : List Nat := List.range 128

/-! ### The link and the safe-state table (R392, R393, R399) -/

/-- The table that the logic side sends. -/
def Card.safeTable (c : Card) : SafeTable :=
  { actions := c.fld FIO_DO_SAFE.ACTION, timeout := c.fld FIO_DO_SAFE.TIMEOUT
    aos := [0, 1, 2, 3].map fun n => (c.fld (THM_AO_CFG.RANGE n), c.fld (THM_AO_CFG.SAFE n)) }

/-- The field side drives the commanded levels but where an output keeps its safe value or is off in fault. -/
def Card.driveDo (c : Card) : Card :=
  let keep := c.fio.safeDo
  let cmd := BitVec.ofNat 8 (c.fld FIO_DO_STATE.CMD)
  { c with fio.drive := ((c.fio.drive &&& keep) ||| (cmd &&& ~~~keep)) &&& ~~~c.fio.tripped }

/-- SAFE_ACTIVE clears when every output has been written again (R401). -/
def Card.endSafe (c : Card) : Card :=
  if c.fio.safeDo = 0 ∧ c.fio.safeAo = 0 ∧ !c.fio.silent ∧ c.fio.report.isNone
  then c.setFld FIO_STATUS.SAFE_ACTIVE 0 else c

/-- The field side reports a safe state once the link has returned (R297, R400): SAFE_ACTIVE, SAFE_ENTERED, 0xD022, and
0x9021 for each analog output. -/
def Card.reportSafe (c : Card) : Card :=
  match (if c.fio.silent then none else c.fio.report) with
  | none => c
  | some cause =>
    let c := { c with fio.report := none }
    let c := ((c.setFld FIO_STATUS.SAFE_ACTIVE 1).stick FIO_STICKY.SAFE_ENTERED).record 0xD022 [pN cause]
    c.each [0, 1, 2, 3] fun c n =>
      if c.fio.safeAo.testBit n then (c.stick THM_STICKY.AO_SAFE).record 0x9021 [pN n, pN (c.fld (THM_AO_OUT.CODE n))]
      else c

/-- The logic side has sent the table that was due (R399). -/
def Card.tableSent (c : Card) : Card :=
  if c.fio.tableDue then { c with fio.tableDue := false, fio.tableAge := 0 } else c

/-- A valid logic-side frame: the output commands, and the table where it is due. -/
def Card.frameToField (c : Card) : Card :=
  let c := { c with fio.silent := false }
  let c := if c.fio.tableDue then { c with fio.table := some c.safeTable } else c
  c.tableSent.driveDo

/-- A valid field-side frame: read-backs, the CAN time counter, and what the field side reports; `copyOk` is its check of
the table it holds (R399). -/
def Card.frameFromField (c : Card) (copyOk : Bool) (readback : BitVec 8) (canCount : BitVec 32) : Card :=
  let c := (c.setFld FIO_DO_STATE.READBACK readback.toNat).setFld FIO_DO_STATE.FAULT c.fio.tripped.toNat
  let c := { c with can.count := canCount }.setFld CAN_TCNT_LIVE.CNT canCount.toNat
  let spoilt := !copyOk && c.fio.table.isSome
  let c := if spoilt then { c with fio.table := none } else c
  let held := c.fio.table.isSome
  let c := if c.bit FIO_STATUS.TABLE_OK && !held then c.record 0xD023 [pN (if spoilt then 1 else 0)] else c
  let c := c.setBit FIO_STATUS.TABLE_OK held
  if c.bit FIO_STATUS.LINK_OK then c.reportSafe else c

/-- FIELD_LINK_FRAME (R392): an invalid frame brings nothing, nor does one while the field side has no power. -/
def execFieldLinkFrame (toField valid copyOk : Bool) (readback : BitVec 8) (canCount : BitVec 32) (s : State) :
    Host.Outcome State Fault Refusal :=
  s.on fun c =>
    if valid && c.fio.powered then (if toField then c.frameToField else c.frameFromField copyOk readback canCount)
    else if toField then c.tableSent else c

/-- FIELD_SIDE_SILENT (R393). -/
def execFieldSideSilent (s : State) : Host.Outcome State Fault Refusal :=
  s.on fun c =>
    if c.bit FIO_STATUS.LINK_OK then
      let c := (c.setFld FIO_STATUS.LINK_OK 0).stick FIO_STICKY.LINK_LOST
      { c with fio.lostAt := c.frame }.record 0xD020 [c.frame]
    else c

/-- LINK_RESTORED (R393): LINK_OK returns, event 0xD021 with the frames lost; wire breaks of the silent time are told. -/
def execLinkRestored (s : State) : Host.Outcome State Fault Refusal :=
  s.on fun c =>
    if c.bit FIO_STATUS.LINK_OK || !c.fio.powered then c
    else
      let c := ((c.setFld FIO_STATUS.LINK_OK 1).record 0xD021 [pN (framesSince c.frame c.fio.lostAt)]).reportSafe
      { c with fio.late := [] }.each c.fio.late fun c x => c.wireBreak x.1 x.2

/-- SAFE_STATE (R400): the field side drives its outputs by the table it holds, or holds them. Without field power there
is nothing to drive. -/
def execSafeState (s : State) : Host.Outcome State Fault Refusal :=
  s.on fun c =>
    if c.fio.silent || !c.fio.powered then c
    else
      let usable := c.fio.table.isSome
      let actions := (c.fio.table.map (·.actions)).getD 0
      let level (i : Nat) : Bool :=
        if !usable then c.fio.drive.getLsbD i
        else match actions / 4 ^ i % 4 with
          | 0 => false
          | 1 => true
          | _ => c.fio.drive.getLsbD i
      let drive := BitVec.ofNat 8 ((List.range 8).foldl (fun (w i : Nat) => putBit w i (level i)) 0) &&& ~~~c.fio.tripped
      let live := [0, 1, 2, 3].filter fun n => decide (c.fld (THM_AO_OUT.STATE n) ≠ 0)
      let c := { c with
        fio.silent := true, fio.drive := drive, fio.report := some (if usable then 0 else 1), fio.safeDo := 0xFF
        fio.safeAo := live.foldl (fun (m n : Nat) => m + 2 ^ n) 0
        can.lastFrames := [0, 1].filter fun n => holeNumbers.any fun h => (c.hole n h).asked }
      c.each live fun c n =>
        if (c.ao n).change.isSome then c.modAo n fun x => { x with safeMet := true }
        else
          let safe := ((c.fio.table.bind fun t => t.aos[n]?).map (·.2)).getD (c.fld (THM_AO_OUT.CODE n))
          (c.driveAo n safe 3).modAo n fun x => { x with onSafe := usable }

/-! ### Digital outputs (R397, R398) -/

/-- DO_FAULT (R398): an output that is on switches itself off. -/
def execDoFault (output : Nat) (thermal : Bool) (s : State) : Host.Outcome State Fault Refusal :=
  s.on fun c =>
    if 8 ≤ output ∨ !c.fio.drive.getLsbD output then c
    else
      let c := c.setFld FIO_DO_STATE.FAULT (putBit (c.fld FIO_DO_STATE.FAULT) output true)
      let off := BitVec.ofNat 8 (2 ^ output)
      let c := { c with fio.drive := c.fio.drive &&& ~~~off, fio.tripped := c.fio.tripped ||| off }
      (c.stick FIO_STICKY.DO_FAULT).record 0xD010 [pN output, pN (if thermal then 1 else 0)]

/-- DO_SUP_CHANGE (R398): DO_SUP leaves its range or returns to it. -/
def execDoSupChange (inRange : Bool) (volts : Nat) (s : State) : Host.Outcome State Fault Refusal :=
  s.on fun c =>
    let c := c.setBit FIO_STATUS.SUP_OK inRange
    if !inRange then (c.stick FIO_STICKY.SUP_LOW).record 0xD011 [pN volts] else c

/-- FIELD_POWER_LOST (R391): the outputs are off and the CAN ports recessive. The field side holds no table (R399). -/
def execFieldPowerLost (s : State) : Host.Outcome State Fault Refusal :=
  s.on fun c => { c with fio.powered := false, fio.drive := 0, fio.table := none }

/-- FIELD_POWER_UP (R399): no table is held until the first one arrives; the logic side sends it again within 256
frames. -/
def execFieldPowerUp (s : State) : Host.Outcome State Fault Refusal :=
  s.on fun c => if c.fio.powered then c else { c with fio.powered := true, fio.silent := false }

/-- FIO_DO_WRITE (0x90): at its trigger's slot boundary; of overlapping writes of one boundary the later-submitted is
applied whole, the earlier not at all (R397). While the field side hears nothing, a write leaves the safe values (R401). -/
def rowFioDoWrite : Row where
  opcode := 0x90
  role := 1
  args _ d := if !(d.only [(0, 2), (8, 8)] && decide (d.byte 0 ≠ 0) && !trigReserved (d.at 8 8))
    then some (7, 0xD001) else none
  hold := true
  checks c _ := if c.bit FIO_STATUS.LINK_OK then none else some (3, 0xD003, 0)
  trig d := some (d.at 8 8)
  start _ c := c
  fire slot c :=
    let d := c.descOf slot
    let mask := BitVec.ofNat 8 (d.byte 0)
    let order := ((c.op slot).map (·.order)).getD 0
    let later := c.fio.setNow.any (fun x => decide (order < x.1) && x.2 &&& mask != 0)
      || c.running.any fun x => decide (x.2.opcode = 0x90) && decide (order < x.2.order)
          && BitVec.ofNat 8 (x.2.desc.byte 0) &&& mask != 0 && x.2.trig.any c.trigDue
    if !c.bit FIO_STATUS.LINK_OK then c.complete slot 3 0xD003
    else if later then c.complete slot 3 0xD002
    else
      let on := mask &&& BitVec.ofNat 8 (d.byte 1)
      let cmd := (BitVec.ofNat 8 (c.fld FIO_DO_STATE.CMD) &&& ~~~mask) ||| on
      let off := c.fio.tripped &&& ~~~on
      let c := ((c.commit slot).setFld FIO_DO_STATE.CMD cmd.toNat).setFld FIO_DO_STATE.FAULT off.toNat
      let keep := if c.fio.silent then c.fio.safeDo else c.fio.safeDo &&& ~~~mask
      { c with fio.setNow := c.fio.setNow ++ [(order, mask)], fio.safeDo := keep, fio.tripped := off }.endSafe.done slot

/-- FIO_DO_WRITE. -/
def execFioDoWrite (d : Desc) (s : State) : Host.Outcome State Fault Refusal := s.on fun c => c.accept rowFioDoWrite d

/-- The bytes of a change-of-state entry (R411). -/
def CosEntry.bytes (e : CosEntry) : List Byte :=
  le 8 e.pm ++ le 1 e.input ++ le 1 ((if e.level then 1 else 0) + (if e.broken then 2 else 0)) ++ le 6 0

/-- FIO_COS_READ (0x91): the oldest entries, freed. -/
def rowFioCosRead : Row where
  opcode := 0x91
  role := 1
  args _ d := if d.only [(0, 2), (8, 8)] && within 1 256 (d.at 0 2) then none else some (7, 0xD001)
  start slot c :=
    let d := c.descOf slot
    let es := c.fio.cos.take (d.at 0 2)
    let c := { c.commit slot with fio.cos := c.fio.cos.drop (d.at 0 2) }
    (c.setFld FIO_COS_STAT.FILL c.fio.cos.length).doneWith slot (d.at 8 8) (es.flatMap CosEntry.bytes) (pN es.length)

/-- FIO_COS_READ. -/
def execFioCosRead (d : Desc) (s : State) : Host.Outcome State Fault Refusal := s.on fun c => c.accept rowFioCosRead d

/-! ### Boundaries -/

/-- A slot begins: FIO_DI_STATE shows the filtered levels, an input without WB_EN is not broken, and the boundary's
applications start anew. -/
def Card.fioSlot (c : Card) : Card :=
  let c := { c with fio.setNow := [], thm.setNow := [] }.setFld FIO_DI_STATE.LEVEL c.fio.levels.toNat
  let broken := c.fld FIO_DI_STATE.BROKEN
  if broken = 0 then c
  else c.each (List.range 16) fun c i =>
    if c.diBroken i && !c.bit (FIO_DI_CFG.WB_EN i)
    then c.setFld FIO_DI_STATE.BROKEN (putBit (c.fld FIO_DI_STATE.BROKEN) i false) else c

/-- A frame begins: dropped entries of the last frame are told, and the table is sent again every 256 frames. -/
def Card.fioFrame (c : Card) : Card :=
  let n := c.fio.lostNow
  let age := c.fio.tableAge + 1
  let c := { c with fio.lostNow := 0, fio.tableAge := age, fio.tableDue := c.fio.tableDue || decide (256 ≤ age) }
  (if n = 0 then c else c.record 0xD003 [pN n]).endSafe

end Sys2Proof.Machine
end

