-- ==== Sys2Proof/Machine/Can.lean ====
section
/-! DEFINITION. CAN FD: pigeonholes, sending, the time counter, error states and sleep (chapter 15, R402 to R409). -/

namespace Sys2Proof.Machine

/-- CAN_STATUS.STATE: 0 DISABLED, 1 INTEGRATING, 2 ERROR_ACTIVE, 3 ERROR_PASSIVE, 4 BUS_OFF, 5 SLEEP. -/
def Card.canState (c : Card) (n : Nat) : Nat := c.fld (CAN_STATUS.STATE n)

/-- The data length of a DLC: in a classical frame at most 8. -/
def dlcLength (fdf : Bool) (dlc : Nat) : Nat :=
  if dlc ≤ 8 then dlc
  else if !fdf then 8
  else match dlc with
    | 9 => 12
    | 10 => 16
    | 11 => 20
    | 12 => 24
    | 13 => 32
    | 14 => 48
    | _ => 64

/-- The window shows the hole that CAN_WIN_SEL names (R405). -/
def Card.showHole (c : Card) : Card :=
  let k := c.fld CAN_WIN_SEL.SEL
  let h := c.hole (k / 128) (k % 128)
  let dir := c.fld (CAN_HOLE_ID.DIR (k / 128) (k % 128))
  let c := (c.setBit CAN_WIN_STAT.NEW_DATA h.fresh).setBit CAN_WIN_STAT.MSG_LOST h.lost
  let c := (c.setFld CAN_WIN_STAT.UPD h.upd).setFld CAN_WIN_STAT.FRAME
    (h.dlc + (if h.fdf then 16 else 0) + (if h.brs then 32 else 0) + (if h.esi then 64 else 0) + 128 * dir)
  let c := (c.setFld CAN_WIN_ID.ID h.id.toNat).setFld CAN_WIN_TS.STAMP h.stamp.toNat
  c.each (List.range 16) fun c w => c.setFld (CAN_WIN_DATA.DATA w) (leAt (h.data ++ List.replicate 64 0) (4 * w) 4)

/-! ### Receiving (R403, R405, R406) -/

/-- The postmark of a stamp, by the capture that precedes it (R406). -/
def Card.stampPm (c : Card) (stamp : BitVec 32) : Nat :=
  let d := (stamp - c.can.cap.1).toNat
  if d < 2 ^ 31 then c.can.cap.2 + 1000 * d else c.can.capPrev.2 + 1000 * (stamp - c.can.capPrev.1).toNat

/-- The lowest-numbered enabled receive hole that a frame matches (R403). -/
def Card.holeFor (c : Card) (n : Nat) (f : CanFrame) : Option Nat :=
  holeNumbers.find? fun h =>
    let mask := BitVec.ofNat 29 (c.fld (CAN_HOLE_CFG.MASK n h))
    c.bit (CAN_HOLE_ID.EN n h) && !c.bit (CAN_HOLE_ID.DIR n h) && c.bit (CAN_HOLE_ID.IDE n h) == f.ide
      && (f.id &&& mask == BitVec.ofNat 29 (c.fld (CAN_HOLE_ID.ID n h)) &&& mask)

/-- A frame is stored in its hole, or discarded as unmatched (R403). Every store fires source 78. -/
def Card.storeFrame (c : Card) (n : Nat) (f : CanFrame) : Card :=
  match (if f.remote then none else c.holeFor n f) with
  | none => c.count (CAN_CNT.UNMATCHED n)
  | some h =>
    let over' := (c.hole n h).fresh
    let pm := c.stampPm f.stamp
    let c := c.modHole n h fun x => { x with
      id := BitVec.ofNat 30 (f.id.toNat + (if f.ide then 2 ^ 29 else 0)), dlc := f.dlc.toNat, fdf := f.fdf
      brs := f.brs, esi := f.esi, data := f.data.take (dlcLength f.fdf f.dlc.toNat), stamp := f.stamp, pm := pm
      upd := (x.upd + 1) % 256, fresh := true, lost := x.lost || over'
      lostNow := x.lostNow + (if over' then 1 else 0) }
    let c := if over' then (c.stick (CAN_STICKY.MSG_LOST n)).count (CAN_CNT.LOST n) else c
    let c := if c.bit (CAN_STICKY.RX n) then c.fire 78 else c.stick (CAN_STICKY.RX n)
    c.showHole

/-- The controller's wake filter takes a frame (R408). -/
def Card.wakeMatch (c : Card) (n : Nat) (f : CanFrame) : Bool :=
  let id := c.fld (CAN_WAKE_ID.ID n)
  let mask := BitVec.ofNat 29 (c.fld (CAN_WAKE_MASK.MASK n))
  decide (c.fld (CAN_CTRL.WAKE_MODE n) = 2) && (decide (2 ^ 29 ≤ id) == f.ide)
    && (f.id &&& mask == BitVec.ofNat 29 id &&& mask)

/-- CAN_FRAME_RECEIVED (R403): by a controller on the bus, or in sleep a wake frame; an FD frame only with FD_EN, and
none in internal loopback. While LINK_OK is 0 the pigeonholes do not change (R393). -/
def execCanFrameReceived (ctl : Nat) (f : CanFrame) (s : State) : Host.Outcome State Fault Refusal :=
  s.on fun c =>
    let st := c.canState ctl
    if 2 ≤ ctl ∨ !c.bit FIO_STATUS.LINK_OK ∨ !c.fio.powered then c
    else if (f.fdf = true ∧ !c.bit (CAN_CTRL.FD_EN ctl)) ∨ c.fld (CAN_CTRL.MODE ctl) = 2 then c
    else if st = 2 ∨ st = 3 ∨ (st = 5 ∧ c.wakeMatch ctl f) then (c.jrnField (35 + ctl) f.id.toNat f.data).storeFrame ctl f
    else c

/-! ### Sending (R404) -/

/-- The controller may send: on the bus, not listen-only, the field side with power, and the logic side not silent but for
the frame in progress then (R400). -/
def Card.canSends (c : Card) (n : Nat) : Bool :=
  (decide (c.canState n = 2) || decide (c.canState n = 3)) && decide (c.fld (CAN_CTRL.MODE n) ≠ 1)
    && c.bit FIO_STATUS.LINK_OK && c.fio.powered && (!c.fio.silent || c.can.lastFrames.contains n)

/-- The identifier by which a hole arbitrates: a base identifier precedes an extended one of equal leading bits. -/
def Card.arbId (c : Card) (n h : Nat) : Nat :=
  let id := c.fld (CAN_HOLE_ID.ID n h)
  if c.bit (CAN_HOLE_ID.IDE n h) then 2 * id + 1 else 2 * (id * 2 ^ 18)

/-- The requested hole that the controller sends: the lowest identifier, then the lowest number (R404). -/
def Card.sendHole (c : Card) (n : Nat) : Option Nat :=
  holeNumbers.foldl (fun (a : Option Nat) h =>
    if !((c.hole n h).asked && c.bit (CAN_HOLE_ID.EN n h) && c.bit (CAN_HOLE_ID.DIR n h)) then a
    else match a with
      | some b => if c.arbId n h < c.arbId n b then some h else a
      | none => some h) none

/-- A hole is requested for a CAN_SEND, which holds its data, or by its PERIOD: a sleeping controller has a cause to wake
(R404, R408). -/
def Card.askHole (c : Card) (n h : Nat) (f : Hole → Hole) : Card :=
  let c := c.modHole n h fun x => { f x with asked := true }
  if c.canState n = 5 ∧ !c.can.asks.contains n then { c with can.asks := c.can.asks ++ [n] } else c

/-- A CAN_SEND asks for its hole; `at'` is the frame of its trigger. -/
def Card.askSend (c : Card) (n h slot : Nat) (at' : BitVec 32) : Card :=
  let d := c.descOf slot
  let fdf := (c.reg (CAN_HOLE_CFG n h)).getLsbD 0
  c.askHole n h fun x =>
    { x with op := some slot, send := some (d.byte 2, d.buf.take (dlcLength fdf (d.byte 2))), at' := at' }

/-- A hole's request ends; a CAN_SEND that waited behind it asks in its turn. -/
def Card.endSend (c : Card) (n h : Nat) : Card :=
  let next := (c.hole n h).next
  let c := c.modHole n h fun x => { x with asked := false, op := none, next := none }
  match next with
  | some (slot, at') => c.askSend n h slot at'
  | none => c

/-- CAN_FRAME_SENT (R404): the hole's frame is acknowledged and its CAN_SEND completes. In internal loopback the
controller receives what it sends. -/
def execCanFrameSent (ctl : Nat) (s : State) : Host.Outcome State Fault Refusal :=
  s.on fun c =>
    if 2 ≤ ctl ∨ !c.canSends ctl then c
    else match c.sendHole ctl with
      | none => c
      | some h =>
        let x := c.hole ctl h
        let c := { c with can.lastFrames := c.can.lastFrames.filter (· ≠ ctl) }.endSend ctl h
        let c := match x.op with
          | some slot => (c.commit slot).done slot
          | none => c
        if c.fld (CAN_CTRL.MODE ctl) ≠ 2 then c
        else
          let cfg := (c.reg (CAN_HOLE_CFG ctl h)).toNat
          let fdf := cfg.testBit 0 && c.bit (CAN_CTRL.FD_EN ctl)
          let (dlc, data) := x.send.getD (0, [])
          c.storeFrame ctl {
            id := BitVec.ofNat 29 (c.fld (CAN_HOLE_ID.ID ctl h)), ide := c.bit (CAN_HOLE_ID.IDE ctl h)
            dlc := BitVec.ofNat 4 dlc, fdf := fdf, brs := fdf && cfg.testBit 1, data := data, stamp := c.can.count }

/-- CAN_SEND_TIMEOUT (R404): a send not acknowledged within TX_TO frames of its trigger stops. -/
def execCanSendTimeout (ctl hole : Nat) (s : State) : Host.Outcome State Fault Refusal :=
  s.on fun c =>
    let x := c.hole ctl hole
    if 2 ≤ ctl ∨ 128 ≤ hole ∨ !x.asked ∨ framesSince c.frame x.at' < c.fld (CAN_CTRL.TX_TO ctl) then c
    else
      let c := c.endSend ctl hole
      let c := (c.stick (CAN_STICKY.TX_TIMEOUT ctl)).record 0xE007 [pN ctl, pN hole]
      match x.op with
      | some slot => (c.commit slot).complete slot 0x0C 0xE006
      | none => c

/-- CAN_SEND (0x92): at its trigger the hole is requested with its data. An earlier CAN_SEND of the hole is superseded
unless its first attempt has begun, of which the spec gives no event: whether it has is a free value; the later one then
waits for its end. -/
def rowCanSend : Row where
  opcode := 0x92
  role := 1
  args c d := if !(d.only [(0, 3), (8, 16)] && decide (d.byte 0 ≤ 1) && decide (d.byte 1 ≤ 127) && decide (d.byte 2 ≤ 15)
      && (decide (d.byte 2 ≤ 8) || c.bit (CAN_CTRL.FD_EN (d.byte 0))) && !trigReserved (d.at 8 8))
      then some (7, 0xE001) else none
  hold := true
  checks c d :=
    let (n, h) := (d.byte 0, d.byte 1)
    if !c.bit FIO_STATUS.LINK_OK then some (3, 0xE007, 0)
    else if !c.bit (CAN_CTRL.EN n) then some (3, 0xE002, 0)
    else if !(c.bit (CAN_HOLE_ID.EN n h) && c.bit (CAN_HOLE_ID.DIR n h)) then some (3, 0xE003, 0)
    else if c.fld (CAN_CTRL.MODE n) = 1 then some (3, 0xE004, 0)
    else none
  trig d := some (d.at 8 8)
  start _ c := c
  fire slot c :=
    let d := c.descOf slot
    let (n, h) := (d.byte 0, d.byte 1)
    if !c.bit FIO_STATUS.LINK_OK then c.complete slot 3 0xE007
    else
      let c := c.modOp slot fun o => { o with trig := none, phase := 1 }
      match (c.hole n h).op with
      | none => c.askSend n h slot c.frame
      | some o =>
        let (k, c) := c.draw
        if ((c.op o).map (·.committed)).getD false || Config.sendBegun k then
          let c := c.commit o
          let c := match (c.hole n h).next with
            | some p => c.complete p.1 3 0xE005
            | none => c
          c.modHole n h fun x => { x with next := some (slot, c.frame) }
        else (c.complete o 3 0xE005).askSend n h slot c.frame

/-- CAN_SEND. -/
def execCanSend (d : Desc) (s : State) : Host.Outcome State Fault Refusal := s.on fun c => c.accept rowCanSend d

/-- A withdrawn CAN_SEND leaves its hole. -/
def Card.withdrawSend (c : Card) (slot : Nat) : Card :=
  c.each c.can.holes fun c x =>
    let (n, h) := (x.1 / 128, x.1 % 128)
    if x.2.op = some slot then c.endSend n h
    else if x.2.next.any fun y => y.1 == slot then c.modHole n h fun y => { y with next := none }
    else c

/-- The bytes of a hole in CAN_READ (R411). -/
def Card.holeBytes (c : Card) (n h : Nat) : List Byte :=
  let x := c.hole n h
  le 4 (c.reg (CAN_HOLE_ID n h)).toNat ++ le 1 x.dlc
    ++ le 1 ((if x.fresh then 1 else 0) + (if x.lost then 2 else 0) + (if x.fdf then 4 else 0) + (if x.brs then 8 else 0)
      + (if x.esi then 16 else 0))
    ++ le 1 x.upd ++ le 1 0 ++ le 4 x.stamp.toNat ++ le 4 0 ++ le 8 x.pm ++ le 8 0
    ++ (x.data ++ List.replicate 64 0).take 64

/-- CAN_READ (0x93): copies the holes and clears their NEW_DATA. -/
def rowCanRead : Row where
  opcode := 0x93
  role := 1
  args _ d := if d.only [(0, 3), (8, 8)] && decide (d.byte 0 ≤ 1) && decide (d.byte 1 + d.byte 2 ≤ 128) && decide (d.byte 1 ≤ 127)
    then none else some (7, 0xE001)
  start slot c :=
    let d := c.descOf slot
    let hs := (List.range (d.byte 2)).map (· + d.byte 1)
    let bs := hs.flatMap fun h => c.holeBytes (d.byte 0) h
    let c := (c.commit slot).each hs fun c h => c.modHole (d.byte 0) h fun x => { x with fresh := false }
    c.showHole.doneWith slot (d.at 8 8) bs

/-- CAN_READ. -/
def execCanRead (d : Desc) (s : State) : Host.Outcome State Fault Refusal := s.on fun c => c.accept rowCanRead d

/-! ### Error states (R407, R409) -/

/-- A controller leaves error active by error. -/
def Card.leaveActive (c : Card) (n : Nat) : Card :=
  if c.can.wasOff.contains n then c else { c with can.wasOff := c.can.wasOff ++ [n] }

/-- A controller is error active again: event 0xE003. -/
def Card.errorActive (c : Card) (n : Nat) : Card :=
  { c with can.wasOff := c.can.wasOff.filter (· ≠ n) }.setFld (CAN_STATUS.STATE n) 2 |>.record 0xE003 [pN n]

/-- CAN_ERROR (R407): the counters change, and may change the state under ISO 11898-1: error passive above 127, bus-off
above 255. -/
def execCanError (ctl tec rec : Nat) (s : State) : Host.Outcome State Fault Refusal :=
  s.on fun c =>
    let st := c.canState ctl
    if 2 ≤ ctl ∨ (st ≠ 2 ∧ st ≠ 3) then c
    else
      let c := (c.setFld (CAN_STATUS.TEC ctl) (min tec 255)).setFld (CAN_STATUS.REC ctl) (min rec 255)
      if 255 < tec then
        ((c.leaveActive ctl).setFld (CAN_STATUS.STATE ctl) 4 |>.stick (CAN_STICKY.BUS_OFF ctl)).record
          0xE002 [pN ctl]
      else if 127 < tec ∨ 127 < rec then
        if st = 3 then c
        else (((c.leaveActive ctl).setFld (CAN_STATUS.STATE ctl) 3).stick (CAN_STICKY.ERR_PASSIVE ctl)).record 0xE001
          [pN ctl, pN (min tec 255), pN (min rec 255)]
      else if st = 3 then c.errorActive ctl
      else c

/-- CAN_BUS_OFF_RECOVERY (R407): with AUTO_RECOVER, after 128 occurrences of 11 recessive bits. -/
def execCanBusOffRecovery (ctl : Nat) (s : State) : Host.Outcome State Fault Refusal :=
  s.on fun c =>
    if 2 ≤ ctl ∨ c.canState ctl ≠ 4 ∨ !c.bit (CAN_CTRL.AUTO_RECOVER ctl) then c
    else ((c.setFld (CAN_STATUS.TEC ctl) 0).setFld (CAN_STATUS.REC ctl) 0).errorActive ctl

/-- CAN_INTEGRATION_END (R409): a controller in INTEGRATING sees the bus idle; one that had left error active by error
returns to it with its counters cleared. -/
def execCanIntegrationEnd (ctl : Nat) (s : State) : Host.Outcome State Fault Refusal :=
  s.on fun c =>
    if 2 ≤ ctl ∨ c.canState ctl ≠ 1 then c
    else if c.can.wasOff.contains ctl then
      ((c.setFld (CAN_STATUS.TEC ctl) 0).setFld (CAN_STATUS.REC ctl) 0).errorActive ctl
    else c.setFld (CAN_STATUS.STATE ctl) 2

/-! ### Sleep (R408) -/

/-- The CAN_SLEEP operations of a controller and an action that wait. -/
def Card.sleepOps (c : Card) (n action : Nat) : List (Nat × Op) :=
  c.running.filter fun x => decide (x.2.opcode = 0x94) && decide (x.2.desc.byte 0 = n) && decide (x.2.desc.byte 1 = action)
    && !x.2.produced

/-- CAN_SLEEP (0x94). In the state asked for already, it completes at once. -/
def rowCanSleep : Row where
  opcode := 0x94
  role := 2
  args _ d := if d.only [(0, 2)] && decide (d.byte 0 ≤ 1) && decide (d.byte 1 ≤ 1) then none else some (7, 0xE001)
  checks c d := if c.bit (CAN_CTRL.EN (d.byte 0)) then none else some (3, 0xE002, 0)
  start slot c :=
    let d := c.descOf slot
    if (d.byte 1 = 0) = (c.canState (d.byte 0) = 5) then (c.commit slot).done slot else c

/-- CAN_SLEEP. -/
def execCanSleep (d : Desc) (s : State) : Host.Outcome State Fault Refusal := s.on fun c => c.accept rowCanSleep d

/-- CAN_SLEEP_ENTRY (R408): the bus is idle after a sleep request. A controller in bus-off stays there (R407). -/
def execCanSleepEntry (ctl : Nat) (s : State) : Host.Outcome State Fault Refusal :=
  s.on fun c =>
    let ops := c.sleepOps ctl 0
    let st := c.canState ctl
    if 2 ≤ ctl ∨ ops = [] ∨ st = 0 ∨ st = 4 ∨ st = 5 then c
    else
      let c := ({ c with can.asks := c.can.asks.filter (· ≠ ctl) }.setFld (CAN_STATUS.STATE ctl) 5).record 0xE005 [pN ctl]
      c.each ops fun c x => (c.commit x.1).done x.1

/-- What wakes a controller holds: 0 a host request or a send request, 1 a dominant level, 2 a wake frame. -/
def Card.wakes (c : Card) (n cause : Nat) : Bool :=
  match cause with
  | 0 => decide (c.sleepOps n 1 ≠ []) || c.can.asks.contains n
  | 1 => decide (c.fld (CAN_CTRL.WAKE_MODE n) = 1)
  | 2 => decide (c.fld (CAN_CTRL.WAKE_MODE n) = 2)
  | _ => false

/-- CAN_WAKE (R408): event 0xE006, and INTEGRATING. -/
def execCanWake (ctl cause : Nat) (s : State) : Host.Outcome State Fault Refusal :=
  s.on fun c =>
    if 2 ≤ ctl ∨ c.canState ctl ≠ 5 ∨ !c.wakes ctl cause then c
    else
      let ops := c.sleepOps ctl 1
      let c := ((c.setFld (CAN_STATUS.STATE ctl) 1).stick (CAN_STICKY.WAKE ctl)).record 0xE006 [pN ctl, pN cause]
      c.each ops fun c x => (c.commit x.1).done x.1

/-! ### Boundaries and snapshots (R404, R406, R409) -/

/-- A frame begins: the counter is captured, periodic holes are requested, overwrites of the last frame are told. -/
def Card.canFrame (c : Card) : Card :=
  let c := { c with
    can.capPrev := c.can.cap, can.cap := (c.can.count, c.tim.framePm), can.capFrame := c.frame }
  c.each [0, 1] fun c n =>
    let c := c.each (holeNumbers.filter fun h => decide ((c.hole n h).lostNow ≠ 0)) fun c h =>
      (c.record 0xE004 [pN n, pN h, pN (c.hole n h).lostNow]).modHole n h fun x => { x with lostNow := 0 }
    c.each holeNumbers fun c h =>
      let period := (c.reg (CAN_HOLE_CFG n h)).toNat / 4 % 2 ^ 16
      if c.bit (CAN_HOLE_ID.EN n h) && c.bit (CAN_HOLE_ID.DIR n h) && decide (period ≠ 0)
          && decide (c.frame.toNat % period = 0) && (c.hole n h).send.isSome && c.bit (CAN_CTRL.EN n) then
        c.askHole n h fun x => { x with at' := if x.asked then x.at' else c.frame }
      else c

/-- CAN_TS_SNAPSHOT (R406). -/
def execCanTsSnapshot (s : State) : Host.Outcome State Fault Refusal :=
  s.on fun c =>
    let c := c.jrnFree 0x06
    let c := (c.setFld CAN_TS_PM_LO.PM c.can.cap.2).setFld CAN_TS_PM_HI.PM (c.can.cap.2 / 2 ^ 32)
    (c.setFld CAN_TS_CNT.CNT c.can.cap.1.toNat).setFld CAN_TS_FRAME.FRAME c.can.capFrame.toNat

/-- A warm reset clears every pigeonhole's data, UPD and flags; an enabled controller rejoins through INTEGRATING
(R409). -/
def Card.canWarm (c : Card) : Card :=
  let c := { c with can.holes := [], can.asks := [], can.lastFrames := [] }
  (c.each [0, 1] fun c n => c.setFld (CAN_STATUS.STATE n) (if c.bit (CAN_CTRL.EN n) then 1 else 0)).showHole

end Sys2Proof.Machine
end

