-- ==== Sys2Proof/Machine/TileOps.lean ====
section
/-! DEFINITION. The tile instructions as commands (R118 to R120): one meaning per instruction, each over the shared
operation `Card.tileRun`. The residue check of R120 covers products and sums. -/

namespace Sys2Proof.Machine

/-- NOP (R118). -/
def execTileNop (x : TileOp) (s : State) : Host.Outcome State Fault Refusal := s.on fun c => c.tileRun x false tileNop

/-- HALT (R118). -/
def execHalt (x : TileOp) (s : State) : Host.Outcome State Fault Refusal := s.on fun c => c.tileRun x false tileHalt

/-- SETB (R118). -/
def execSetb (x : TileOp) (s : State) : Host.Outcome State Fault Refusal := s.on fun c => c.tileRun x false tileSetb

/-- ADDB (R118). -/
def execAddb (x : TileOp) (s : State) : Host.Outcome State Fault Refusal := s.on fun c => c.tileRun x false tileAddb

/-- SETL (R118). -/
def execSetl (x : TileOp) (s : State) : Host.Outcome State Fault Refusal := s.on fun c => c.tileRun x false tileSetl

/-- LOOP (R118). -/
def execLoop (x : TileOp) (s : State) : Host.Outcome State Fault Refusal := s.on fun c => c.tileRun x false tileLoop

/-- JMP (R118). -/
def execJmp (x : TileOp) (s : State) : Host.Outcome State Fault Refusal := s.on fun c => c.tileRun x false tileJmp

/-- BANY (R118). -/
def execBany (x : TileOp) (s : State) : Host.Outcome State Fault Refusal := s.on fun c => c.tileRun x false tileBany

/-- BNONE (R118). -/
def execBnone (x : TileOp) (s : State) : Host.Outcome State Fault Refusal := s.on fun c => c.tileRun x false tileBnone

/-- WAIT (R118). -/
def execWait (x : TileOp) (s : State) : Host.Outcome State Fault Refusal := s.on fun c => c.tileRun x false tileWait

/-- FLAGRD (R118). -/
def execFlagrd (x : TileOp) (s : State) : Host.Outcome State Fault Refusal := s.on fun c => c.tileRun x false tileFlagrd

/-- FLAGCLR (R118). -/
def execFlagclr (x : TileOp) (s : State) : Host.Outcome State Fault Refusal := s.on fun c => c.tileRun x false tileFlagclr

/-- FRMRD (R118). -/
def execFrmrd (x : TileOp) (s : State) : Host.Outcome State Fault Refusal := s.on fun c => c.tileRun x false tileFrmrd

/-- LANEID (R118). -/
def execLaneid (x : TileOp) (s : State) : Host.Outcome State Fault Refusal := s.on fun c => c.tileRun x false tileLaneid

/-- MAC (R118). -/
def execMac (x : TileOp) (s : State) : Host.Outcome State Fault Refusal := s.on fun c => c.tileRun x true tileMac

/-- MSU (R118). -/
def execMsu (x : TileOp) (s : State) : Host.Outcome State Fault Refusal := s.on fun c => c.tileRun x true tileMsu

/-- MUL (R118). -/
def execMul (x : TileOp) (s : State) : Host.Outcome State Fault Refusal := s.on fun c => c.tileRun x true tileMul

/-- ACCLD (R118). -/
def execAccld (x : TileOp) (s : State) : Host.Outcome State Fault Refusal := s.on fun c => c.tileRun x false tileAccld

/-- ACCADD (R118). -/
def execAccadd (x : TileOp) (s : State) : Host.Outcome State Fault Refusal := s.on fun c => c.tileRun x true tileAccadd

/-- NARROW (R118). -/
def execNarrow (x : TileOp) (s : State) : Host.Outcome State Fault Refusal := s.on fun c => c.tileRun x false tileNarrow

/-- ADD (R118). -/
def execAdd (x : TileOp) (s : State) : Host.Outcome State Fault Refusal := s.on fun c => c.tileRun x true tileAdd

/-- SUB (R118). -/
def execSub (x : TileOp) (s : State) : Host.Outcome State Fault Refusal := s.on fun c => c.tileRun x true tileSub

/-- NEG (R118). -/
def execNeg (x : TileOp) (s : State) : Host.Outcome State Fault Refusal := s.on fun c => c.tileRun x false tileNeg

/-- ABS (R118). -/
def execAbs (x : TileOp) (s : State) : Host.Outcome State Fault Refusal := s.on fun c => c.tileRun x false tileAbs

/-- MIN (R118). -/
def execMin (x : TileOp) (s : State) : Host.Outcome State Fault Refusal := s.on fun c => c.tileRun x false tileMin

/-- MAX (R118). -/
def execMax (x : TileOp) (s : State) : Host.Outcome State Fault Refusal := s.on fun c => c.tileRun x false tileMax

/-- SHL (R118). -/
def execShl (x : TileOp) (s : State) : Host.Outcome State Fault Refusal := s.on fun c => c.tileRun x false tileShl

/-- SHR (R118). -/
def execShr (x : TileOp) (s : State) : Host.Outcome State Fault Refusal := s.on fun c => c.tileRun x false tileShr

/-- CONV (R118). -/
def execConv (x : TileOp) (s : State) : Host.Outcome State Fault Refusal := s.on fun c => c.tileRun x false tileConv

/-- MOV (R118). -/
def execMov (x : TileOp) (s : State) : Host.Outcome State Fault Refusal := s.on fun c => c.tileRun x false tileMov

/-- AND (R118). -/
def execAnd (x : TileOp) (s : State) : Host.Outcome State Fault Refusal := s.on fun c => c.tileRun x false tileAnd

/-- OR (R118). -/
def execOr (x : TileOp) (s : State) : Host.Outcome State Fault Refusal := s.on fun c => c.tileRun x false tileOr

/-- XOR (R118). -/
def execXor (x : TileOp) (s : State) : Host.Outcome State Fault Refusal := s.on fun c => c.tileRun x false tileXor

/-- SEL (R118). -/
def execSel (x : TileOp) (s : State) : Host.Outcome State Fault Refusal := s.on fun c => c.tileRun x false tileSel

/-- CMPS (R118). -/
def execCmps (x : TileOp) (s : State) : Host.Outcome State Fault Refusal := s.on fun c => c.tileRun x false tileCmps

/-- CMPU (R118). -/
def execCmpu (x : TileOp) (s : State) : Host.Outcome State Fault Refusal := s.on fun c => c.tileRun x false tileCmpu

/-- CMPSA (R118). -/
def execCmpsa (x : TileOp) (s : State) : Host.Outcome State Fault Refusal := s.on fun c => c.tileRun x false tileCmpsa

/-- CMPUA (R118). -/
def execCmpua (x : TileOp) (s : State) : Host.Outcome State Fault Refusal := s.on fun c => c.tileRun x false tileCmpua

/-- SETP (R118). -/
def execSetp (x : TileOp) (s : State) : Host.Outcome State Fault Refusal := s.on fun c => c.tileRun x false tileSetp

/-- LUT (R118). -/
def execLut (x : TileOp) (s : State) : Host.Outcome State Fault Refusal := s.on fun c => c.tileRun x false tileLut

/-- XCHG (R118). -/
def execXchg (x : TileOp) (s : State) : Host.Outcome State Fault Refusal := s.on fun c => c.tileRun x false tileXchg

/-- REDUCE (R118). -/
def execReduce (x : TileOp) (s : State) : Host.Outcome State Fault Refusal := s.on fun c => c.tileRun x false tileReduce

/-- RDRED (R118). -/
def execRdred (x : TileOp) (s : State) : Host.Outcome State Fault Refusal := s.on fun c => c.tileRun x false tileRdred

/-- TILE_UNDEFINED_OPCODE (R120): opcodes 0x0E, 0x0F and 0x2D to 0x3F trap ILLEGAL_OP. -/
def execTileUndefinedOpcode (x : TileOp) (opc : Nat) (s : State) : Host.Outcome State Fault Refusal :=
  s.on fun c =>
    if opc = 0x0E ∨ opc = 0x0F ∨ (0x2D ≤ opc ∧ opc ≤ 0x3F) then c.tileRun x false fun _ _ _ => .trap 1 0 else c

end Sys2Proof.Machine
end

