-- ==== Sys2Proof/Machine/Image.lean ====
section
/-! DEFINITION. Images in flash: manifests, staging, parcels, verification, kernel sets, compatibility classes and the
boot check (chapter 13, R347 to R353; R136). -/

namespace Sys2Proof.Machine

/-! ### Banks and manifests (R347) -/

/-- A flash bank: bank A holds the package of delivery until it is erased. -/
def Card.bank (c : Card) (k : Nat) : Bank := c.lan.banks.get (fun n => { delivered := decide (n = 0) }) k

/-- Writes a flash bank. -/
def Card.setBank (c : Card) (k : Nat) (b : Bank) : Card :=
  { c with lan.banks := c.lan.banks.set (fun n => { delivered := decide (n = 0) }) k b }

/-- The state field of a bank: 0 EMPTY, 1 STAGING, 2 VERIFIED, 3 BAD_HASH, 4 ACTIVE. -/
def imgFld (k : Nat) : Fld := if k = 0 then LAN_BANK_STAT.A_IMG else LAN_BANK_STAT.B_IMG

/-- A bank's state. -/
def Card.imgState (c : Card) (k : Nat) : Nat := c.fld (imgFld k)

/-- The image identifier field of a bank. -/
def idFld (k : Nat) : Fld := if k = 0 then LAN_IMG_ID_A.ID else LAN_IMG_ID_B.ID

/-- The active bank. -/
def Card.activeBank (c : Card) : Nat := c.fld LAN_BANK_STAT.ACTIVE_BANK

/-- The standby bank. -/
def Card.standbyBank (c : Card) : Nat := 1 - c.activeBank

/-- N of a manifest. -/
def parcelsOf (m : List Byte) : Nat := leAt m 8 2

/-- A manifest names part q: 0 firmware, 1 kernel set, 2 satellite firmware. -/
def hasPart (m : List Byte) (q : Nat) : Bool := (leAt m 24 1).testBit q

/-- Offset and length of part q in the payload. -/
def partPlace (m : List Byte) (q : Nat) : Nat × Nat := (leAt m (32 + 48 * q) 4, leAt m (36 + 48 * q) 4)

/-- Check 1 of R348: every field in range, every zero byte zero, the classes consistent. -/
def manifestOk (m : List Byte) : Bool :=
  let n := parcelsOf m
  let b (i : Nat) : Nat := leAt m i 1
  decide (m.length = 4096) && decide (leAt m 0 4 = 1) && decide (leAt m 4 4 ≠ 0) && within 1 15872 n
    && decide (b 10 ≤ 3) && decide (1 ≤ b 11) && decide (b 15 = 0) && decide (b 17 ≤ b 16)
    && decide (b 19 ≤ b 18 ∧ b 18 ≤ b 20) && decide (b 22 ≤ b 21 ∧ b 21 ≤ b 23) && decide (b 24 < 8) && zeroAt m 25 7
    && zeroAt m 176 3856
    && [0, 1, 2].all fun q =>
      let p := partPlace m q
      !hasPart m q || (decide (p.1 % 4096 = 0) && decide (p.1 + p.2 ≤ 4096 * n) && zeroAt m (40 + 48 * q) 8)

/-- The public key of a slot is revoked (R348). -/
def Card.keyRevoked (c : Card) (k : Nat) : Bool := (c.fld LAN_CLASS1.KEY_REVOKED).testBit k

/-- The manifest's signature verifies under the key of its KEY_SLOT. -/
def signed' (m : List Byte) : Bool :=
  Config.ecdsaOk (leAt m 10 1) (BitVec.ofNat 256 (fromBe (sha256 (m.take 4032)))) (m.drop 4032)

/-- The first check of R348 that a manifest fails: 1 to 4. -/
def Card.manifestFault (c : Card) (m : List Byte) : Option Nat :=
  if !manifestOk m then some 1
  else if c.keyRevoked (leAt m 10 1) then some 2
  else if !signed' m then some 3
  else if c.fld SYS_REV.HW_ISSUE < leAt m 11 1 then some 4
  else none

/-! ### Kernel sets (R124, R136, R347) -/

/-- The entry index and class of batch b in a kernel part's header. -/
def batchWord (p : List Byte) (b : Nat) : Nat := leAt p (4 + 4 * b) 4

/-- Every ESSENTIAL batch precedes every other (R124). -/
def essentialFirst (l : List Nat) : Bool := (l.dropWhile (· == 0)).all (· != 0)

/-- The kernel set of a kernel part, with its instruction words; none where its header is out of range. -/
def kernelOf (id cls : Nat) (p : List Byte) : Option (KSet × List W18) :=
  let n := leAt p 0 2
  let k := leAt p 2 1
  let bs := (List.range k).map fun b => (batchWord p b % 2048, batchWord p b / 4096 % 4)
  let ok := within 1 2048 n && within 1 8 k && decide (leAt p 3 1 = 0) && decide (p.length = 64 + 8 * n)
    && ((List.range k).all fun b => decide (batchWord p b &&& 0x37FF = batchWord p b) && decide (batchWord p b % 2048 < n)
      && decide (batchWord p b / 4096 % 4 ≠ 3))
    && zeroAt p (4 + 4 * k) (60 - 4 * k) && essentialFirst (bs.map (·.2))
    && (List.range n).all fun i => decide (leAt p (64 + 8 * i) 8 < 2 ^ 36)
  if ok then
    some ({ id := BitVec.ofNat 32 id, cls := cls, batches := bs, known := true },
      (List.range n).flatMap fun i =>
        let w := leAt p (64 + 8 * i) 8
        [BitVec.ofNat 18 w, BitVec.ofNat 18 (w / 2 ^ 18)])
  else none

/-- Writes a kernel set into the standby tile banks: event 0x3001 (R124, R136). -/
def Card.stageSet (c : Card) (k : KSet) (ws : List W18) : Card :=
  let b := 1 - c.fld TIL_STATUS.ACTIVE_BANK
  (((c.setKset b k).writeCode b ws).showSets).record 0x3001 [k.id]

/-- The payload of a package in one buffer: the bytes of part q. -/
def packPart (b : List Byte) (q : Nat) : List Byte :=
  let p := partPlace b q
  slice b (4096 + p.1) p.2

/-- A part's SHA-256 over its bytes zero-padded to whole parcels is the manifest's. -/
def partMatches (m : List Byte) (q : Nat) (p : List Byte) : Bool :=
  decide (sha256 (padTo 4096 p) = slice m (48 + 48 * q) 32)

/-- A kernel set package (R347): PARTS 0b010, and the class bytes as R347 asks. -/
def kernelPack (m : List Byte) : Bool :=
  decide (leAt m 24 1 = 2) && zeroAt m 16 2 && zeroAt m 21 3 && decide (leAt m 19 1 = leAt m 18 1)
    && decide (leAt m 20 1 = leAt m 18 1)

/-- The refusal of a TIL_KERNEL_LOAD (R136, R348, R353). A revoked key is BAD_SIGNATURE, a hardware issue INCOMPATIBLE. -/
def Card.kernelRefusal (c : Card) (d : Desc) : Option Nat :=
  let m := d.buf.take 4096
  let p := packPart d.buf 1
  if c.kernelBusy then some 0x300A
  else match c.manifestFault m with
    | some 1 => some 0x3004
    | some 4 => some 0x3003
    | some _ => some 0x3002
    | none =>
      if !kernelPack m || decide (leAt m 4 4 ≠ d.at 0 4) || decide (d.at 4 4 ≠ 4096 * (parcelsOf m + 1))
          || decide (d.buf.length < d.at 4 4) || !partMatches m 1 p || (kernelOf 0 0 p).isNone then some 0x3004
      else if !c.kernelOk (leAt m 18 1) then some 0x3003
      else none

/-- TIL_KERNEL_LOAD (0x30). -/
def rowTilKernelLoad : Row where
  opcode := 0x30
  role := 2
  args _ d := tilArgs (d.only [(0, 16)])
  checks c d := (c.kernelRefusal d).map fun r => (3, r, 0)
  start slot c :=
    let d := c.descOf slot
    match kernelOf (d.at 0 4) (leAt d.buf 18 1) (packPart d.buf 1) with
    | some (k, ws) => ((c.commit slot).stageSet k ws).done slot
    | none => c.complete slot 3 0x3004

/-- TIL_KERNEL_LOAD. -/
def execTilKernelLoad (d : Desc) (s : State) : Host.Outcome State Fault Refusal := s.on fun c => c.accept rowTilKernelLoad d

/-! ### Staging (R348 to R351) -/

/-- The RESERVED_FIELD check of the lane opcodes. -/
def lanArgs (b : Bool) : Option (Nat × Nat) := if b then none else some (7, 0xB001)

/-- The parcels that a bank still misses. -/
def Bank.missing (b : Bank) : Nat := parcelsOf b.manifest - b.parcels.length

/-- LAN_STAGE_PROG shows the standby bank. -/
def Card.showStage (c : Card) : Card :=
  let b := c.bank c.standbyBank
  (c.setFld LAN_STAGE_PROG.RECEIVED b.parcels.length).setFld LAN_STAGE_PROG.TOTAL (parcelsOf b.manifest)

/-- A satellite update takes its part from the standby bank. -/
def Card.standbyUsed (c : Card) : Bool :=
  c.lan.satUpd.any fun x => x.2.any fun u => decide (u.bank = c.standbyBank)

/-- LAN_STAGE_BEGIN (0xB0): the checks of R348, then the erase, which is its commit point. -/
def rowLanStageBegin : Row where
  opcode := 0xB0
  role := 2
  args _ d := lanArgs (d.only [(0, 4), (8, 8)])
  checks c d :=
    let m := d.buf.take 4096
    match c.manifestFault m with
    | some 1 => some (3, 0xB002, 0)
    | some 2 => some (3, 0xB004, 0)
    | some 3 => some (3, 0xB003, 0)
    | some _ => some (3, 0xB005, 0)
    | none =>
      if leAt m 4 4 ≠ d.at 0 4 then some (3, 0xB002, 0)
      else if c.fld LAN_STATUS.UPD ≠ 0 ∨ c.standbyUsed then some (3, 0xB006, 0)
      else none
  start slot c :=
    let d := c.descOf slot
    let k := c.standbyBank
    let m := d.buf.take 4096
    let c := ((c.commit slot).setBank k { manifest := m }).setFld (imgFld k) 1
    ((c.setFld (idFld k) (leAt m 4 4)).showStage).done slot

/-- LAN_STAGE_BEGIN. -/
def execLanStageBegin (d : Desc) (s : State) : Host.Outcome State Fault Refusal := s.on fun c => c.accept rowLanStageBegin d

/-- A parcel that the standby bank misses is written, and its bit programmed (R349). The last one brings a bank with a bad hash
back to STAGING (R351). -/
def Card.putParcel (c : Card) (p : Nat) (bs : List Byte) : Card :=
  let k := c.standbyBank
  let b := c.bank k
  let b := { b with parcels := b.parcels.set (fun _ => none) p (some (bs.take 4096)) }
  let c := (c.setBank k b).showStage
  if b.missing = 0 ∧ c.imgState k = 3 then c.setFld (imgFld k) 1 else c

/-- The standby bank holds a parcel. -/
def Card.hasParcel (c : Card) (p : Nat) : Bool := ((c.bank c.standbyBank).parcels.get (fun _ => none) p).isSome

/-- LAN_PARCEL (0xB1). -/
def rowLanParcel : Row where
  opcode := 0xB1
  role := 2
  args _ d := lanArgs (d.only [(0, 6), (8, 8)])
  checks c d :=
    let b := c.bank c.standbyBank
    if b.manifest = [] ∨ leAt b.manifest 4 4 ≠ d.at 0 4 then some (3, 0xB007, 0)
    else if !within 1 (parcelsOf b.manifest) (d.at 4 2) then some (7, 0xB001, 0)
    else none
  start slot c :=
    let d := c.descOf slot
    if c.hasParcel (d.at 4 2) then c.complete slot 0 0xB008 (pN (c.bank c.standbyBank).missing)
    else
      let c := (c.commit slot).putParcel (d.at 4 2) d.buf
      c.done slot (pN (c.bank c.standbyBank).missing)

/-- LAN_PARCEL. -/
def execLanParcel (d : Desc) (s : State) : Host.Outcome State Fault Refusal := s.on fun c => c.accept rowLanParcel d

/-- The resume bitmap: bit p − 1 is 0 when parcel p is held (R347). -/
def Bank.bitmap (b : Bank) : List Byte :=
  (List.range 4096).map fun i => BitVec.ofNat 8 ((List.range 8).foldl (fun (w j : Nat) =>
    if (b.parcels.get (fun _ => none) (8 * i + j + 1)).isSome then w else w + 2 ^ j) 0)

/-- LAN_STAGE_QUERY (0xB2). -/
def rowLanStageQuery : Row where
  opcode := 0xB2
  role := 1
  args _ d := lanArgs (d.only [(8, 8)])
  start slot c :=
    let b := c.bank c.standbyBank
    (c.commit slot).doneWith slot ((c.descOf slot).at 8 8) b.bitmap (pN b.missing)

/-- LAN_STAGE_QUERY. -/
def execLanStageQuery (d : Desc) (s : State) : Host.Outcome State Fault Refusal := s.on fun c => c.accept rowLanStageQuery d

/-- The bytes of part q in a bank. -/
def Bank.part (b : Bank) (q : Nat) : List Byte :=
  let p := partPlace b.manifest q
  ((List.range ((p.2 + 4095) / 4096)).flatMap fun i =>
    ((b.parcels.get (fun _ => none) (p.1 / 4096 + 1 + i)).getD [])).take p.2

/-- The parts of a bank whose hash differs from the manifest's. -/
def Bank.badParts (b : Bank) : List Nat :=
  [0, 1, 2].filter fun q => hasPart b.manifest q && !partMatches b.manifest q (b.part q)

/-- Erases the parcels of a part. -/
def Bank.erasePart (b : Bank) (q : Nat) : Bank :=
  let p := partPlace b.manifest q
  (List.range ((p.2 + 4095) / 4096)).foldl (fun (b : Bank) i =>
    { b with parcels := b.parcels.set (fun _ => none) (p.1 / 4096 + 1 + i) none }) b

/-- IMAGE_VERIFY (R351): after the last parcel the parts are hashed. -/
def execImageVerify (s : State) : Host.Outcome State Fault Refusal :=
  s.on fun c =>
    let k := c.standbyBank
    let b := c.bank k
    if c.imgState k ≠ 1 ∨ b.manifest = [] ∨ b.missing ≠ 0 then c
    else
      let c := c.jrnFree 0x0B
      let bad := b.badParts
      if bad = [] then (c.setFld (imgFld k) 2).record 0xB040 [pN k, pN (leAt b.manifest 4 4)]
      else
        let c := (c.setFld (imgFld k) 3).stick LAN_STICKY.BAD_HASH
        let c := c.each bad fun c q => c.record 0xB041 [pN k, pN q]
        (c.setBank k (bad.foldl Bank.erasePart b)).showStage

/-! ### Parcels over the plant network (R350) -/

/-- A piece joins its parcel; a seventeenth incomplete parcel discards the oldest. A complete parcel is handled under
R349. -/
def Card.addPiece (c : Card) (image : BitVec 32) (index piece : Nat) (bs : List Byte) : Card :=
  let old := c.lan.assemblies.find? fun a => a.image == image && a.index == index
  let a : Assembly := match old with
    | some a => a
    | none => { image := image, index := index, pieces := [] }
  let a := { a with pieces := a.pieces.set (fun _ => []) piece bs }
  let rest := c.lan.assemblies.filter fun x => x.image != image || x.index != index
  if a.pieces.length < 8 then
    let keep := match old with
      | some _ => c.lan.assemblies.map fun x => if x.image = image ∧ x.index = index then a else x
      | none => (if 16 ≤ rest.length then rest.drop 1 else rest) ++ [a]
    { c with lan.assemblies := keep }
  else
    let c : Card := { c with lan.assemblies := rest }
    let b := c.bank c.standbyBank
    if b.manifest = [] ∨ leAt b.manifest 4 4 ≠ image.toNat ∨ index = 0 ∨ parcelsOf b.manifest < index ∨ c.hasParcel index then c
    else c.putParcel index ((List.range 8).flatMap fun i => a.pieces.get (fun _ => []) i)

/-- NETWORK_PARCEL (R350): a TYPE 0x20 datagram on UPD_PORT while NET_UPD is 1. -/
def execNetworkParcel (e : Envelope) (s : State) : Host.Outcome State Fault Refusal :=
  s.on fun c =>
    if !c.bit LAN_CTRL.NET_UPD || e.udp ≠ c.fld LAN_CTRL.UPD_PORT then c
    else
      let c := c.jrnPlant 0x20 e
      let fault : Option Nat := if 7 < leAt e.body 6 1 then some 1 else c.plantCheck 0x20 e
      match fault with
      | some r => c.plantFail r 0x20 e
      | none =>
        let c := (c.noteSource e).record 0xF012 [pN (e.keyId.toNat % 8), e.src, 0x20, e.seq]
        c.addPiece (BitVec.ofNat 32 (leAt e.body 0 4)) (leAt e.body 4 2) (leAt e.body 6 1) (slice e.body 8 512)

/-! ### Compatibility and activation (R352, R353, R458) -/

/-- Bytes 16 to 24 of a bank's manifest: MFC, STATE_FROM, KC, KC_MIN, KC_MAX, SFC, SFC_MIN, SFC_MAX, PARTS; those of R458
for the package of delivery. -/
def Bank.classes (b : Bank) : List Nat :=
  if b.delivered then [4, 3, 3, 2, 3, 2, 1, 2, 7] else (List.range 9).map fun i => leAt b.manifest (16 + i) 1

/-- A class byte of a bank. -/
def Bank.cls (b : Bank) (i : Nat) : Nat := b.classes.getD i 0

/-- The kernel and satellite conditions of R353 for a bank. -/
def Card.activationOk (c : Card) (k : Nat) : Bool :=
  let b := c.bank k
  let kc := if (b.cls 8).testBit 1 then b.cls 2 else c.activeSet.cls
  decide (b.cls 3 ≤ kc ∧ kc ≤ b.cls 4)
    && strings.all fun s => places.all fun p =>
      !c.inService s p || decide (b.cls 6 ≤ (c.sat s p).compat ∧ (c.sat s p).compat ≤ b.cls 7)

/-- The hitless handover row of R353. -/
def Card.handoverOk (c : Card) (k : Nat) : Bool :=
  let b := c.bank k
  let f := c.fld SYS_FW_VER.MFC
  decide (b.cls 1 ≤ f ∧ f ≤ b.cls 0) && c.activationOk k

/-- A bank becomes the active one; the other keeps a verified image. -/
def Card.activate (c : Card) (k : Nat) : Card :=
  let o := 1 - k
  let c := c.setFld LAN_BANK_STAT.ACTIVE_BANK k
  let c := if c.imgState o = 4 then c.setFld (imgFld o) 2 else c
  (c.setFld (imgFld k) 4).showStage

/-- The registers of the running image (R458). -/
def Card.runImage (c : Card) (k : Nat) : Card :=
  let b := c.bank k
  let version := if b.delivered then 0x040200
    else leAt b.manifest 12 1 * 65536 + leAt b.manifest 13 1 * 256 + leAt b.manifest 14 1
  let c := (c.setFld SYS_FW_VER.VERSION version).setFld SYS_FW_VER.MFC (b.cls 0)
  let c := c.setReg LAN_CLASS0 (BitVec.ofNat 32 (b.cls 0 + 256 * b.cls 1 + 65536 * b.cls 3 + 16777216 * b.cls 4))
  (c.setFld ⟨LAN_CLASS1, 0, 8⟩ (b.cls 6)).setFld ⟨LAN_CLASS1, 8, 8⟩ (b.cls 7)

/-- The kernel set that a bank's package brings; none for the package of delivery, whose set the spec does not give. -/
def Card.bankSet (c : Card) (k : Nat) : Option (KSet × List W18) :=
  let b := c.bank k
  if b.delivered ∨ !hasPart b.manifest 1 then none
  else kernelOf (leAt b.manifest 4 4) (leAt b.manifest 18 1) (b.part 1)

/-- The boot ROM's check of a bank: the manifest's signature and the hashes of its firmware and kernel parts (R352). -/
def Card.bootOk (c : Card) (k : Nat) : Bool :=
  let b := c.bank k
  b.delivered || (manifestOk b.manifest && signed' b.manifest && decide (b.missing = 0)
    && [0, 1].all fun q => !hasPart b.manifest q || partMatches b.manifest q (b.part q))

/-- The boot ROM at a cold or warm reset (R352): BOOT_CNT counts, a bank that fails the check or has booted three times
without success falls back to the other, and without either the module runs in recovery. -/
def Card.bootCheck (c : Card) : Card :=
  let n := min (c.fld LAN_BANK_STAT.BOOT_CNT + 1) 3
  let c := c.setFld LAN_BANK_STAT.BOOT_CNT n
  let k := c.activeBank
  let ok := c.bootOk k
  let c := { c with lan.recovery := false, lan.bootFrames := 0 }
  let c :=
    if ok && decide (n < 3) then c
    else if c.imgState (1 - k) = 2 ∧ c.bootOk (1 - k) then
      let c := (c.activate (1 - k)).stick LAN_STICKY.IMAGE_FALLBACK
      c.record 0xB042 [pN (1 - k), pN (if ok then 1 else 0)]
    else if ok then c
    else { c with lan.recovery := true }
  let c := c.runImage c.activeBank
  { c with til.bootSet := c.bankSet c.activeBank, til.loadDue := true }

/-- BOOT_CNT_CLEAR (R352): after 10,000 frames with a primary lane in service. -/
def execBootCntClear (s : State) : Host.Outcome State Fault Refusal :=
  s.on fun c => if c.lan.bootFrames < 10000 then c else c.setFld LAN_BANK_STAT.BOOT_CNT 0

end Sys2Proof.Machine
end

