-- ==== Sys2Proof/Machine/Cfg.lean ====
section
/-! DEFINITION. The configuration: its live image, the two flash copies, their comparison at a cold reset and HOLD
(chapter 13, R359 to R362). -/

namespace Sys2Proof.Machine

/-! ### Registers of the configuration -/

/-- The RW fields marked (kept) of a register that belong to the configuration: all outside SYS_CFG_STAT and the LAN
block. -/
def cfgMask (off : Nat) : Nat :=
  match classOf off with
  | some r => if off = SYS_CFG_STAT ∨ blockOf off = 11 then 0 else r.rw &&& r.kept
  | none => 0

/-- The registers of the configuration, in BAR0 order. -/
def cfgOffsets : List Nat :=
  (List.range 16).flatMap fun b =>
    (((regsOf b).filter fun r => decide (r.rw &&& r.kept ≠ 0) && decide (b ≠ 11)).flatMap RegClass.offsets).mergeSort
      fun x y => decide (x ≤ y)

/-- The configuration bits of a word. -/
def cfgBits (off : Nat) (w : Word) : Word := w &&& BitVec.ofNat 32 (cfgMask off)

/-- What a copy that lists no entry for a register holds: its cold-reset bits. -/
def cfgCold (off : Nat) : Word := cfgBits off (coldWord off)

/-- A copy's word of a register. -/
def CfgCopy.word (x : CfgCopy) (off : Nat) : Word := x.words.get cfgCold off

/-- A field in a copy. -/
def CfgCopy.fld (x : CfgCopy) (f : Fld) : Nat := f.of (x.word f.off)

/-- A configuration copy in flash: 0 A, 1 B. -/
def Card.cfgCopy (c : Card) (k : Nat) : CfgCopy := c.lan.copies.get (fun _ => {}) k

/-- The live image (R359) as a copy's contents. -/
def Card.liveImage (c : Card) : CfgCopy :=
  { valid := true, pm := c.pm, tables := c.lan.live
    words := cfgOffsets.foldl (fun (m : Store Word) o => m.set cfgCold o (cfgBits o (c.reg o))) [] }

/-- Writes the words of a table into the tiles of a string (R136). -/
def Card.putTable (c : Card) (s : Nat) (bs : List Byte) : Card :=
  let ws : List W18 := (List.range (bs.length / 4)).map fun i => BitVec.ofNat 18 (leAt bs (4 * i) 4)
  c.each (allTiles.filter fun t => stringOf t == s && !c.noTile t) fun c t =>
    c.modTile (c.phys t) fun y => { y with mem := y.mem.setRange noWord 0xC000 ws }

/-- The tables of an image are applied: tile tables, feed-forward tables, tone plans. -/
def Card.loadTables (c : Card) (t : Store (List Byte)) : Card :=
  c.each strings fun c s =>
    let get (kind : Nat) : List Byte := t.get (fun _ => []) (tableId kind s)
    let c := if get 1 = [] then c else c.putTable s (get 1)
    let c := if get 2 = [] then c else c.putFf s (get 2)
    if get 3 = [] then c else c.acceptPlan s (planOf (leAt (get 3) 0 4) ((get 3).drop 4)) none

/-- Loads a copy: its fields and its tables. -/
def Card.loadCopy (c : Card) (k : Nat) : Card :=
  let x := c.cfgCopy k
  let c := cfgOffsets.foldl (fun (c : Card) o =>
    c.setReg o ((c.reg o &&& ~~~BitVec.ofNat 32 (cfgMask o)) ||| x.word o)) c
  let c := { c with lan.live := x.tables }.loadTables x.tables
  c.setFld SYS_CFG_STAT.LOADED k

/-! ### Unused fields (R360) -/

/-- A string is not populated in a copy: SAT_COUNT 0 and STRING_EN 0. -/
def CfgCopy.bare (x : CfgCopy) (s : Nat) : Bool :=
  decide (x.fld (CHN_CTRL.SAT_COUNT s) = 0) && !(x.fld DSP_CTRL.STRING_EN).testBit (s - 1)

/-- The string whose CHN, CNV, SAF, IMP or THM register lies at an offset. -/
def stringAt (off : Nat) : Option Nat :=
  let s := if blockOf off = 2 then (off - 0x2000) / 0x400 + 1
    else if 0x6500 ≤ off ∧ off < 0x6500 + 288 then (off - 0x6500) / 72 + 1
    else if 0x6100 ≤ off ∧ off < 0x6500 then (off - 0x6100) / 0x100 + 1
    else if 0x8100 ≤ off ∧ off < 0x8180 then (off - 0x8100) / 0x20 + 1
    else 0
  if s = 0 ∨ 4 < s then none else some s

/-- A field's bits in its word. -/
def Fld.mask (f : Fld) : Nat := (2 ^ f.w - 1) * 2 ^ f.lo

/-- The bits of unpopulated strings in the registers that hold one bit for each string. -/
def CfgCopy.bareBits (x : CfgCopy) (off : Nat) : Nat :=
  strings.foldl (fun (m : Nat) s =>
    if !x.bare s then m
    else if off = CNV_CTRL then m ||| (CNV_CTRL.MANUAL s).mask
    else if off = CNV_SD_CFG then m ||| (CNV_SD_CFG.CLK_EN s).mask
    else if off = IMP_CTRL then m ||| 2 ^ (IMP_CTRL.INJ_EN.lo + s - 1)
    else m) 0

/-- The phase number of a sense register's channel and its string, where it is a phase channel. -/
def sensePhase (off : Nat) : Option (Nat × Nat) :=
  if 0x6500 ≤ off ∧ off < 0x6500 + 288 then
    let ch := (off - 0x6500) / 8
    if ch % 9 < 6 then some (ch / 9 + 1, ch % 9) else none
  else none

/-- The bits of a register that a copy does not use (R360). -/
def CfgCopy.unused (x : CfgCopy) (off : Nat) : Nat :=
  let all := 2 ^ 32 - 1
  let bare := match stringAt off with
    | some s => x.bare s
    | none => false
  let phase := match sensePhase off with
    | some p => decide (x.fld (CNV_PHASE_CFG.PHASES p.1) ≤ p.2)
    | none => false
  if bare || phase then all
  else if 0x9050 ≤ off ∧ off < 0x9090 then
    let i := (off - 0x9050) / 4
    if x.fld (THM_FIELD_MAP.EN i) = 0 then all - (THM_FIELD_MAP.EN i).mask else 0
  else if 0x90A0 ≤ off ∧ off < 0x90B0 then
    let n := (off - 0x90A0) / 4
    if x.fld (THM_AO_CFG.RANGE n) = 0 then (THM_AO_CFG.SAFE n).mask else 0
  else if off = EST_BAL_CFG then (if x.fld EST_CTRL.BAL_EN = 0 then all else 0)
  else if off = EST_LA_CFG then (if x.fld EST_CTRL.LA_EN = 0 then EST_LA_CFG.HORIZON.mask else 0)
  else if off = HST_PM_CFG then (if x.fld HST_PM_CFG.PM_EN = 0 then HST_PM_CFG.PORT.mask else 0)
  else if 0xE100 ≤ off ∧ off < 0xE300 then
    let n := (off - 0xE100) / 0x100
    if x.fld (CAN_CTRL.EN n) = 0 then all else 0
  else if 0xE800 ≤ off ∧ off < 0xF000 then
    if x.fld (CAN_CTRL.EN ((off - 0xE800) / 0x400)) = 0 then all else 0
  else
    match (strings.find? fun s => off == CNV_BURST_CFG s || off == CNV_CUR_CFG s) with
    | some s =>
      if off = CNV_BURST_CFG s then (if x.fld (CNV_BURST_CFG.BURST_ENTER s) = 0 then (CNV_BURST_CFG.BURST_BAND s).mask else 0)
      else if x.fld (CNV_CUR_CFG.DE_ENTER s) = 0 then (CNV_CUR_CFG.ZCD_THR s).mask else 0
    | none => x.bareBits off

/-- The fields of a register in which a mask has a one. -/
def fieldsIn (off m : Nat) : Nat :=
  let starts := ((classOf off).map (·.starts)).getD 1
  ((List.range 32).foldl (fun (a : Nat × Bool) i =>
    let hit := if starts.testBit i then false else a.2
    if m.testBit i && !hit then (a.1 + 1, true) else (a.1, hit)) (0, false)).1

/-- The differing bits of a register in two copies. -/
def cfgDiff (a b : CfgCopy) (off : Nat) : Nat := (a.word off ^^^ b.word off).toNat

/-- The table identifiers. -/
def tableIds : List (Nat × Nat) := [1, 2, 3].flatMap fun k => strings.map fun s => (k, s)

/-- The tables in which two copies differ. -/
def tableDiffs (a b : CfgCopy) : List (Nat × Nat) :=
  tableIds.filter fun t => decide (a.tables.get (fun _ => []) (tableId t.1 t.2) ≠ b.tables.get (fun _ => []) (tableId t.1 t.2))

/-- The copies differ in a used field, or in a table of a populated string. -/
def usedDiffers (a b : CfgCopy) : Bool :=
  cfgOffsets.any (fun o => decide (cfgDiff a b o &&& (2 ^ 32 - 1 - (a.unused o &&& b.unused o)) ≠ 0))
    || (tableDiffs a b).any fun t => !(a.bare t.2 && b.bare t.2)

/-- The module enters HOLD with a cause (R360, R362). -/
def Card.holdConfig (c : Card) (cause : Nat) : Card :=
  ((c.setFld SYS_CFG_STAT.STATE 1).setFld SYS_CFG_STAT.CAUSE cause).record 0x0062 [pN cause]

/-- The copies are compared at a cold reset (R360). -/
def Card.compareCopies (c : Card) : Card :=
  let c := (c.jrnFree 0x0B).jrnFree 0x0B
  let a := c.cfgCopy 0
  let b := c.cfgCopy 1
  let c := (c.setBit SYS_CFG_STAT.A_VALID a.valid).setBit SYS_CFG_STAT.B_VALID b.valid
  if !a.valid && !b.valid then c.holdConfig 2
  else if !a.valid || !b.valid then c.holdConfig 1
  else if usedDiffers a b then c.holdConfig 0
  else
    let offs := cfgOffsets.filter fun o => decide (cfgDiff a b o ≠ 0)
    let ts := tableDiffs a b
    let newer := after (BitVec.ofNat 32 b.seq) (BitVec.ofNat 32 a.seq)
    let c := if offs = [] ∧ ts = [] then c.loadCopy 0
      else
        let first := offs.headD 0xFFFF
        let n := offs.foldl (fun (m : Nat) o => m + fieldsIn o (cfgDiff a b o)) 0 + ts.length
        let c := (c.setFld SYS_CFG_DIFF.OFFSET first).setFld SYS_CFG_DIFF.COUNT (min n 65535)
        ((c.stick SYS_CFG_STAT.LATENT).record 0x0061 [pN first, pN n]).loadCopy (if newer then 1 else 0)
    c.setFld SYS_CFG_STAT.STATE 0

/-- A warm reset reloads the tables from the live image, whose CRC is checked first (R362). -/
def Card.reloadTables (c : Card) : Card :=
  let c := c.jrnFree 0x0B
  if c.lan.liveOk then c.loadTables c.lan.live else c.holdConfig 3

/-! ### Host operations (R363) -/

/-- LAN_CFG_SAVE (0xB8): copy A, then copy B, with one sequence. -/
def rowLanCfgSave : Row where
  opcode := 0xB8
  role := 2
  args _ d := lanArgs (d.only [])
  start slot c :=
    let a := c.cfgCopy 0
    let b := c.cfgCopy 1
    let newest := if a.valid && (!b.valid || !after (BitVec.ofNat 32 b.seq) (BitVec.ofNat 32 a.seq)) then a.seq
      else if b.valid then b.seq else 0
    let x := { c.liveImage with seq := (newest + 1) % 2 ^ 32 }
    let c := c.commit slot
    let c := { c with lan.copies := (c.lan.copies.set (fun _ => {}) 0 x).set (fun _ => {}) 1 x }
    ((c.setFld SYS_CFG_STAT.A_VALID 1).setFld SYS_CFG_STAT.B_VALID 1).done slot

/-- LAN_CFG_SAVE. -/
def execLanCfgSave (d : Desc) (s : State) : Host.Outcome State Fault Refusal := s.on fun c => c.accept rowLanCfgSave d

/-- LAN_CFG_CHOOSE (0xB9): loads a copy or keeps the registers; RUN at the next frame boundary (R361). -/
def rowLanCfgChoose : Row where
  opcode := 0xB9
  role := 2
  args _ d := lanArgs (d.only [(0, 1)] && decide (d.byte 0 ≤ 2))
  checks c d :=
    if !c.holding then some (3, 0xB013, 0)
    else if d.byte 0 < 2 ∧ !(c.cfgCopy (d.byte 0)).valid then some (3, 0xB014, 0)
    else none
  start slot c :=
    let k := (c.descOf slot).byte 0
    let c := c.commit slot
    let c := if k < 2 then (c.jrnFree 0x0B).loadCopy k else c
    { c with lan.chooseDue := some k, lan.chooseOp := some slot, lan.liveOk := true }

/-- LAN_CFG_CHOOSE. -/
def execLanCfgChoose (d : Desc) (s : State) : Host.Outcome State Fault Refusal := s.on fun c => c.accept rowLanCfgChoose d

/-- HOLD ends at the frame boundary after the choice: event 0x0063. -/
def Card.endHold (c : Card) : Card :=
  match c.lan.chooseDue with
  | none => c
  | some k =>
    let op := c.lan.chooseOp
    let c := { c with lan.chooseDue := none, lan.chooseOp := none }
    let c := ((c.setFld SYS_CFG_STAT.STATE 0).setFld SYS_CFG_STAT.CAUSE 0).record 0x0063 [pN k]
    match op with
    | some slot => c.done slot
    | none => c

end Sys2Proof.Machine
end

