-- ==== Sys2Proof/Machine/Cpu.lean ====
section
/-! DEFINITION. One instruction of a lane core: RV32IMAC with Zicsr and Zifencei in machine mode (R335), as the RISC-V
manuals define them (PRESUMED: the spec names the instruction set and does not restate it), with the context-save
CSRs of R345. The debug STEP runs it, and CONTEXT_SAVE uses its trap entry. -/

namespace Sys2Proof.Machine

/-- Bits `lo` to `lo + n - 1` of a word. -/
def bits (w : Word) (lo n : Nat) : Nat := w.toNat / 2 ^ lo % 2 ^ n

/-- Sign extension of an `n`-bit value to a word. -/
def sext (n v : Nat) : Word := BitVec.ofInt 32 (signed n v)

/-- A general register; x0 reads zero. -/
def Core.get (k : Core) (r : Nat) : Word := if r = 0 then 0 else k.x.get (fun _ => 0) r

/-- Writes a general register; x0 discards. -/
def Core.set (k : Core) (r : Nat) (v : Word) : Core := if r = 0 then k else { k with x := k.x.set (fun _ => 0) r v }

/-- A CSR. -/
def Core.csrGet (k : Core) (a : Nat) : Word := k.csr.get (fun _ => 0) a

/-- Writes a CSR; CSAVE_CTRL keeps only EN and FATAL (R345). -/
def Core.csrSet (k : Core) (a : Nat) (v : Word) : Core :=
  { k with csr := k.csr.set (fun _ => 0) a (if a = 0x7C0 then v &&& 3 else v) }

/-- A CSR instruction's write: FATAL of CSAVE_CTRL is set by hardware only, and cleared by writing 0 (R345). -/
def Core.csrWrite (k : Core) (a : Nat) (v : Word) : Core :=
  k.csrSet a (if a = 0x7C0 then v &&& (k.csrGet a ||| 1#32) else v)

/-- A CSR whose access raises the illegal-instruction exception (R345): 0x7C5 to 0x7C7 and 0x7DB to 0x7FF. -/
def csrIllegal (a : Nat) : Bool :=
  (decide (0x7C5 ≤ a) && decide (a ≤ 0x7C7)) || (decide (0x7DB ≤ a) && decide (a ≤ 0x7FF))

/-- Machine-mode trap entry: mepc, mcause, mstatus (MPIE takes MIE, MIE clears, MPP machine), then mtvec. -/
def Core.trap (k : Core) (interrupt : Bool) (cause : Nat) : Core :=
  let st := k.csrGet 0x300
  let st' := (st &&& ~~~0x1888#32) ||| 0x1800#32 ||| (if st.getLsbD 3 then 0x80#32 else 0)
  let k := ((k.csrSet 0x341 k.pc).csrSet 0x342 (BitVec.ofNat 32 cause ||| (if interrupt then 0x80000000#32 else 0))).csrSet
    0x300 st'
  let tv := k.csrGet 0x305
  let base := tv &&& ~~~3#32
  { k with pc := if interrupt && tv.getLsbD 0 then base + BitVec.ofNat 32 (4 * cause) else base }

/-- An R-type word. -/
def encR (f7 rs2 rs1 f3 rd op : Nat) : Word :=
  BitVec.ofNat 32 (f7 * 2 ^ 25 + rs2 * 2 ^ 20 + rs1 * 2 ^ 15 + f3 * 2 ^ 12 + rd * 2 ^ 7 + op)

/-- An I-type word. -/
def encI (imm : Word) (rs1 f3 rd op : Nat) : Word :=
  BitVec.ofNat 32 (bits imm 0 12 * 2 ^ 20 + rs1 * 2 ^ 15 + f3 * 2 ^ 12 + rd * 2 ^ 7 + op)

/-- An S-type store word. -/
def encS (imm : Word) (rs2 rs1 : Nat) : Word :=
  BitVec.ofNat 32 (bits imm 5 7 * 2 ^ 25 + rs2 * 2 ^ 20 + rs1 * 2 ^ 15 + 2 * 2 ^ 12 + bits imm 0 5 * 2 ^ 7 + 0x23)

/-- A B-type branch word. -/
def encB (imm : Word) (rs1 f3 : Nat) : Word :=
  BitVec.ofNat 32 (bits imm 12 1 * 2 ^ 31 + bits imm 5 6 * 2 ^ 25 + rs1 * 2 ^ 15 + f3 * 2 ^ 12 + bits imm 1 4 * 2 ^ 8
    + bits imm 11 1 * 2 ^ 7 + 0x63)

/-- A JAL word. -/
def encJ (imm : Word) (rd : Nat) : Word :=
  BitVec.ofNat 32 (bits imm 20 1 * 2 ^ 31 + bits imm 1 10 * 2 ^ 21 + bits imm 11 1 * 2 ^ 20 + bits imm 12 8 * 2 ^ 12
    + rd * 2 ^ 7 + 0x6F)

/-- Quadrant 0 of the compressed set. -/
def expand0 (h : Word) : Option Word :=
  let rd := bits h 2 3 + 8
  let rs := bits h 7 3 + 8
  let uw := bits h 10 3 * 8 + bits h 6 1 * 4 + bits h 5 1 * 64
  match bits h 13 3 with
  | 0 =>
    let n := bits h 11 2 * 16 + bits h 7 4 * 64 + bits h 6 1 * 4 + bits h 5 1 * 8
    if n = 0 then none else some (encI (BitVec.ofNat 32 n) 2 0 rd 0x13)
  | 2 => some (encI (BitVec.ofNat 32 uw) rs 2 rd 0x03)
  | 6 => some (encS (BitVec.ofNat 32 uw) rd rs)
  | _ => none

/-- The register-register and shift forms of quadrant 1. -/
def expandAlu (h : Word) : Option Word :=
  let rd := bits h 7 3 + 8
  let sh := bits h 2 5
  match bits h 10 2 with
  | 0 => if bits h 12 1 = 1 then none else some (encR 0 sh rd 5 rd 0x13)
  | 1 => if bits h 12 1 = 1 then none else some (encR 0x20 sh rd 5 rd 0x13)
  | 2 => some (encI (sext 6 (bits h 12 1 * 32 + sh)) rd 7 rd 0x13)
  | _ =>
    let r2 := bits h 2 3 + 8
    if bits h 12 1 = 1 then none
    else match bits h 5 2 with
      | 0 => some (encR 0x20 r2 rd 0 rd 0x33)
      | 1 => some (encR 0 r2 rd 4 rd 0x33)
      | 2 => some (encR 0 r2 rd 6 rd 0x33)
      | _ => some (encR 0 r2 rd 7 rd 0x33)

/-- Quadrant 1 of the compressed set. -/
def expand1 (h : Word) : Option Word :=
  let rd := bits h 7 5
  let imm := sext 6 (bits h 12 1 * 32 + bits h 2 5)
  let j := sext 12 (bits h 12 1 * 2048 + bits h 11 1 * 16 + bits h 9 2 * 256 + bits h 8 1 * 1024 + bits h 7 1 * 64
    + bits h 6 1 * 128 + bits h 3 3 * 2 + bits h 2 1 * 32)
  let b := sext 9 (bits h 12 1 * 256 + bits h 10 2 * 8 + bits h 5 2 * 64 + bits h 3 2 * 2 + bits h 2 1 * 32)
  match bits h 13 3 with
  | 0 => some (encI imm rd 0 rd 0x13)
  | 1 => some (encJ j 1)
  | 2 => some (encI imm 0 0 rd 0x13)
  | 3 =>
    if rd = 2 then
      let n := bits h 12 1 * 512 + bits h 6 1 * 16 + bits h 5 1 * 64 + bits h 3 2 * 128 + bits h 2 1 * 32
      if n = 0 then none else some (encI (sext 10 n) 2 0 2 0x13)
    else if imm = 0 then none
    else some (BitVec.ofNat 32 (bits imm 0 20 * 2 ^ 12 + rd * 2 ^ 7 + 0x37))
  | 4 => expandAlu h
  | 5 => some (encJ j 0)
  | 6 => some (encB b (bits h 7 3 + 8) 0)
  | _ => some (encB b (bits h 7 3 + 8) 1)

/-- Quadrant 2 of the compressed set. -/
def expand2 (h : Word) : Option Word :=
  let rd := bits h 7 5
  let rs := bits h 2 5
  match bits h 13 3 with
  | 0 => if bits h 12 1 = 1 then none else some (encR 0 rs rd 1 rd 0x13)
  | 2 =>
    if rd = 0 then none
    else some (encI (BitVec.ofNat 32 (bits h 12 1 * 32 + bits h 4 3 * 4 + bits h 2 2 * 64)) 2 2 rd 0x03)
  | 4 =>
    if bits h 12 1 = 0 then
      if rs = 0 then (if rd = 0 then none else some (encI 0 rd 0 0 0x67)) else some (encR 0 rs 0 0 rd 0x33)
    else if rs = 0 then (if rd = 0 then some 0x00100073 else some (encI 0 rd 0 1 0x67))
    else some (encR 0 rs rd 0 rd 0x33)
  | 6 => some (encS (BitVec.ofNat 32 (bits h 9 4 * 4 + bits h 7 2 * 64)) rs 2)
  | _ => none

/-- The 32-bit instruction that a fetched word starts with, and its length. -/
def expand (w : Word) : Option (Word × Nat) :=
  match bits w 0 2 with
  | 0 => (expand0 w).map (·, 2)
  | 1 => (expand1 w).map (·, 2)
  | 2 => (expand2 w).map (·, 2)
  | _ => some (w, 4)

/-- The integer and multiply-divide operations of R-type words; RISC-V's results for division by zero and overflow. -/
def aluR (f7 f3 : Nat) (a b : Word) : Option Word :=
  let sh := b.toNat % 32
  match f7, f3 with
  | 0, 0 => some (a + b)
  | 0x20, 0 => some (a - b)
  | 0, 1 => some (a <<< sh)
  | 0, 2 => some (if a.toInt < b.toInt then 1 else 0)
  | 0, 3 => some (if a.toNat < b.toNat then 1 else 0)
  | 0, 4 => some (a ^^^ b)
  | 0, 5 => some (a >>> sh)
  | 0x20, 5 => some (BitVec.sshiftRight a sh)
  | 0, 6 => some (a ||| b)
  | 0, 7 => some (a &&& b)
  | 1, 0 => some (a * b)
  | 1, 1 => some (BitVec.ofInt 32 (a.toInt * b.toInt / 2 ^ 32))
  | 1, 2 => some (BitVec.ofInt 32 (a.toInt * (b.toNat : Int) / 2 ^ 32))
  | 1, 3 => some (BitVec.ofNat 32 (a.toNat * b.toNat / 2 ^ 32))
  | 1, 4 => some (if b = 0 then BitVec.allOnes 32 else BitVec.ofInt 32 (Int.tdiv a.toInt b.toInt))
  | 1, 5 => some (if b = 0 then BitVec.allOnes 32 else BitVec.ofNat 32 (a.toNat / b.toNat))
  | 1, 6 => some (if b = 0 then a else BitVec.ofInt 32 (Int.tmod a.toInt b.toInt))
  | 1, 7 => some (if b = 0 then a else BitVec.ofNat 32 (a.toNat % b.toNat))
  | _, _ => none

/-- What one instruction does: the core after it, and the bytes it stores. -/
structure CpuStep where
  core : Core
  stores : List (Nat × List Byte) := []
deriving DecidableEq, Repr

/-- A taken trap as the result of an instruction. -/
def Core.trapStep (k : Core) (cause : Nat) : CpuStep := { core := k.trap false cause }

/-- The branch condition of funct3. -/
def branchTaken (f3 : Nat) (a b : Word) : Option Bool :=
  match f3 with
  | 0 => some (a == b)
  | 1 => some (a != b)
  | 4 => some (decide (a.toInt < b.toInt))
  | 5 => some (decide (b.toInt ≤ a.toInt))
  | 6 => some (decide (a.toNat < b.toNat))
  | 7 => some (decide (b.toNat ≤ a.toNat))
  | _ => none

/-- The value an AMO stores. -/
def amoValue (f5 : Nat) (old v : Word) : Option Word :=
  match f5 with
  | 0 => some (old + v)
  | 1 => some v
  | 4 => some (old ^^^ v)
  | 8 => some (old ||| v)
  | 12 => some (old &&& v)
  | 16 => some (if old.toInt < v.toInt then old else v)
  | 20 => some (if old.toInt < v.toInt then v else old)
  | 24 => some (if old.toNat < v.toNat then old else v)
  | 28 => some (if old.toNat < v.toNat then v else old)
  | _ => none

/-- CSR instructions. -/
def Core.csrOp (k : Core) (w : Word) (next : Word) : CpuStep :=
  let a := bits w 20 12
  let rs := bits w 15 5
  let f3 := bits w 12 3
  let old := k.csrGet a
  let v := if 4 ≤ f3 then BitVec.ofNat 32 rs else k.get rs
  if csrIllegal a then k.trapStep 2
  else
    let k' := match f3 % 4 with
      | 1 => k.csrWrite a v
      | 2 => if rs = 0 then k else k.csrWrite a (old ||| v)
      | _ => if rs = 0 then k else k.csrWrite a (old &&& ~~~v)
    { core := { k'.set (bits w 7 5) old with pc := next } }

/-- SYSTEM: ECALL, EBREAK, MRET, WFI (which may end at once) and the CSR instructions. -/
def Core.system (k : Core) (w : Word) (next : Word) : CpuStep :=
  if bits w 12 3 = 0 then
    if w = 0x00000073 then k.trapStep 11
    else if w = 0x00100073 then k.trapStep 3
    else if w = 0x30200073 then
      let st := k.csrGet 0x300
      let st' := (st &&& ~~~0x8#32) ||| 0x80#32 ||| (if st.getLsbD 7 then 8#32 else 0)
      { core := { k.csrSet 0x300 st' with pc := k.csrGet 0x341 } }
    else if w = 0x10500073 then { core := { k with pc := next } }
    else k.trapStep 2
  else if bits w 12 3 = 4 then k.trapStep 2
  else k.csrOp w next

/-- One instruction word at the core's pc; `load` answers a read of `n` bytes. Misaligned loads and stores trap; an AMO
or LR/SC needs a word-aligned address; SC stores only where the core holds the reservation of that address. -/
def Core.run (k : Core) (load : Nat → Nat → Nat) (w : Word) (len : Nat) : CpuStep :=
  let next := k.pc + BitVec.ofNat 32 len
  let rd := bits w 7 5
  let f3 := bits w 12 3
  let a := k.get (bits w 15 5)
  let b := k.get (bits w 20 5)
  let immI := sext 12 (bits w 20 12)
  let put (v : Word) : CpuStep := { core := { k.set rd v with pc := next } }
  let jump (t : Word) (link : Bool) : CpuStep :=
    { core := { (if link then k.set rd next else k) with pc := t } }
  match bits w 0 7 with
  | 0x37 => put (w &&& 0xFFFFF000)
  | 0x17 => put (k.pc + (w &&& 0xFFFFF000))
  | 0x6F => jump (k.pc + sext 21 (bits w 31 1 * 2 ^ 20 + bits w 12 8 * 2 ^ 12 + bits w 20 1 * 2 ^ 11 + bits w 21 10 * 2)) true
  | 0x67 => if f3 = 0 then jump ((a + immI) &&& ~~~1#32) true else k.trapStep 2
  | 0x63 =>
    match branchTaken f3 a b with
    | some true => jump (k.pc + sext 13 (bits w 31 1 * 4096 + bits w 7 1 * 2048 + bits w 25 6 * 32 + bits w 8 4 * 2)) false
    | some false => { core := { k with pc := next } }
    | none => k.trapStep 2
  | 0x03 =>
    let ad := (a + immI).toNat
    match f3 with
    | 0 => put (sext 8 (load ad 1))
    | 1 => if ad % 2 = 0 then put (sext 16 (load ad 2)) else k.trapStep 4
    | 2 => if ad % 4 = 0 then put (BitVec.ofNat 32 (load ad 4)) else k.trapStep 4
    | 4 => put (BitVec.ofNat 32 (load ad 1))
    | 5 => if ad % 2 = 0 then put (BitVec.ofNat 32 (load ad 2)) else k.trapStep 4
    | _ => k.trapStep 2
  | 0x23 =>
    let ad := (a + sext 12 (bits w 25 7 * 32 + bits w 7 5)).toNat
    if 3 ≤ f3 then k.trapStep 2
    else if ad % 2 ^ f3 ≠ 0 then k.trapStep 6
    else { core := { k with pc := next }, stores := [(ad, le (2 ^ f3) b.toNat)] }
  | 0x13 =>
    let v := if f3 = 5 then aluR (bits w 25 7) 5 a (BitVec.ofNat 32 (bits w 20 5))
      else if f3 = 1 then aluR (bits w 25 7) 1 a (BitVec.ofNat 32 (bits w 20 5))
      else aluR 0 f3 a immI
    match v with
    | some v => if (f3 = 1 ∨ f3 = 5) ∧ bits w 25 7 = 1 then k.trapStep 2 else put v
    | none => k.trapStep 2
  | 0x33 =>
    match aluR (bits w 25 7) f3 a b with
    | some v => put v
    | none => k.trapStep 2
  | 0x0F => if f3 ≤ 1 then { core := { k with pc := next } } else k.trapStep 2
  | 0x2F =>
    let ad := a.toNat
    let f5 := bits w 27 5
    if f3 ≠ 2 then k.trapStep 2
    else if ad % 4 ≠ 0 then k.trapStep 6
    else if f5 = 2 then { core := { k.set rd (BitVec.ofNat 32 (load ad 4)) with pc := next, resv := some ad } }
    else if f5 = 3 then
      if k.resv = some ad then { core := { k.set rd 0 with pc := next, resv := none }, stores := [(ad, le 4 b.toNat)] }
      else { core := { k.set rd 1 with pc := next, resv := none } }
    else match amoValue f5 (BitVec.ofNat 32 (load ad 4)) b with
      | some v => { core := { k.set rd (BitVec.ofNat 32 (load ad 4)) with pc := next }, stores := [(ad, le 4 v.toNat)] }
      | none => k.trapStep 2
  | 0x73 => k.system w next
  | _ => k.trapStep 2

/-- Fetches and runs one instruction; an encoding outside the supported sets traps as illegal (R345). -/
def Core.step (k : Core) (load : Nat → Nat → Nat) : CpuStep :=
  match expand (BitVec.ofNat 32 (load k.pc.toNat 4)) with
  | some (w, len) => k.run load w len
  | none => k.trapStep 2

/-! ### Context save (R345, R346) -/

/-- The 18 words of a context save, in push order. -/
def Core.saved (k : Core) : List Word :=
  [1, 5, 6, 7, 10, 11, 12, 13, 14, 15, 16, 17, 28, 29, 30, 31].map k.get ++ [k.csrGet 0x341, k.csrGet 0x300]

/-- The push is valid: sp a multiple of 16, and the 80 bytes below it within the stack window and lane memory. -/
def Core.pushValid (k : Core) : Bool :=
  let sp := (k.get 2).toNat
  decide (sp % 16 = 0) && decide (80 ≤ sp) && decide ((k.csrGet 0x7C1).toNat ≤ sp - 80)
    && decide (sp ≤ (k.csrGet 0x7C2).toNat) && decide (sp ≤ 2 ^ 21)

/-- A core whose push is not valid: shadow CSRs, FATAL, interrupts off, the fatal stack and vector (R346). -/
def Core.fatal (k : Core) : Core :=
  let sp := k.get 2
  let k' := (k.saved ++ [sp]).foldl (fun (a : Core × Nat) w => (a.1.csrSet (0x7C8 + a.2) w, a.2 + 1)) (k, 0) |>.1
  let k' := k'.csrSet 0x7C0 (k'.csrGet 0x7C0 ||| 2)
  let k' := k'.csrSet 0x300 (k'.csrGet 0x300 &&& ~~~8#32)
  { k'.set 2 (k.csrGet 0x7C3) with pc := k.csrGet 0x7C4 }

end Sys2Proof.Machine
end

