-- ==== Sys2Proof/Machine/Lane.lean ====
section
/-! DEFINITION. The control lanes: cores and voters, failure, health, digests, takeover, import, context save, update and
handover (chapter 13, R335 to R346, R356 to R358). -/

namespace Sys2Proof.Machine

/-! ### Lanes and cores -/

/-- A lane's record. -/
def Card.lane (c : Card) (l : Nat) : Lane := c.lan.lanes.get (fun _ => {}) l

/-- Changes a lane's record. -/
def Card.modLane (c : Card) (l : Nat) (f : Lane → Lane) : Card :=
  { c with lan.lanes := c.lan.lanes.set (fun _ => {}) l (f (c.lane l)) }

/-- What firmware has left in a byte of lane memory: free once it has run, zero after a boot. -/
def Lane.left (x : Lane) (a : Nat) : Byte :=
  match x.seed with
  | none => 0
  | some n => (Config.freeValue (n + a)).setWidth 8

/-- The state field of core k of a lane. -/
def coreFld (l k : Nat) : Fld := ⟨LAN_STATUS, (if l = 0 then 7 else 13) + 2 * k, 2⟩

/-- A core's state: 0 VOTING, 1 RESYNC, 2 FAILED, 3 split. -/
def Card.coreState (c : Card) (l k : Nat) : Nat := c.fld (coreFld l k)

/-- The cores of a lane in a state. -/
def Card.coresIn (c : Card) (l v : Nat) : List Nat := [0, 1, 2].filter fun k => decide (c.coreState l k = v)

/-- A lane that can take over: SHADOW or UPD_SHADOW, and not lane A under a debugger (R428). -/
def Card.canTakeOver (c : Card) (l : Nat) : Bool :=
  (decide (c.laneState l = 3) || decide (c.laneState l = 5)) && !(decide (l = 0) && c.lan.attached)

/-- A lane event is written into the journal entry of its frame (R339). -/
def Card.laneEvent (c : Card) (ev : Nat) (ps : List Word) : Card := (c.record ev ps).jrnFree 0x09

/-- A lane boots a bank: its cores, memory and record start afresh, and its shadow state is no longer valid (R342). -/
def Card.bootLane (c : Card) (l k : Nat) : Card :=
  let c := c.setLaneState l 1
  let c := c.each [0, 1, 2] fun c i => (c.setCore l i {}).setFld (coreFld l i) 0
  let c := if l = c.primary then c else c.setFld LAN_STATUS.SHADOW_VALID 0
  c.modLane l fun _ => { bank := k }

/-- The update state. -/
def Card.upd (c : Card) : Nat := c.fld LAN_STATUS.UPD

/-- The prepare in progress ends with a status and reason. -/
def Card.endPrepare (c : Card) (status reason : Nat) : Card :=
  let op := c.lan.prepareOp
  let c := { c with lan.prepareOp := none, lan.prepareDue := false }.setFld LAN_STATUS.UPD 0
  match op with
  | some slot => c.complete slot status reason
  | none => c

/-- The shadow of an update is lost (R358): the prepare completes CAPACITY_LOST, and the lane reboots the active image. -/
def Card.loseShadow (c : Card) (l : Nat) : Card :=
  if c.upd = 0 then c
  else (c.endPrepare 0x0B 0xB010).modLane l fun x => { x with resetDue := true }

/-- The cores' work in split mode (R344): the operations that a core of lane A holds. -/
def coreHolds (l k opcode : Nat) : Bool :=
  decide (l = 0) && ((decide (k = 1) && decide (1 ≤ opcode ∧ opcode ≤ 0x3F))
    || (decide (k = 2) && decide (0x40 ≤ opcode ∧ opcode ≤ 0xCF)))

/-- A core of split mode stops (R344): event 0xB014, whose cause the spec does not define, and the operations it held
complete CAPACITY_LOST. -/
def Card.stopSplit (c : Card) (l k : Nat) : Card :=
  let (n, c) := c.draw
  let c := (c.setCore l k { c.core l k with stopped := true }).laneEvent 0xB014
    [pN (3 * l + k), (Config.freeValue n).setWidth 32]
  c.each c.running fun c x => if coreHolds l k x.2.opcode then c.complete x.1 0x0B 0xB016 else c

/-- A lane becomes FAILED (R337, R341): event 0xB004. A failed primary asks for a takeover where the other lane is SHADOW or
UPD_SHADOW; a failed shadow ends an update (R358). Both lanes failed are a double fault (R27). -/
def Card.failLane (c : Card) (l cause : Nat) : Card :=
  if c.laneState l = 6 then c
  else
    let c := (c.setLaneState l 6).laneEvent 0xB004 [pN l, pN cause]
    let c := if c.lanesFailed then c.fabricOpenAll 9 true else c
    if l = c.primary then
      let o := 1 - l
      if c.canTakeOver o then { c with lan.takeoverDue := some (o, 0) } else c
    else (c.setFld LAN_STATUS.SHADOW_VALID 0).loseShadow l

/-- A core becomes FAILED (R337); the second of a lane fails the lane. -/
def Card.failCore (c : Card) (l k cause : Nat) : Card :=
  let c := ((c.setFld (coreFld l k) 2).stick LAN_STICKY.CORE_FAILED).laneEvent 0xB003 [pN l, pN k, pN cause]
  if 2 ≤ (c.coresIn l 2).length then c.failLane l 0 else c

/-- CORE_DISAGREE (R336, R337): `majority` says that two copies agree. -/
def execCoreDisagree (lane core : Nat) (majority : Bool) (s : State) : Host.Outcome State Fault Refusal :=
  s.on fun c =>
    let st := c.laneState lane
    if 2 ≤ lane ∨ 3 ≤ core ∨ c.lan.split ∨ c.lan.recovery ∨ st < 2 ∨ 5 < st ∨ c.coreState lane core ≠ 0 then c
    else
      let f := c.frame.toNat
      let c := (c.count LAN_CNT.RESYNC).stick LAN_STICKY.RESYNC
      let c := c.laneEvent 0xB001 [pN lane, pN core, c.frame]
      let others := [0, 1, 2].filter fun k => decide (k ≠ core) && decide (c.coreState lane k ≠ 0)
      let x := c.lane lane
      let faults := (x.faults.filter fun y => decide (framesSince c.frame (BitVec.ofNat 32 y.2) < 65536)) ++ [(core, f)]
      let c := c.modLane lane fun x => { x with faults := faults }
      let n := (faults.filter (·.1 == core)).length
      let c :=
        if x.resynced.contains core then c.failCore lane core 1
        else if c.fld LAN_CFG.RESYNC_LIMIT ≤ n then c.failCore lane core 0
        else c.setFld (coreFld lane core) 1
      if others ≠ [] then c.failLane lane 1
      else if !majority then c.failLane lane 2
      else c

/-- CORE_RESYNC (R336): in slot 0 of a later frame the marked cores take the registers of the lowest agreeing core. -/
def execCoreResync (lane : Nat) (s : State) : Host.Outcome State Fault Refusal :=
  s.on fun c =>
    let marked := c.coresIn lane 1
    let agreeing := (c.coresIn lane 0).head?
    let fresh (k : Nat) : Bool := (c.lane lane).faults.any fun y => y.1 == k && decide (y.2 = c.frame.toNat)
    if 2 ≤ lane ∨ c.lan.split ∨ c.tim.slot ≠ 0 ∨ c.laneState lane = 6 ∨ (lane = 0 ∧ c.halted) then c
    else match agreeing with
      | none => c
      | some a => c.each (marked.filter fun k => !fresh k) fun c k =>
          let c := (c.setCore lane k (c.core lane a)).setFld (coreFld lane k) 0
          let c := c.modLane lane fun x => { x with resynced := x.resynced ++ [k] }
          c.laneEvent 0xB002 [pN lane, pN k]

/-! ### Takeover and handover (R224, R341, R357) -/

/-- The image identifier that a lane runs. -/
def Card.laneImage (c : Card) (l : Nat) : Word := c.reg (idFld (c.lane l).bank).off

/-- A lane becomes primary: its health count starts afresh (R266), and the engine moves to its first setpoint (R224). -/
def Card.makePrimary (c : Card) (l : Nat) : Card :=
  let c := (c.setFld LAN_STATUS.PRIMARY l).setLaneState l 4
  c.each strings fun c s => c.modEng s fun e => { e with glide := true }

/-- The hand-over to the prepared image: the bank write, the running image, and the staged kernel set's switch (R357). -/
def Card.takeImage (c : Card) (k : Nat) : Card :=
  let c := (c.activate k).runImage k
  if ((c.bank k).cls 8).testBit 1 then c.switchSets else c

/-- LANE_TAKEOVER (R341, R342, R358), in slot 0. Where the lane that should take over no longer can, a LAN_LANE_RESET of the
primary is refused. -/
def execLaneTakeover (s : State) : Host.Outcome State Fault Refusal :=
  s.on fun c =>
    match c.lan.takeoverDue with
    | none => c
    | some (l, cause) =>
      let c : Card := if c.tim.slot = 0 then { c with lan.takeoverDue := none } else c
      if c.tim.slot ≠ 0 then c
      else if !c.canTakeOver l then
        let ops := c.lan.resetOps.filter (·.2 == 1 - l)
        if cause = 1 then { c with lan.resetOps := c.lan.resetOps.filter (·.2 != 1 - l) }.each ops fun c x => c.complete x.1 3 0xB00E
        else c
      else
        let upd := decide (c.laneState l = 5)
        let former := 1 - l
        let c := ((c.makePrimary l).stick LAN_STICKY.TAKEOVER).laneEvent 0xB012 [pN l, pN cause]
        let c := c.setFld LAN_STATUS.SHADOW_VALID 0
        let c := if upd then
            let c := c.takeImage (c.lane l).bank
            (c.laneEvent 0xB032 [pN l, c.laneImage l, c.frame]).endPrepare 0 0
          else c
        if cause = 1 then
          let ops := c.lan.resetOps.filter (·.2 == former)
          let c := { c with lan.resetOps := c.lan.resetOps.filter (·.2 != former) }
          let c := c.bootLane former c.activeBank
          c.each ops fun c x => (c.commit x.1).done x.1
        else c

/-! ### State import (R343) -/

/-- The shadow has imported: SHADOW, or UPD_SHADOW during an update. -/
def Card.imported (c : Card) (l : Nat) : Card :=
  let c := (c.setFld LAN_STATUS.SHADOW_VALID 1).modLane l fun x => { x with imports := 0 }
  let c := c.laneEvent 0xB013 [pN l, c.laneImage l]
  let c :=
    if c.upd = 1 then
      let c := { c with lan.updFrames := 0 }
      ((c.setLaneState l 5).setFld LAN_STATUS.UPD 2).record 0xB031 [c.laneImage l]
    else c.setLaneState l 3
  match c.lan.abortOp with
  | some slot => { c with lan.abortOp := none }.done slot
  | none => c

/-- An import that did not catch up within 100 frames: the third in a row fails the lane, and a prepare with TIMEOUT. -/
def Card.importFailed (c : Card) (l : Nat) : Card :=
  let n := (c.lane l).imports + 1
  let c := (c.setLaneState l 2).modLane l fun x => { x with imports := n }
  if n < 3 then c
  else
    let c := if c.upd = 0 then c
      else (c.endPrepare 0x0C 0xB00F).modLane l fun x => { x with resetDue := true }
    c.failLane l 5

/-- STATE_IMPORT (R343): a lane that has booted imports from the primary. During a prepare the import waits for the
learned-value commits (R356). -/
def execStateImport (lane : Nat) (caughtUp : Bool) (s : State) : Host.Outcome State Fault Refusal :=
  s.on fun c =>
    let st := c.laneState lane
    let busy := decide (c.upd = 1) && strings.any fun n => c.bit (EST_STATUS.COMMIT_BUSY n)
    if 2 ≤ lane ∨ lane = c.primary ∨ c.lan.split ∨ c.lan.recovery ∨ (st ≠ 1 ∧ st ≠ 2) ∨ busy
        ∨ c.laneState c.primary ≠ 4 ∨ (c.lane lane).resetDue ∨ c.lan.prepareDue then c
    else if caughtUp then c.imported lane
    else c.importFailed lane

/-- UPD_SHADOW_READY (R356): SHADOW_MIN frames have passed in UPD_SHADOW. -/
def execUpdShadowReady (s : State) : Host.Outcome State Fault Refusal :=
  s.on fun c =>
    if c.upd ≠ 2 ∨ c.lan.updFrames < c.fld LAN_CFG.SHADOW_MIN then c
    else
      let op := c.lan.prepareOp
      let c := { c with lan.prepareOp := none }.setFld LAN_STATUS.UPD 3
      match op with
      | some slot => c.done slot
      | none => c

/-! ### Context save (R345, R346) -/

/-- Every core of a lane has stopped. -/
def Card.allStopped (c : Card) (l : Nat) : Bool := [0, 1, 2].all fun k => (c.core l k).stopped

/-- What a stopped core means: in split mode event 0xB014 and its operations; otherwise the last of a lane's cores fails
the lane with cause 4. -/
def Card.stopCore (c : Card) (l k : Nat) : Card :=
  if c.lan.split then c.stopSplit l k
  else
    let c := c.setCore l k { c.core l k with stopped := true }
    if c.allStopped l then c.failLane l 4 else c

/-- CONTEXT_SAVE (R345, R346): a core takes an exception or interrupt; `ecc` says that a word of the push meets an
uncorrectable error. -/
def execContextSave (lane core : Nat) (interrupt : Bool) (code : Nat) (ecc : Bool) (s : State) :
    Host.Outcome State Fault Refusal :=
  s.on fun c =>
    let k := c.core lane core
    let st := c.laneState lane
    if 2 ≤ lane ∨ 3 ≤ core ∨ st = 0 ∨ st = 6 ∨ k.stopped then c
    else
      let ctrl := k.csrGet 0x7C0
      let t := k.trap interrupt code
      if ctrl.getLsbD 1 && !interrupt then c.stopCore lane core
      else if !ctrl.getLsbD 0 then c.setCore lane core t
      else if t.pushValid && !ecc then
        let sp := (t.get 2).toNat - 80
        let c := c.setCore lane core (t.set 2 (BitVec.ofNat 32 sp))
        c.modLane lane fun x => { x with mem := x.mem.setRange x.left sp (t.saved.flatMap fun w => le 4 w.toNat) }
      else
        let c := (c.setCore lane core t.fatal).stick LAN_STICKY.FATAL
        let c := c.laneEvent 0xB020 [pN lane, k.pc, k.get 2, t.csrGet 0x342]
        if c.lan.split then c.stopSplit lane core else c.failLane lane 3

/-! ### The lane opcodes (R342, R344, R356 to R358) -/

/-- A satellite update is in progress on a string. -/
def Card.updating (c : Card) : Bool := c.lan.satUpd.any fun x => x.2.isSome

/-- LAN_UPDATE_PREPARE (0xB3): the checks of R356 in their order. -/
def rowLanUpdatePrepare : Row where
  opcode := 0xB3
  role := 2
  args _ d := lanArgs (d.only [])
  drain _ := true
  checks c _ :=
    let k := c.standbyBank
    if c.lan.attached then some (3, 0xB006, 0)
    else if c.lan.split then some (3, 0xB00B, 0)
    else if c.imgState k ≠ 2 then some (3, 0xB009, 0)
    else if !c.handoverOk k then some (3, 0xB00A, 0)
    else if c.coresIn c.primary 1 ≠ [] ∨ c.coresIn c.primary 2 ≠ [] ∨ c.laneState c.shadow ≠ 3 then some (3, 0xB00C, 0)
    else if c.fld SYS_CFG_STAT.STATE ≠ 0 then some (3, 0xB0F0, 0)
    else if c.upd ≠ 0 ∨ c.updating ∨ c.lan.abortOp ≠ none
        ∨ (c.running.any fun x => x.2.opcode == 0xB4 && !x.2.produced) then some (3, 0xB006, 0)
    else none
  start slot c :=
    let c := { c with lan.prepareOp := some slot, lan.prepareDue := true }.setFld LAN_STATUS.UPD 1
    c.record 0xB030 [c.reg (idFld c.standbyBank).off]

/-- LAN_UPDATE_PREPARE. -/
def execLanUpdatePrepare (d : Desc) (s : State) : Host.Outcome State Fault Refusal := s.on fun c => c.accept rowLanUpdatePrepare d

/-- The handover to the prepared image, at a frame boundary: the former primary is reset at the next one. -/
def Card.handOver (c : Card) (slot : Nat) : Card :=
  let l := c.shadow
  let former := c.primary
  let c := (c.commit slot).takeImage (c.lane l).bank
  let c := (c.makePrimary l).setLaneState former 0
  let c := c.laneEvent 0xB032 [pN l, c.laneImage l, c.frame]
  let c := (c.setFld LAN_STATUS.UPD 0).setFld LAN_STATUS.SHADOW_VALID 0
  { c with lan.formerDue := some former }.setPhase slot 1

/-- The exchange of roles without an update. -/
def Card.exchangeRoles (c : Card) (slot : Nat) : Card :=
  let l := c.shadow
  let former := c.primary
  let c := ((c.commit slot).makePrimary l).setLaneState former 3
  (c.laneEvent 0xB032 [pN l, c.laneImage l, c.frame]).setPhase slot 1

/-- LAN_HANDOVER (0xB4): mode 0 at the frame boundary of its trigger; mode 1 writes the other bank as the active one. -/
def rowLanHandover : Row where
  opcode := 0xB4
  role := 2
  args _ d := lanArgs (d.only [(0, 1), (8, 8)] && decide (d.byte 0 ≤ 1) && !trigReserved (d.at 8 8))
  checks c d :=
    if c.lan.attached then some (3, 0xB006, 0)
    else if d.byte 0 = 0 then (if c.lan.split then some (3, 0xB00B, 0) else none)
    else if c.imgState c.standbyBank ≠ 2 then some (3, 0xB009, 0)
    else if !c.activationOk c.standbyBank then some (3, 0xB00A, 0)
    else none
  trig d := some (d.at 8 8)
  start _ c := c
  fire slot c :=
    if (c.descOf slot).byte 0 = 1 then
      if c.imgState c.standbyBank = 2 then ((c.commit slot).activate c.standbyBank).done slot
      else c.complete slot 9 0xB00D
    else if c.upd = 3 then c.handOver slot
    else if c.upd = 0 ∧ c.laneState c.shadow = 3 ∧ c.bit LAN_STATUS.SHADOW_VALID ∧ c.laneState c.primary = 4 then
      c.exchangeRoles slot
    else c.complete slot 9 0xB00D
  slots n := n == 0

/-- LAN_HANDOVER. -/
def execLanHandover (d : Desc) (s : State) : Host.Outcome State Fault Refusal := s.on fun c => c.accept rowLanHandover d

/-- A handover or role exchange completes DONE in slot 7 of its frame. -/
def Card.laneSlot7 (c : Card) : Card :=
  c.each c.running fun c x => if x.2.opcode = 0xB4 ∧ x.2.phase = 1 ∧ !x.2.produced then c.done x.1 else c

/-- LAN_UPDATE_ABORT (0xB5): refused BAD_STATE with NOT_READY where no update is in progress. -/
def rowLanUpdateAbort : Row where
  opcode := 0xB5
  role := 2
  args _ d := lanArgs (d.only [])
  checks c _ := if c.upd = 0 ∨ c.lan.abortOp ≠ none then some (9, 0xB00D, 0) else none
  start slot c := { c with lan.abortOp := some slot }

/-- LAN_UPDATE_ABORT. -/
def execLanUpdateAbort (d : Desc) (s : State) : Host.Outcome State Fault Refusal := s.on fun c => c.accept rowLanUpdateAbort d

/-- LAN_LANE_RESET (0xB6). -/
def rowLanLaneReset : Row where
  opcode := 0xB6
  role := 2
  args _ d := lanArgs (d.only [(0, 1)] && decide (d.byte 0 ≤ 1))
  checks c d :=
    if c.lan.attached ∧ d.byte 0 = 0 then some (3, 0xB006, 0)
    else if c.lan.split ∨ (d.byte 0 = c.primary ∧ (c.laneState c.shadow ≠ 3 ∨ !c.bit LAN_STATUS.SHADOW_VALID)) then
      some (3, 0xB00E, 0)
    else none
  start slot c :=
    let l := (c.descOf slot).byte 0
    let c := { c with lan.resetOps := c.lan.resetOps ++ [(slot, l)] }
    if l = c.primary then { c with lan.takeoverDue := some (1 - l, 1) } else c

/-- LAN_LANE_RESET. -/
def execLanLaneReset (d : Desc) (s : State) : Host.Outcome State Fault Refusal := s.on fun c => c.accept rowLanLaneReset d

/-- LAN_BOOT_SPLIT (0xBA): the option in MRAM. -/
def rowLanBootSplit : Row where
  opcode := 0xBA
  role := 3
  args _ d := lanArgs (d.only [(0, 1)] && decide (d.byte 0 ≤ 1))
  start slot c := ((c.commit slot).setFld LAN_BANK_STAT.SPLIT_NEXT ((c.descOf slot).byte 0)).done slot

/-- LAN_BOOT_SPLIT. -/
def execLanBootSplit (d : Desc) (s : State) : Host.Outcome State Fault Refusal := s.on fun c => c.accept rowLanBootSplit d

/-! ### The frame boundary (R340, R342, R352, R356 to R358) -/

/-- The prepare's commit point: the shadow lane is reset onto the standby image, the commits of cause 3 start, and a kernel
part is written into the standby tile banks. -/
def Card.commitPrepare (c : Card) : Card :=
  if !c.lan.prepareDue then c
  else
    let k := c.standbyBank
    let c := { c with lan.prepareDue := false }
    let c := match c.lan.prepareOp with
      | some slot => c.commit slot
      | none => c
    let c := (c.bootLane c.shadow k).each strings fun c s => c.wantCommit s 3
    match c.bankSet k with
    | some (x, ws) => c.stageSet x ws
    | none =>
      if (c.bank k).delivered then
        let n := c.free
        { c with free := n + 6 }.stageSet { id := Config.kernelAtDelivery, cls := 3, batches := deliveredBatches n } []
      else c

/-- An abort resets the shadow onto the active image: the prepare completes FLUSHED, event 0xB033, whose cause the spec does
not define (R358). -/
def Card.commitAbort (c : Card) : Card :=
  match c.lan.abortOp with
  | none => c
  | some slot =>
    if c.upd = 0 then c
    else
      let c := (c.commit slot).endPrepare 0x0A 0xB017
      let (n, c) := c.draw
      (c.record 0xB033 [(Config.freeValue n).setWidth 32]).bootLane c.shadow c.activeBank

/-- The resets that wait for the boundary: LAN_LANE_RESET of a shadow, a lost shadow, and the former primary of a handover. -/
def Card.commitResets (c : Card) : Card :=
  let ops := c.lan.resetOps.filter fun x => decide (x.2 ≠ c.primary)
  let c := { c with lan.resetOps := c.lan.resetOps.filter fun x => decide (x.2 = c.primary) }
  let c := c.each ops fun c x =>
    let c := if c.upd = 0 then c else c.endPrepare 0x0B 0xB010
    ((c.bootLane x.2 c.activeBank).commit x.1).done x.1
  let c := c.each [0, 1] fun c l =>
    if (c.lane l).resetDue && decide (l ≠ c.primary) then c.bootLane l c.activeBank else c
  match c.lan.formerDue with
  | some l => { c with lan.formerDue := none }.bootLane l c.activeBank
  | none => c

/-- The number of the frame's digests (R340), drawn once per frame. -/
def Card.digestDraw (c : Card) : Nat × Card :=
  match c.rcd.digest with
  | some n => (n, c)
  | none =>
    let (n, c) := c.draw
    (n, { c with rcd.digest := some n })

/-- The primary lane's digest, or zero while the lanes are split (R377). -/
def Card.primaryDigest (c : Card) (n : Nat) : Nat := if c.lan.split then 0 else (Config.digest c.primary n).toNat

/-- The digests are compared (R340) while one lane is primary and the other SHADOW. -/
def Card.compareDigests (c : Card) : Card :=
  let l := c.shadow
  if c.lan.split ∨ c.lan.attached ∨ c.laneState c.primary ≠ 4 ∨ c.laneState l ≠ 3 then c
  else
    let (n, c) := c.digestDraw
    if Config.digest c.primary n = Config.digest l n then c
    else
      let c := ((c.setFld LAN_STATUS.SHADOW_VALID 0).count LAN_CNT.MISMATCH).stick LAN_STICKY.MISMATCH
      let c := c.laneEvent 0xB010 [pN l, c.frame]
      let old := (c.lane l).mismatches.filter fun f => decide (framesSince c.frame (BitVec.ofNat 32 f) < 65536)
      let c := c.modLane l fun x => { x with mismatches := old ++ [c.frame.toNat] }
      if c.fld LAN_CFG.COMPARE_LIMIT ≤ old.length + 1 then
        ((c.setLaneState l 6).laneEvent 0xB011 [pN l]).loseShadow l
      else c.setLaneState l 2

/-- The lanes toggle their health lines at the end of their slot 6 work (R338). -/
def Card.laneSlot6 (c : Card) : Card :=
  c.each [0, 1] fun c l =>
    let st := c.laneState l
    let up := (if st = 7 then !(c.core l 0).stopped else decide (3 ≤ st ∧ st ≤ 5)) && !(decide (l = 0) && c.halted)
    if up then c.modLane l fun x => { x with health := !x.health, toggled := true } else c

/-- The fabric's count of the primary's health line (R266, R341), or of core A0's in split mode (R344). -/
def Card.countLines (c : Card) : Card :=
  let l := if c.lan.split then 0 else c.primary
  let st := c.laneState l
  let present := decide (st = 4 ∨ st = 6 ∨ st = 7)
  let changed := decide (c.lan.counted ≠ some l)
  let c := c.countHealth present changed (c.lane l).toggled
  let c := if present then { c with lan.counted := some l } else c
  c.each [0, 1] fun c l => c.modLane l fun x => { x with toggled := false }

/-- A lane's part of every frame boundary. -/
def Card.laneFrame (c : Card) : Card :=
  let c := c.each [0, 1] fun c l => c.modLane l fun x => { x with resynced := [] }
  let c := c.countLines
  let c := c.compareDigests
  let c := ((c.commitResets).commitAbort).commitPrepare
  let runs := c.laneRuns
  { c with
    lan.updFrames := if c.upd = 2 then c.lan.updFrames + 1 else c.lan.updFrames
    lan.bootFrames := if runs then c.lan.bootFrames + 1 else c.lan.bootFrames }

end Sys2Proof.Machine
end

