-- ==== Sys2Proof/Machine/Debug.lean ====
section
/-! DEFINITION. The debug port J9: the test access port, its sessions, and the debugger of lane A (R426 to R430). -/

namespace Sys2Proof.Machine

/-! ### The test access port (R426) -/

/-- Every string is OPEN or LOCKED. -/
def Card.stringsDead (c : Card) : Bool := strings.all fun s => decide (c.safState s = 0 ∨ c.safState s = 6)

/-- The open J9 session. -/
def Card.j9Session (c : Card) : Option Session := c.sec.dbg.j9.bind c.session

/-- An access through the TAP selects an instruction, and uses the J9 session (R421). Leaving EXTEST releases the pins. -/
def Card.tap (c : Card) (ir : Nat) : Card :=
  let c := match c.sec.dbg.j9 with
    | some id => c.touch id
    | none => c
  { c with sec.dbg.ir := ir, sec.dbg.driving := false }

/-- The one-bit BYPASS register takes a bit. -/
def Card.shiftBypass (c : Card) (b : Bool) : Card := { c with sec.dbg.bypass := b }

/-- EXTEST: it drives the pins from the boundary register with an open maker session and every string OPEN or LOCKED;
otherwise it acts as BYPASS and sets DBG_REFUSED. -/
def execExtest (bits : BitVec 612) (s : State) : Host.Outcome State Fault Refusal :=
  s.on fun c =>
    let c := c.tap 0
    if c.j9Session.any (fun x => decide (x.role = 3)) && c.stringsDead then
      { c with sec.dbg.boundary := bits, sec.dbg.driving := true }
    else (c.shiftBypass (bits.getLsbD 611)).stick SEC_STICKY.DBG_REFUSED

/-- IDCODE: 0x3204_8F29 on issue C. -/
def execIdcode (s : State) : Host.Outcome State Fault Refusal :=
  s.on fun c => { c.tap 1 with sec.dbg.tdr := 0x32048F29 }

/-- SAMPLE/PRELOAD: the boundary register takes the bits shifted in. -/
def execSamplePreload (bits : BitVec 612) (s : State) : Host.Outcome State Fault Refusal :=
  s.on fun c => { c.tap 2 with sec.dbg.boundary := bits }

/-- BYPASS. -/
def execBypass (tdi : Bool) (s : State) : Host.Outcome State Fault Refusal := s.on fun c => (c.tap 31).shiftBypass tdi

/-- SEC_CHAL: Update-DR issues a challenge for the slot in bits 2:0 (R417); a slot that may open no J9 session reads
SLOT_EMPTY. -/
def execSecChal (dr : BitVec 264) (s : State) : Host.Outcome State Fault Refusal :=
  s.on fun c =>
    let c := c.tap 8
    let n := dr.toNat % 8
    if (c.key n).role < 2 then { c with sec.dbg.chalStatus := 2 }
    else if c.blocked n then { c with sec.dbg.chalStatus := 3 }
    else if 16 ≤ c.sec.sessions.length then { c with sec.dbg.chalStatus := 4 }
    else
      let c := { c with sec.challenges := c.sec.challenges.filter (·.path != 1) }
      let (_, nonce, c) := c.challenge n 1
      { c with sec.dbg.chalNonce := nonce, sec.dbg.chalStatus := 0 }

/-- The J9 session that a new one replaces ends. -/
def Card.replaceJ9 (c : Card) (id : BitVec 16) : Card :=
  let c := match c.sec.dbg.j9 with
    | some old => c.endSession old 4
    | none => c
  { c with sec.dbg.j9 := some id, sec.dbg.respStatus := 0, sec.dbg.respSession := id }

/-- SEC_RESP: the checks of R417 on path 1, then the comparison of the HMAC in bits 255:0. -/
def execSecResp (dr : BitVec 264) (s : State) : Host.Outcome State Fault Refusal :=
  s.on fun c =>
    let c := c.tap 9
    match c.sec.challenges.find? fun x => x.path == 1 && decide (c.tim.clock ≤ x.issued + 10000000000) with
    | none => { c with sec.dbg.respStatus := 6 }
    | some x =>
      let c := c.useChallenge x.handle
      if c.blocked x.slot then { c with sec.dbg.respStatus := 3 }
      else if 16 ≤ c.sec.sessions.length then { c with sec.dbg.respStatus := 4 }
      else if le 32 dr.toNat = c.expected x then
        let (id, c) := (c.authPass x.slot).openSession (c.key x.slot).role x.slot 1
        c.replaceJ9 id
      else { c.authFail x.slot 1 with sec.dbg.respStatus := 5 }

/-- TEST_LOGIC_RESET: the J9 session ends, with a cause that R421 does not list, and lane A is detached. -/
def execTestLogicReset (s : State) : Host.Outcome State Fault Refusal :=
  s.on fun c =>
    let c := { c with sec.dbg.ir := 1, sec.dbg.driving := false }
    match c.sec.dbg.j9 with
    | none => c
    | some id =>
      let (n, c) := c.draw
      let c := { c with sec.sessions := c.sec.sessions.filter (·.id != id)
                        sec.unlock := if c.sec.unlock = some id then none else c.sec.unlock }
      (c.record 0xF002 [pN id.toNat, (Config.freeValue n).setWidth 32]).endJ9 2

/-! ### Debug commands (R427 to R430) -/

/-- A command that sets an error changes nothing and sets DBG_REFUSED. -/
def Card.debugError (c : Card) (e : Nat) : Card := { c with sec.dbg.error := e }.stick SEC_STICKY.DBG_REFUSED

/-- A debug command: an open J9 session of the role, zero fields, the command's range, the states it is valid in, and none
under way. -/
def Card.debug (c : Card) (x : DbgCmd) (role : Nat) (range : Bool) (states : List Nat) (f : Card → Card) : Card :=
  let c := c.tap 10
  let c : Card := { c with sec.dbg.data := x.data }
  match c.j9Session with
  | none => c.debugError 1
  | some y =>
    if y.role < role then c.debugError 2
    else if x.zero ≠ 0 then c.debugError 3
    else if !range then c.debugError 6
    else if !states.contains c.sec.dbg.state then c.debugError 7
    else if c.sec.dbg.busy.isSome then c.debugError 8
    else f { c with sec.dbg.error := 0 }

/-- The CSRs of a core that firmware may have written: the machine-mode ones and those of R345. -/
def coreCsrs : List Nat :=
  [0x300, 0x301, 0x304, 0x305, 0x340, 0x341, 0x342, 0x343, 0x344, 0x7C0, 0x7C1, 0x7C2, 0x7C3, 0x7C4]
    ++ (List.range 19).map (0x7C8 + ·)

/-- Lane A's cores stop: what firmware has left in their registers and in lane memory is free, and equal in the three
cores. -/
def Card.freezeLane (c : Card) : Card :=
  let n := c.free
  let v (i : Nat) : Word := (Config.freeValue (n + i)).setWidth 32
  let k : Core := { stopped := (c.core 0 0).stopped, pc := v 0, resv := none }
  let k := (List.range 31).foldl (fun (k : Core) i => k.set (i + 1) (v (i + 1))) k
  let k := coreCsrs.zipIdx.foldl (fun (k : Core) a => k.csrSet a.1 (v (32 + a.2))) k
  let c := { c with free := n + 128 + 2 ^ 21 }
  (c.each [0, 1, 2] fun c i => c.setCore 0 i { k with stopped := (c.core 0 i).stopped }).modLane 0 fun x =>
    { x with mem := [], seed := some (n + 128) }

/-- Lane A is HALTED with a cause: event 0xF032. -/
def Card.haltLane (c : Card) (cause bp : Nat) : Card :=
  let c := { c with sec.dbg.state := 2, sec.dbg.cause := cause, sec.dbg.bpHit := bp }
  c.record 0xF032 [(c.core 0 0).pc, pN cause, pN bp]

/-- ATTACH: it takes effect at the next frame boundary. -/
def execAttach (cmd : DbgCmd) (s : State) : Host.Outcome State Fault Refusal :=
  s.on fun c => c.debug cmd 2 true [0] fun c => { c with sec.dbg.busy := some 1 }

/-- DETACH: it takes effect at the next frame boundary. -/
def execDetach (cmd : DbgCmd) (s : State) : Host.Outcome State Fault Refusal :=
  s.on fun c => c.debug cmd 2 true [1, 2] fun c => { c with sec.dbg.busy := some 2, sec.dbg.detachCause := 0 }

/-- HALT. -/
def execDebugHalt (cmd : DbgCmd) (s : State) : Host.Outcome State Fault Refusal :=
  s.on fun c => c.debug cmd 2 true [1] fun c => c.freezeLane.haltLane 0 0

/-- RESUME. -/
def execResume (cmd : DbgCmd) (s : State) : Host.Outcome State Fault Refusal :=
  s.on fun c => c.debug cmd 2 true [2] fun c => { c with sec.dbg.state := 1 }

/-- A byte of lane A's memory; beyond it an access brings free bytes. -/
def Card.laneByte (c : Card) (a : Nat) : Byte :=
  let x := c.lane 0
  if a < 2 ^ 21 then x.mem.get x.left a else (Config.freeValue (c.free + a)).setWidth 8

/-- Stores bytes into lane A's memory; those beyond it are not lane memory. -/
def Card.laneStore (c : Card) (a : Nat) (bs : List Byte) : Card :=
  c.modLane 0 fun x => { x with mem := x.mem.setRange x.left a (bs.take (2 ^ 21 - a)) }

/-- STEP: one instruction with interrupts masked, in the three cores. -/
def execStep (cmd : DbgCmd) (s : State) : Host.Outcome State Fault Refusal :=
  s.on fun c => c.debug cmd 2 true [2] fun c =>
    let load (a n : Nat) : Nat := fromLe ((List.range n).map fun i => c.laneByte (a + i))
    let stores := ((c.core 0 0).step load).stores
    let c := c.each [0, 1, 2] fun c k => c.setCore 0 k ((c.core 0 k).step load).core
    let c := { c with free := c.free + 2 ^ 32 }
    (c.each stores fun c x => c.laneStore x.1 x.2).haltLane 2 0

/-- The breakpoint of an argument. -/
def bpOf (x : DbgCmd) : Nat := x.arg.toNat % 8

/-- BP_SET: breakpoint n with its kind and address. -/
def execBpSet (cmd : DbgCmd) (s : State) : Host.Outcome State Fault Refusal :=
  s.on fun c => c.debug cmd 2 true [1, 2] fun c => { c with
    sec.dbg.bps := c.sec.dbg.bps.set (fun _ => none) (bpOf cmd) (some (cmd.arg.toNat / 16 % 4, cmd.addr)) }

/-- BP_CLR. -/
def execBpClr (cmd : DbgCmd) (s : State) : Host.Outcome State Fault Refusal :=
  s.on fun c => c.debug cmd 2 true [1, 2] fun c => { c with sec.dbg.bps := c.sec.dbg.bps.set (fun _ => none) (bpOf cmd) none }

/-- The register that REG_RD and REG_WR name exists: x0 to x31, pc, or a CSR that does not trap. -/
def regOk (x : DbgCmd) : Bool :=
  decide (x.arg.toNat ≤ 32) || (decide (x.arg.toNat = 33) && !csrIllegal (x.addr.toNat % 4096))

/-- The address of MEM_RD and MEM_WR is an aligned word of lane A memory. -/
def memOk (x : DbgCmd) : Bool := decide (x.addr.toNat % 4 = 0) && decide (x.addr.toNat < 2 ^ 21)

/-- REG_RD. -/
def execRegRd (cmd : DbgCmd) (s : State) : Host.Outcome State Fault Refusal :=
  s.on fun c => c.debug cmd 2 (regOk cmd) [2] fun c =>
    let k := c.core 0 0
    let v := if cmd.arg.toNat < 32 then k.get cmd.arg.toNat
      else if cmd.arg.toNat = 32 then k.pc else k.csrGet (cmd.addr.toNat % 4096)
    { c with sec.dbg.data := v }

/-- A debug write: event 0xF033. -/
def Card.debugWrite (c : Card) (at' v : Word) : Card :=
  c.record 0xF033 [pN ((c.sec.dbg.j9.map (·.toNat)).getD 0), at', v]

/-- REG_WR: applied to the three cores. -/
def execRegWr (cmd : DbgCmd) (s : State) : Host.Outcome State Fault Refusal :=
  s.on fun c => c.debug cmd 3 (regOk cmd) [2] fun c =>
    let n := cmd.arg.toNat
    let put (k : Core) : Core :=
      if n < 32 then k.set n cmd.data else if n = 32 then { k with pc := cmd.data }
      else k.csrSet (cmd.addr.toNat % 4096) cmd.data
    (c.each [0, 1, 2] fun c i => c.setCore 0 i (put (c.core 0 i))).debugWrite (pN (n + 0x10000)) cmd.data

/-- MEM_RD. -/
def execMemRd (cmd : DbgCmd) (s : State) : Host.Outcome State Fault Refusal :=
  s.on fun c => c.debug cmd 2 (memOk cmd) [2] fun c =>
    { c with sec.dbg.data := pN (fromLe ((List.range 4).map fun i => c.laneByte (cmd.addr.toNat + i))) }

/-- MEM_WR. -/
def execMemWr (cmd : DbgCmd) (s : State) : Host.Outcome State Fault Refusal :=
  s.on fun c => c.debug cmd 3 (memOk cmd) [2] fun c =>
    (c.laneStore cmd.addr.toNat (le 4 cmd.data.toNat)).debugWrite cmd.addr cmd.data

/-- BREAKPOINT_HIT: a set breakpoint is met while the core runs attached; the core halts at that instruction. -/
def execBreakpointHit (bp : Nat) (s : State) : Host.Outcome State Fault Refusal :=
  s.on fun c =>
    match c.sec.dbg.bps.get (fun _ => none) bp with
    | none => c
    | some (kind, addr) =>
      if 8 ≤ bp ∨ c.sec.dbg.state ≠ 1 then c
      else
        let c := c.freezeLane
        let c := if kind = 0 then c.each [0, 1, 2] fun c i => c.setCore 0 i { c.core 0 i with pc := addr } else c
        c.haltLane 1 bp

/-! ### The frame boundary (R428, R430) -/

/-- ATTACH takes effect, or fails. -/
def Card.attachLane (c : Card) : Card :=
  let c := { c with sec.dbg.busy := none }
  let shadowB := decide (c.laneState 1 = 3) && c.bit LAN_STATUS.SHADOW_VALID
  let alone := decide (c.primary = 0) && !shadowB
  if c.lan.split && !c.stringsDead then c.debugError 5
  else if !c.lan.split && alone && !c.stringsDead then c.debugError 4
  else
    let c := if !c.lan.split ∧ c.primary = 0 ∧ shadowB then
        (((c.makePrimary 1).setLaneState 0 3).stick LAN_STICKY.TAKEOVER).laneEvent 0xB012 [1, 1]
      else c
    let c := { c with
      lan.attached := true, sec.dbg.state := 1, sec.dbg.holder := c.sec.dbg.j9.getD 0 }.setFld LAN_STATUS.SHADOW_VALID 0
    c.record 0xF030 [pN ((c.sec.dbg.j9.map (·.toNat)).getD 0)]

/-- DETACH, or the end of the J9 session: lane A is reset and boots the active bank. Where it is the only lane in service
it goes on as the primary. -/
def Card.detachLane (c : Card) : Card :=
  let sid := pN c.sec.dbg.holder.toNat
  let c := { c with lan.attached := false, sec.dbg.busy := none, sec.dbg.state := 0, sec.dbg.bps := [] }
  let st := c.laneState 0
  let alone := decide (c.primary = 0)
  let c := c.bootLane 0 c.activeBank
  let c := if c.lan.split then c.setLaneState 0 7 else if alone then c.setLaneState 0 st else c
  c.record 0xF031 [sid, pN c.sec.dbg.detachCause]

/-- The debugger's part of a frame boundary. -/
def Card.debugFrame (c : Card) : Card :=
  match c.sec.dbg.busy with
  | none => c
  | some k =>
    if k = 1 then (if c.j9Session.isSome then c.attachLane else { c with sec.dbg.busy := none }) else c.detachLane

end Sys2Proof.Machine
end

