-- ==== Sys2Proof/Machine/Time.lean ====
section
/-! DEFINITION. The time unit (R28 to R54): PTP, holdover, the transmit stamp queue, the frame pulse, and the TIM
register commands. The frame tick itself stands with the frame and slot boundaries. -/

namespace Sys2Proof.Machine

/-- A P2 port's record. -/
def Card.port (c : Card) (p : Nat) : TimPort := c.tim.ports.get (fun _ => {}) p

/-- Writes a P2 port's record. -/
def Card.setPort (c : Card) (p : Nat) (x : TimPort) : Card :=
  { c with tim.ports := c.tim.ports.set (fun _ => {}) p x }

/-- The rate correction applied: the sum of the terms, held to ±100 ppm (R30). -/
def Card.setRate (c : Card) : Card :=
  c.setSfld TIM_RATE_ADJ.RATE_ADJ (clampInt (-429497) 429497 (c.tim.prop + c.tim.integ))

/-- TIME_STATE becomes UNQUALIFIED after holdover: event 0x1003 with the seconds spent in it (R32). -/
def Card.loseTime (c : Card) (seconds : Nat) : Card :=
  (c.setFld TIM_STATUS.TIME_STATE 0).record 0x1003 [pN seconds]

/-- The qualification of a grandmaster starts afresh (R32, R33). -/
def Card.requalify (c : Card) : Card := { c with tim.qual := [], tim.qualified := false, tim.lockRun := 0, tim.stepRun := 0 }

/-- A loss (cause 0) or change (cause 1) of the grandmaster (R32): LOCKED enters HOLDOVER, the servo drops its
proportional term; every state restarts the qualification. HOLDOVER_LIMIT 0 makes UNQUALIFIED at once. -/
def Card.loseGrandmaster (c : Card) (cause : Nat) : Card :=
  let c := c.requalify
  if c.fld TIM_STATUS.TIME_STATE = 1 then
    let c := { c with tim.prop := 0, tim.holdSince := c.tim.clock }
    let c := ((c.setRate).setFld TIM_STATUS.TIME_STATE 2).record 0x1002 [pN cause]
    if c.fld TIM_HOLDOVER_CFG.HOLDOVER_LIMIT = 0 then c.loseTime 0 else c
  else c

/-- The grandmaster identity followed becomes `gm`; another one than before is a grandmaster change (R32). -/
def Card.follow (c : Card) (gm : BitVec 64) : Card :=
  match c.tim.gm with
  | none => { c with tim.gm := some gm }
  | some g => if g = gm then c else { (c.loseGrandmaster 1) with tim.gm := some gm, tim.changed := true }

/-- The dataset a port announces; none without link. -/
def Card.announced (c : Card) (p : Nat) : Option Announce := if (c.port p).link then (c.port p).ann else none

/-- Data set comparison of IEEE 1588-2019 between different grandmasters: `a` is better than `b`. -/
def Announce.better (a b : Announce) : Bool :=
  let ka := [a.priority1, a.clockClass, a.accuracy, a.variance, a.priority2, a.gm.toNat]
  let kb := [b.priority1, b.clockClass, b.accuracy, b.variance, b.priority2, b.gm.toNat]
  decide (ka < kb)

/-- The port that R29 makes active, and the cause of a move to it, from what the ports announce. `lost` is the cause
that a move away from a silent active port carries. -/
def Card.wantedPort (c : Card) (lost : Nat) : Nat × Nat :=
  let act := c.fld TIM_STATUS.ACTIVE_PORT
  match c.announced 0, c.announced 1 with
  | some a, some b =>
    if a.gm = b.gm then (c.fld TIM_CTRL.PORT_PREF, 3) else (if Announce.better a b then 0 else 1, 2)
  | some _, none => (0, lost)
  | none, some _ => (1, lost)
  | none, none => (act, lost)

/-- Re-evaluates the active port; a move waits for the new port's next Sync (R29). -/
def Card.choosePort (c : Card) (lost : Nat) : Card :=
  let w := c.wantedPort lost
  { c with tim.moveDue := if w.1 = c.fld TIM_STATUS.ACTIVE_PORT then none else some w }

/-- A pending move of the active port takes effect at this Sync of the new port: event 0x1005 (R29). -/
def Card.movePort (c : Card) (port : Nat) : Card :=
  match c.tim.moveDue with
  | none => c
  | some (p, cause) =>
    if p ≠ port then c
    else
      let c := ({ c with tim.moveDue := none }.setFld TIM_STATUS.ACTIVE_PORT p).record 0x1005 [pN p, pN cause]
      match c.announced p with
      | some a => (c.follow a.gm).setFld TIM_UTC_OFFSET.UTC_OFFSET a.utcOffset.toNat
      | none => c

/-- Eight consecutive offsets within 1 µs of one another qualify a grandmaster (R33); the eighth reaches no servo. -/
def Card.qualify (c : Card) (offset : Int) : Card :=
  let q := (offset :: c.tim.qual).take 8
  let spread := q.foldl max offset - q.foldl min offset
  if q.length = 8 ∧ spread ≤ 1000 then
    let c := { c with tim.qual := [], tim.qualified := true, tim.lockRun := 0, tim.stepRun := 0, tim.firstStep := false }
    if c.tim.changed then
      { c with tim.changed := false }.record 0x1006 (pLoHi (c.tim.gm.getD 0).toNat)
    else c
  else { c with tim.qual := q }

/-- The servo on one offset (R30): a step after 8 magnitudes above STEP_THR, otherwise the two terms. -/
def Card.servo (c : Card) (port : Nat) (offset : Int) : Card :=
  let thr := c.fld TIM_SERVO_CFG.STEP_THR
  let run := if thr ≠ 0 ∧ (thr * 1000 : Nat) < offset.natAbs then c.tim.stepRun + 1 else 0
  if 8 ≤ run then { c with tim.stepRun := 0, tim.stepDue := some offset }
  else
    let interval : Int := max 1 (c.tim.clock - (c.port port).lastSync)
    let prop := quot (quot (offset * 2 ^ 32) (2 ^ c.fld TIM_SERVO_CFG.KP_SHIFT)) interval
    let integ := c.tim.integ + quot (offset * Config.integralUnit) (2 ^ c.fld TIM_SERVO_CFG.KI_SHIFT)
    { c with tim.stepRun := run, tim.prop := prop, tim.integ := integ }.setRate

/-- Eight offsets below 1 µs in a row make TIME_STATE LOCKED: event 0x1001 (R31). -/
def Card.lockTest (c : Card) (port : Nat) (offset : Int) : Card :=
  let run := if offset.natAbs < 1000 then c.tim.lockRun + 1 else 0
  let c := { c with tim.lockRun := run }
  if 8 ≤ run ∧ c.fld TIM_STATUS.TIME_STATE ≠ 1 then
    ({ c with tim.everLocked := true }.setFld TIM_STATUS.TIME_STATE 1).record 0x1001
      (pLoHi (c.tim.gm.getD 0).toNat ++ [pN port])
  else c

/-- A measured offset of the active port, which the primary lane's firmware feeds (R30). The first that follows the
qualification steps plant time while TIME_STATE is UNQUALIFIED; later ones feed the servo (R31, R33). -/
def Card.offset (c : Card) (port : Nat) (offset : Int) : Card :=
  let c := c.setSfld TIM_OFFSET.OFFSET (clampInt (-2147483647) 2147483647 offset)
  if (c.announced port).isNone then c
  else if !c.tim.qualified then c.qualify offset
  else
    let first := !c.tim.firstStep
    let c := { c with tim.firstStep := true }
    let c := if c.unqualified && first then { c with tim.stepDue := some offset } else c.servo port offset
    c.lockTest port offset

/-- SYNC_RECEIVED (R29, R30): no offset is measured while no lane runs. -/
def execSyncReceived (port : Nat) (offset : Int) (s : State) : Host.Outcome State Fault Refusal :=
  s.on fun c =>
    if !c.bit TIM_CTRL.PTP_EN || 2 ≤ port then c
    else
      let c := ((c.jrnTime 0 offset).setPort port { c.port port with link := true }).movePort port
      let c := if port = c.fld TIM_STATUS.ACTIVE_PORT ∧ c.laneRuns then c.offset port offset else c
      c.setPort port { c.port port with lastSync := c.tim.clock }

/-- ANNOUNCE_RECEIVED (R29). Messages of other domains are discarded (R28). -/
def execAnnounceReceived (port : Nat) (ann : Announce) (s : State) : Host.Outcome State Fault Refusal :=
  s.on fun c =>
    if !c.bit TIM_CTRL.PTP_EN || 2 ≤ port || ann.domain ≠ c.fld TIM_CTRL.DOMAIN then c
    else
      let c := (c.jrnTime 5 port).setPort port { c.port port with link := true, ann := some ann }
      let c := if port = c.fld TIM_STATUS.ACTIVE_PORT
        then (c.follow ann.gm).setFld TIM_UTC_OFFSET.UTC_OFFSET ann.utcOffset.toNat else c
      c.choosePort 1

/-- The active grandmaster counts as timed out on both ports (R32): neither heard its last Announce from it. -/
def Card.grandmasterSilent (c : Card) : Bool :=
  [0, 1].all fun p => match (c.port p).ann, c.tim.gm with
    | some a, some g => decide (a.gm ≠ g)
    | _, _ => true

/-- ANNOUNCE_TIMEOUT (R32): the port announces nothing; silence on both ports loses the grandmaster. -/
def execAnnounceTimeout (port : Nat) (s : State) : Host.Outcome State Fault Refusal :=
  s.on fun c => if 2 ≤ port then c else
    let c := (c.setPort port { c.port port with ann := none }).choosePort 1
    if c.grandmasterSilent then c.loseGrandmaster 0 else c

/-- PORT_LINK_LOSS (R29): the other port is chosen; the loss of the grandmaster waits for its Announce timeout (R32). -/
def execPortLinkLoss (port : Nat) (s : State) : Host.Outcome State Fault Refusal :=
  s.on fun c => if 2 ≤ port then c else
    ((c.jrnTime 4 port).setPort port { c.port port with link := false }).choosePort 0

/-- HOLDOVER_LIMIT_EXPIRY (R32). -/
def execHoldoverLimitExpiry (s : State) : Host.Outcome State Fault Refusal :=
  s.on fun c => if c.fld TIM_STATUS.TIME_STATE = 2
    then c.loseTime (c.fld TIM_HOLDOVER_CFG.HOLDOVER_LIMIT) else c

/-- DELAY_REQ_EGRESS (R34): the stamp enters the queue; a full queue drops it, a present key is replaced. -/
def execDelayReqEgress (port seqId : Nat) (s : State) : Host.Outcome State Fault Refusal :=
  s.on fun c =>
    let lose (c : Card) : Card :=
      let first := !c.bit TIM_STATUS.TSQ_OVF
      let c := (c.count TIM_TSQ_STAT.LOST).stick TIM_STATUS.TSQ_OVF
      if first then c.record 0x1011 [pN seqId, pN port] else c
    let q := c.tim.tsq
    if q.any fun x => x.1 = seqId ∧ x.2.1 = port then
      let q' := (q.filter fun x => ¬(x.1 = seqId ∧ x.2.1 = port)) ++ [(seqId, port, c.pm)]
      lose { c with tim.tsq := q' }
    else if 32 ≤ q.length then lose c
    else { c with tim.tsq := q ++ [(seqId, port, c.pm)] }

/-- DELAY_RESP_RECEIVED (R34): with its stamp queued, a delay measurement; without, none. -/
def execDelayRespReceived (port seqId : Nat) (delay : Int) (s : State) : Host.Outcome State Fault Refusal :=
  s.on fun c =>
    if c.tim.tsq.any fun x => x.1 = seqId ∧ x.2.1 = port then
      let c := { c with tim.tsq := c.tim.tsq.filter fun x => ¬(x.1 = seqId ∧ x.2.1 = port) }
      (c.jrnTime 1 delay).setPort port { c.port port with delay := delay }
    else c

/-! ### The chassis frame pulse (R39 to R43) -/

/-- The frames from the present one to the frame in which a pending trigger is due. -/
def Card.framesUntil (c : Card) (t : Trig) : Nat :=
  match t.kind with
  | 0 => 0
  | 1 => framesSince (whenFrame t.at') c.frame
  | _ => (t.at' - c.tim.framePm) / 1000000

/-- The frame `ahead` frames from now lies in the guard interval of R43: a converter opcode's trigger is due within GUARD
frames of it. -/
def Card.guarded (c : Card) (ahead : Nat) : Bool :=
  c.flights.any fun x => decide (x.2.opcode / 16 = 6) &&
    match x.2.trig with
    | some t => decide (ahead ≤ c.framesUntil t ∧ c.framesUntil t ≤ c.fld TIM_PULSE_CFG.GUARD + ahead)
    | none => false

/-- A valid pulse: ERR, the run of valid pulses, VALID from FLYWHEEL or after RECOVER of them from LOST (R39, R40),
and the phase correction of R43. -/
def Card.validPulse (c : Card) (delta : Int) : Card :=
  let c := c.setSfld TIM_PULSE_STAT.ERR (clampInt (-32767) 32767 delta)
  let run := c.tim.validRun + 1
  let c := { c with tim.validRun := run, tim.missRun := 0, tim.gotCur := c.tim.gotCur || decide (0 ≤ delta),
                    tim.gotNext := c.tim.gotNext || decide (delta < 0) }
  let c :=
    if c.fld TIM_STATUS.PULSE_STATE = 3 then
      if c.fld TIM_PULSE_CFG.RECOVER ≤ run
      then (c.setFld TIM_STATUS.PULSE_STATE 1).record 0x1021 [p32 (c.sfld TIM_PULSE_STAT.ERR)] else c
    else c.setFld TIM_STATUS.PULSE_STATE 1
  if c.fld TIM_STATUS.TIME_STATE ≠ 1 ∧ c.bit TIM_CTRL.PULSE_DISCIPLINE ∧ !c.guarded (if 0 ≤ delta then 0 else 1) then
    let slew : Int := c.fld TIM_FRAME_CFG.FRAME_SLEW
    let k := clampInt (-slew) slew delta
    if 0 ≤ delta then { c with tim.corr := k } else { c with tim.corrNext := k }
  else c

/-- A spurious edge: counted, and recorded for the first in any 256 frames (R39). -/
def Card.spuriousPulse (c : Card) (delta : Int) : Card :=
  let c := c.count TIM_PULSE_STAT.SPURIOUS
  let old := match c.tim.spurSince with
    | none => true
    | some t => decide (t + 256000000 ≤ c.tim.clock)
  if old then { c with tim.spurSince := some c.tim.clock }.record 0x1022 [p32 delta] else c

/-- FRAME_PULSE_EDGE: `delta` ns from the nearest frame boundary, negative before it (R39). -/
def execFramePulseEdge (delta : Int) (s : State) : Host.Outcome State Fault Refusal :=
  s.on fun c =>
    let c := c.jrnTime 2 delta
    let inWindow := decide (delta.natAbs ≤ c.fld TIM_PULSE_CFG.WINDOW)
    let got := if 0 ≤ delta then c.tim.gotCur else c.tim.gotNext
    if inWindow && !got then c.validPulse delta else c.spuriousPulse delta

/-- The pulse window of the frame's boundary has closed: without a valid pulse the tick flywheels (R40). -/
def Card.pulseWindow (c : Card) : Card :=
  if c.tim.gotCur then c
  else
    let c := { c with tim.missRun := c.tim.missRun + 1, tim.validRun := 0 }.count TIM_PULSE_STAT.MISSED
    if c.fld TIM_STATUS.PULSE_STATE = 3 then c else c.setFld TIM_STATUS.PULSE_STATE 2

/-- PULSE_LOST (R40): MISS_LIMIT frames in a row without a valid pulse. -/
def execPulseLost (s : State) : Host.Outcome State Fault Refusal :=
  s.on fun c =>
    if c.fld TIM_STATUS.PULSE_STATE ≠ 3 ∧ c.fld TIM_PULSE_CFG.MISS_LIMIT ≤ c.tim.missRun then
      (c.setFld TIM_STATUS.PULSE_STATE 3).record 0x1020 [p32 (c.sfld TIM_PULSE_STAT.ERR)]
    else c

/-! ### TIM register commands -/

/-- TIM_NOW_SNAPSHOT (R5): the low word answers the read, the high word stays in the holding register. -/
def execTimNowSnapshot (s : State) : Host.Outcome State Fault Refusal :=
  s.on fun c => ((c.jrnFree 0x06).setFld TIM_NOW_LO.NOW c.pm).setFld TIM_NOW_HI.NOW (c.pm / 2 ^ 32)

/-- TIM_FRAME_PM_SNAPSHOT (R53): frame postmark and frame number in one cycle. -/
def execTimFramePmSnapshot (s : State) : Host.Outcome State Fault Refusal :=
  s.on fun c => (((c.jrnFree 0x06).setFld TIM_FRAME_PM_LO.FRAME_PM c.tim.framePm).setFld TIM_FRAME_PM_HI.FRAME_PM
    (c.tim.framePm / 2 ^ 32)).setFld TIM_FRAME_NUM.FRAME_NUM c.frame.toNat

end Sys2Proof.Machine
end

