-- ==== Sys2Proof/Machine/SatUpd.lean ====
section
/-! DEFINITION. Satellite firmware: LAN_SAT_UPDATE and its steps (chapter 13, R354, R355). A step's requests go out at a slot
3 boundary; the responses move the step on (Machine/Answer.lean). -/

namespace Sys2Proof.Machine

/-! ### The part and the update's record -/

/-- The satellite part of a bank, padded to whole parcels. -/
def Card.satPart (c : Card) (k : Nat) : List Byte :=
  padTo 4096 (if (c.bank k).delivered then Config.satPartAtDelivery else (c.bank k).part 2)

/-- A bank's package has a satellite part. -/
def Card.hasSatPart (c : Card) (k : Nat) : Bool := ((c.bank k).cls 8).testBit 2

/-- The update of a string. -/
def Card.satUpd (c : Card) (s : Nat) : Option SatUpd := c.lan.satUpd.get (fun _ => none) s

/-- Writes the update of a string. -/
def Card.setSatUpd (c : Card) (s : Nat) (u : Option SatUpd) : Card :=
  { c with lan.satUpd := c.lan.satUpd.set (fun _ => none) s u }

/-- A place has a request of the update outstanding or queued. -/
def Card.updPending (c : Card) (s p : Nat) : Bool :=
  (match (c.sat s p).out with | some r => r.owner == .update | none => false)
    || (c.sat s p).queue.any (·.owner == .update)

/-- The update of a string ends with a status, reason and RESULT. -/
def Card.endUpdate (c : Card) (s : Nat) (u : SatUpd) (status reason : Nat) (result : Word := 0) : Card :=
  (c.setSatUpd s none).complete u.op status reason result

/-- The update goes to its next place, or ends. -/
def Card.nextPlace (c : Card) (s : Nat) (u : SatUpd) (skipped : Bool) : Card :=
  let n := u.skipped + (if skipped then 1 else 0)
  let rest := u.places.drop 1
  if rest = [] then c.endUpdate s u 0 (if n = 0 then 0 else 0xB011) (pN n)
  else c.setSatUpd s (some { u with places := rest, step := 0, piece := 0, skipped := n, waiting := false })

/-- A satellite that measures again after an update or a skip: IN_SERVICE, or DISCOVERED where it was found so. -/
def Card.releaseSat (c : Card) (s p : Nat) (u : SatUpd) : Card := c.setSatState s p (if u.found then 1 else 2)

/-! ### The requests of a step (R354) -/

/-- A CFG_WR of the update. -/
def Card.updWrite (c : Card) (s p addr : Nat) (bs : List Byte) : Card := c.request s p 0x05 (be 2 addr ++ bs) .update

/-- A CFG_RD of the update. -/
def Card.updRead (c : Card) (s p addr n : Nat) : Card := c.request s p 0x06 (be 2 addr ++ be 1 n) .update

/-- The PARCEL packet of a piece. -/
def Card.updPiece (c : Card) (s p : Nat) (u : SatUpd) (i : Nat) : Card :=
  let id := c.fld (idFld u.bank)
  c.request s p 0x0A (be 4 id ++ be 2 (i / 4) ++ be 1 (i % 4) ++ be 1 0 ++ slice (c.satPart u.bank) (1024 * i) 1024) .update

/-- The pieces of a part. -/
def Card.updPieces (c : Card) (u : SatUpd) : Nat := (c.satPart u.bank).length / 1024

/-- Sends what the update of a string does next in this frame, at its slot 3 boundary. A chain under reset pauses it; after
the census it resumes at the parcel after UPD_RECEIVED. -/
def Card.serveUpdate (c : Card) (s : Nat) : Card :=
  match c.satUpd s with
  | none => c
  | some u =>
    let p := u.places.headD 0
    if c.bit (CHN_STATUS.RESETTING s) || !c.bit (CHN_CTRL.EN s) || c.updPending s p then c
    else
      let u := if u.waiting && u.step == 3 then { u with step := 9 } else u
      let put (c : Card) : Card := c.setSatUpd s (some { u with waiting := true })
      match u.step with
      | 0 => put (c.updRead s p 0x20 4)
      | 1 =>
        let c := (c.commit u.op).setSatState s p 5
        let n := (c.satPart u.bank).length / 4096
        let c := (c.updWrite s p 0x24 (be 4 (c.fld (idFld u.bank)))).updWrite s p 0x28 (be 2 n)
        let c := (c.updWrite s p 0x2C (sha256 (c.satPart u.bank))).updWrite s p 0x4C [1]
        c.setSatUpd s (some { u with waiting := true, begun := true })
      | 2 => put (c.updRead s p 0x4D 1)
      | 3 =>
        let n := min (c.fld LAN_CFG.SAT_PIECES) (c.updPieces u - u.piece)
        put (c.each (List.range n) fun c i => c.updPiece s p u (u.piece + i))
      | 4 => put (c.updWrite s p 0x4C [2])
      | 5 => put (c.updRead s p 0x4D 1)
      | 6 => put (c.updWrite s p 0x4C [3])
      | 8 =>
        let n := framesSince c.frame u.waitFrame
        if n = 0 ∨ (n < 3 ∧ !(c.sat s p).accepted) then c
        else if u.found then (c.identify s p (c.sat s p).addr false).nextPlace s u false
        else put ((c.request s p 0x04 [] .update).updRead s p 0x20 4)
      | 9 => put (c.updRead s p 0x2A 2)
      | _ => c

/-- A satellite's answer to a request of the update: `typ` of the request, and the payload after the status byte. -/
def Card.updAnswer (c : Card) (s p typ : Nat) (pl : List Byte) : Card :=
  match c.satUpd s with
  | none => c
  | some u =>
    let v := beAt pl 0 pl.length
    let id := c.fld (idFld u.bank)
    let idle := !c.updPending s p
    let go (step : Nat) : Card := c.setSatUpd s (some { u with step := step, waiting := !idle })
    if u.places.headD 0 ≠ p then c
    else match u.step with
      | 0 => if v = id then c.nextPlace s u true else go 1
      | 1 => if idle then go 2 else c
      | 2 => go (if v = 2 then 3 else 2)
      | 3 =>
        let n := u.piece + 1
        c.setSatUpd s (some { u with piece := n, waiting := !idle, step := if c.updPieces u ≤ n then 4 else 3 })
      | 4 => go 5
      | 5 =>
        if v = 4 then go 6
        else if v = 5 then ((c.releaseSat s p u).record 0xB051 [pN s, pN p, 1]).nextPlace s u true
        else go 5
      | 6 => go 7
      | 7 =>
        if typ = 0x0D then
          (c.modSat s p fun x => { x with order := none }).setSatUpd s
            (some { u with step := 8, waitFrame := c.frame, waiting := false })
        else c
      | 8 =>
        if typ = 0x04 then c.identified s p pl
        else if v = id then
          let c := (c.setSatState s p 2).modSat s p fun x => { x with planDue := true }
          (c.record 0xB050 [pN s, pN p, pN id]).nextPlace s u false
        else ((c.setSatState s p 2).record 0xB051 [pN s, pN p, 2]).nextPlace s u true
      | 9 => c.setSatUpd s (some { u with step := 3, piece := 4 * v, waiting := false })
      | _ => c

/-- A request of the update is refused by the satellite or brings no answer: the operation ends, and the satellite measures
on. -/
def Card.updFails (c : Card) (s p status reason : Nat) : Card :=
  match c.satUpd s with
  | none => c
  | some u =>
    let c := if c.satState s p = 5 then c.releaseSat s p u else c
    let c := c.modSat s p fun x => { x with queue := x.queue.filter fun r => r.owner != .update }
    c.endUpdate s u status reason

/-- SAT_RESET (R354, step 4): in slot 6, with every other satellite of the string IN_SERVICE and not stale. -/
def execSatReset (string : Nat) (s : State) : Host.Outcome State Fault Refusal :=
  s.on fun c =>
    match c.satUpd string with
    | none => c
    | some u =>
      let p := u.places.headD 0
      let others := places.filter fun q => decide (q ≠ p) && decide (q ≤ c.satCount string)
      let ready := others.all fun q => c.inService string q && !c.bit (CHN_SAT_STATE.STALE string q)
      if string = 0 ∨ 4 < string ∨ u.step ≠ 7 ∨ c.tim.slot ≠ 6 ∨ !ready ∨ c.updPending string p
          ∨ c.bit (CHN_STATUS.RESETTING string) then c
      else (c.request string p 0x0D [0] .update).pumpRequests string

/-! ### LAN_SAT_UPDATE (R355) -/

/-- The bank that a LAN_SAT_UPDATE names. -/
def Card.satBank (c : Card) (d : Desc) : Nat := if d.byte 2 = 0 then c.activeBank else c.standbyBank

/-- The places that a LAN_SAT_UPDATE covers. -/
def Card.updPlaces (c : Card) (d : Desc) : List Nat :=
  let s := d.byte 0
  let p := d.byte 1
  if p = 0 then places.filter fun q => decide (q ≤ c.satCount s) && c.inService s q
  else if c.inService s p || (c.satState s p == 1 && !c.compatOk (c.sat s p).compat) then [p]
  else []

/-- LAN_SAT_UPDATE (0xB7). -/
def rowLanSatUpdate : Row where
  opcode := 0xB7
  role := 2
  args c d := lanArgs (d.only [(0, 3)] && stringOk d && decide (d.byte 1 ≤ 32) && decide (d.byte 2 ≤ 1) && c.hasSatPart (c.satBank d))
  checks c d :=
    let s := d.byte 0
    if d.byte 2 = 1 ∧ c.imgState c.standbyBank ≠ 2 then some (3, 0xB009, 0)
    else if !c.compatOk ((c.bank (c.satBank d)).cls 5) then some (3, 0xB00A, 0)
    else if c.fld EST_MODEL_CFG.STALE_OPEN < 2 ∧ c.mainClosed s then some (3, 0xB012, 0)
    else if (c.satUpd s).isSome then some (3, 0xB006, 0)
    else if d.byte 1 ≠ 0 ∧ c.updPlaces d = [] then some (3, 0x2002, 0)
    else none
  start slot c :=
    let d := c.descOf slot
    match c.updPlaces d with
    | [] => (c.commit slot).done slot
    | ps => c.setSatUpd (d.byte 0) (some {
        op := slot, bank := c.satBank d, places := ps
        found := decide (d.byte 1 ≠ 0) && decide (c.satState (d.byte 0) (d.byte 1) = 1) })

/-- LAN_SAT_UPDATE. -/
def execLanSatUpdate (d : Desc) (s : State) : Host.Outcome State Fault Refusal := s.on fun c => c.accept rowLanSatUpdate d

/-- An update that is withdrawn before step 1 of its first satellite leaves no trace. -/
def Card.withdrawUpdate (c : Card) (slot : Nat) : Card :=
  c.each strings fun c s =>
    match c.satUpd s with
    | some u => if u.op = slot then
        (c.setSatUpd s none).modSat s (u.places.headD 0) fun x => { x with queue := x.queue.filter fun r => r.owner != .update }
      else c
    | none => c

end Sys2Proof.Machine
end

