-- ==== Sys2Proof/Machine/Answer.lean ====
section
/-! DEFINITION. The satellites' responses, the requests that bring none, and the loss of a satellite (chapter 4, R85 to R91,
R94, R96, R98, R99). -/

namespace Sys2Proof.Machine

/-! ### Responses (R87, R88) -/

/-- The response types: bit 7 with the type of a request that brings a response packet. -/
def responseType (t : Nat) : Bool := [0x82, 0x83, 0x84, 0x85, 0x86, 0x87, 0x88, 0x89, 0x8A, 0x8C, 0x8D].contains t

/-- The place whose outstanding request a response answers: its source address, TYPE and SEQ match (R87, R90). -/
def Card.answering (c : Card) (s t src seq : Nat) : Option (Nat × Req) :=
  places.findSome? fun p =>
    match (c.sat s p).out with
    | some r =>
      if r.typ + 0x80 = t ∧ r.seq.toNat = seq ∧ (src = p ∨ src = (c.sat s p).addr) then some (p, r) else none
    | none => none

/-- An executed BAL_CMD replaces the satellite's order (R98); position 0 or mode 0 ends it. -/
def Card.takeOrder (c : Card) (s p : Nat) (pl : List Byte) : Card :=
  let pos := beAt pl 0 1
  let mode := beAt pl 1 1
  let o : Option BalOrder :=
    if pos = 0 ∨ mode = 0 then none
    else some { pos := pos, mode := mode, current := beAt pl 2 2, frames := beAt pl 4 2, since := c.frame }
  c.modSat s p fun x => { x with order := o }

/-- The string current at the frame's first sample and at the latest one, in 10 mA. -/
def Card.currentSpan (c : Card) (s : Nat) : Int × Int :=
  let h := ((c.eng s).hist.filter fun x => decide (c.tim.framePm ≤ x.1)).map (·.2)
  (h.headD 0, h.getLastD 0)

/-- The verdict of a balancing-switch test, as its reason (R99): `ask` is the requested current in mA. -/
def Card.balVerdict (c : Card) (s ask : Nat) (test base dv : Int) : Nat :=
  let i := c.currentSpan s
  if 20 < base.natAbs then 0x2011
  else if 500 < (i.1 - i.2).natAbs then 0x2012
  else if 10 * test.natAbs < ask ∨ dv.natAbs < 10 then 0x2010
  else 0

/-- A host operation's request is answered OK or CLIPPED. -/
def Card.hostAnswer (c : Card) (s p slot status : Nat) (r : Req) (pl : List Byte) : Card :=
  match c.op slot with
  | none => c
  | some o =>
    match o.opcode with
    | 0x21 => (c.takeOrder s p r.payload).complete slot status 0
    | 0x22 =>
      let test := signed 16 (beAt pl 1 2)
      let base := signed 16 (beAt pl 3 2)
      let dv := signed 18 (beAt pl 5 3)
      let v := c.balVerdict s (o.desc.at 4 2) test base dv
      let c := if v = 0 then c else c.record 0x2009 [pN (o.desc.at 2 2), pN v, p32 test, pN (code 18 dv)]
      c.complete slot 0 v
    | 0x23 => c.doneWith slot (o.desc.at 8 8) (pl.take (o.desc.byte 4))
    | _ => c.complete slot status 0

/-- A request is refused by its satellite: event 0x200B, and what asked for it ends (R88). -/
def Card.refusedReq (c : Card) (s p status : Nat) (r : Req) : Card :=
  let c := c.record 0x200B [pN s, pN p, pN r.typ, pN status]
  match r.owner with
  | .host slot => c.complete slot 3 0x2004
  | .ident => (c.setSatState s p 1).modSat s p fun x => { x with admitting := false }
  | .assign | .confirm =>
    let op := (c.sat s p).admitOp
    let c := (c.setSatState s p 1).modSat s p fun x => { x with admitting := false, admitOp := none }
    match op with
    | some slot => c.complete slot 3 0x2004
    | none => c
  | .update => c.updFails s p 3 0x2004
  | _ => c

/-- The plan identifiers of a CFG_RD answer, four bytes each. -/
def planIds (pl : List Byte) : List Nat := (List.range (pl.length / 4)).map fun i => beAt pl (4 * i) 4

/-- A request is answered OK or CLIPPED. -/
def Card.goodAnswer (c : Card) (s p status : Nat) (r : Req) (pl : List Byte) : Card :=
  match r.owner with
  | .host slot => c.hostAnswer s p slot status r pl
  | .ident => (c.identified s p pl).decideAdmission s p
  | .assign => (c.modSat s p fun x => { x with addr := p }).request s p 0x04 [] .confirm
  | .confirm => (c.identified s p pl).admitted s p
  | .plan => c
  | .planRead => c.planAnswer s p (planIds pl)
  | .balance => c.takeOrder s p r.payload
  | .update => c.updAnswer s p r.typ pl

/-- The entries of a TEMP_POLL answer: channel, BROKEN, code. A temperature end code sets TSAT (R61). -/
def Card.pollAnswer (c : Card) (s p : Nat) (pl : List Byte) : Card :=
  c.each (List.range (pl.length / 3)) fun c i =>
    let w := beAt pl (3 * i) 3
    let v := signed 18 w
    let c := if v = 131071 ∨ v = -131072 then c.stick (CHN_STICKY.TSAT s) else c
    c.tempRead (cellChan s p (w / 2 ^ 21)) v (w / 2 ^ 20 % 2 == 1)

/-- SAT_RESPONSE (R87 to R90): the packet from its TYPE byte to its CRC. In slots that carry requests, the satellite's next one
follows at once (R76). -/
def execSatResponse (chain port : Nat) (bytes : List (BitVec 8)) (s : State) : Host.Outcome State Fault Refusal :=
  s.on fun c =>
    if chain = 0 ∨ 4 < chain ∨ 1 < port ∨ !c.bit (CHN_CTRL.EN chain) then c
    else match crcBody bytes with
      | none => (c.count (CHN_ERR_CNT.CRC chain)).stick (CHN_STICKY.CRC_ERR chain)
      | some b =>
        let t := beAt b 0 1
        let src := beAt b 2 1
        let n := beAt b 4 2
        let pl := b.drop 7
        let status := min (beAt b 6 1) 5
        if !responseType t then c.stick (CHN_STICKY.UNKNOWN_TYPE chain)
        else if beAt b 1 1 ≠ 0xFF ∨ b.length ≠ 6 + n ∨ n = 0 then c
        else if t = 0x87 then
          if src = 0 ∨ 32 < src ∨ 1 < status then c else (c.jrnPacket chain bytes).pollAnswer chain src pl
        else match c.answering chain t src (beAt b 3 1) with
          | none => c
          | some (p, r) =>
            let c := (c.jrnPacket chain bytes).modSat chain p fun x => { x with out := none }
            let c := if status ≤ 1 then c.goodAnswer chain p status r pl else c.refusedReq chain p status r
            if 3 ≤ c.tim.slot then c.pumpRequests chain else c

/-! ### No response (R91) -/

/-- The last resend brought no answer: what asked for the request ends. -/
def Card.unanswered (c : Card) (s p : Nat) (r : Req) : Card :=
  match r.owner with
  | .host slot => c.complete slot 0x0C 0x2007
  | .ident => c.modSat s p fun x => { x with admitting := false }
  | .assign | .confirm => c.admissionFailed s p
  | .update => c.updFails s p 0x0C 0x2007
  | .plan | .planRead | .balance => c

/-- SAT_RSP_TIMEOUT (R91): a resend with the same SEQ, through the other port while the ring is whole; after the last one
the request has failed. -/
def execSatRspTimeout (chain place : Nat) (s : State) : Host.Outcome State Fault Refusal :=
  s.on fun c =>
    let x := c.sat chain place
    if chain = 0 ∨ 4 < chain ∨ place = 0 ∨ 32 < place then c
    else match x.out with
      | none => c
      | some r =>
        if framesSince c.frame r.sentAt < c.fld (CHN_TIMING.RSP_TIMEOUT chain) then c
        else if r.resends < c.fld (CHN_TIMING.RETRY chain) then
          let port := if c.fld (CHN_STATUS.RING_STATE chain) = 1 then 1 - r.port else c.portOf chain place
          c.setSat chain place { x with out := some { r with resends := r.resends + 1, port := port, sentAt := c.frame } }
        else (c.setSat chain place { x with out := none }).unanswered chain place r

/-! ### Loss (R96) -/

/-- An operation in flight addresses a satellite. -/
def Op.addresses (o : Op) (s p : Nat) : Bool :=
  decide (o.desc.byte 0 = s) && !o.produced
    && ((([0x21, 0x22].contains o.opcode) && decide (placeOfCell (o.desc.at 2 2) = p))
      || (([0x20, 0x23, 0x24].contains o.opcode) && decide (o.desc.byte 1 = p)))

/-- SATELLITE_LOST (R96): SILENT_LIMIT frames without an accepted segment. -/
def execSatelliteLost (chain place : Nat) (s : State) : Host.Outcome State Fault Refusal :=
  s.on fun c =>
    let x := c.sat chain place
    let st := c.satState chain place
    if chain = 0 ∨ 4 < chain ∨ place = 0 ∨ 32 < place ∨ (st ≠ 2 ∧ st ≠ 5)
        ∨ x.silent < c.fld (CHN_TIMING.SILENT_LIMIT chain) then c
    else
      let reason := 0x2100 + placeKey chain place
      let c := (c.setSatState chain place 3).recordStr chain 0x2005 [pN chain, pN place, x.lastFrame]
      let c := c.modSat chain place fun x => { x with out := none, queue := [], admitting := false, admitOp := none }
      let c := c.each c.running fun c y => if y.2.addresses chain place then c.complete y.1 0x0B reason else c
      match c.satUpd chain with
      | some u => if u.places.headD 0 = place then c.endUpdate chain u 0x0B reason else c
      | none => c

end Sys2Proof.Machine
end

