-- ==== Sys2Proof/Machine/Power.lean ====
section
/-! DEFINITION. Card power and slot: feeds and hold-up, cold and warm reset, insertion, drain and removal (chapter 17, R435 to
R453, R459; R3, R4, R324). -/

namespace Sys2Proof.Machine

/-! ### What the resets keep (R3, R4) -/

/-- The bits of a register that a warm reset keeps: the fields marked (kept), and the live readings of the feeds, the slot, and
the fabric's loop receivers, which the reset does not touch. -/
def warmMask (off : Nat) : Nat :=
  let kept := match classOf off with
    | some r => r.kept
    | none => 0
  if off = SYS_FEED_STAT then 2 ^ 32 - 1
  else if off = SYS_SLOT then kept ||| 0xFFF
  else if off = CHN_LOOP 1 ∨ off = CHN_LOOP 2 ∨ off = CHN_LOOP 3 ∨ off = CHN_LOOP 4 then 0xFF
  else kept

/-- The bits of a register that MRAM, flash and fuses hold over a cold reset. -/
def coldMask (off : Nat) : Nat :=
  if off = SYS_STICKY then SYS_STICKY.FORCED.mask
  else if off = SYS_CNT then SYS_CNT.FORCED.mask
  else if off = TIL_STATUS then TIL_STATUS.SPARES_FREE.mask
  else if 0x3100 ≤ off ∧ off < 0x3500 then 0x1FF
  else if 0x3500 ≤ off ∧ off < 0x3524 then 2 ^ 32 - 1
  else if off = SAF_DRV_FAULT then SAF_DRV_FAULT.FAULT.mask
  else if off = SAF_LOCK_CAUSE 1 ∨ off = SAF_LOCK_CAUSE 2 ∨ off = SAF_LOCK_CAUSE 3 ∨ off = SAF_LOCK_CAUSE 4 then 0x7FF
  else if off = LAN_BANK_STAT ∨ off = LAN_STAGE_PROG ∨ off = LAN_IMG_ID_A ∨ off = LAN_IMG_ID_B then 2 ^ 32 - 1
  else if off = LAN_CLASS1 then 0x0F000000
  else if off = REC_STATUS then REC_STATUS.REPLAY_NEXT.mask ||| REC_STATUS.RETIRED.mask
  else if off = REC_MIRROR_STAT then REC_MIRROR_STAT.FILL.mask
  else if off = EST_COMMIT_STAT ∨ (0x5010 ≤ off ∧ off < 0x5020) ∨ (0x5100 ≤ off ∧ off < 0x5200) then 2 ^ 32 - 1
  else if 0xC100 ≤ off ∧ off < 0xC120 then 2 ^ 32 - 1
  else if 0xF010 ≤ off ∧ off < 0xF034 then 2 ^ 32 - 1
  else 0

/-- The registers after a reset that keeps the bits of `keep`. -/
def resetRegs (keep : Nat → Nat) (m : Store Word) : Store Word :=
  m.foldl (fun (n : Store Word) x =>
    let k := BitVec.ofNat 32 (keep x.1)
    n.set coldWord x.1 ((x.2 &&& k) ||| (coldWord x.1 &&& ~~~k))) []

/-! ### Lanes at the start (R344, R352, R443, R459) -/

/-- The lanes boot the active bank: in split mode the cores of both, in recovery none. -/
def Card.startLanes (c : Card) : Card :=
  let k := c.activeBank
  let split := c.bit LAN_BANK_STAT.SPLIT_NEXT
  let c := { c with lan.split := split, lan.lanes := [], lan.cores := [] }
  if c.lan.recovery then (c.setLaneState 0 0).setLaneState 1 0
  else
    let c := c.each [0, 1] fun c l => (c.setLaneState l 1).modLane l fun _ => { bank := k }
    if split then c.each [0, 1] fun c l => c.each [0, 1, 2] fun c i => c.setFld (coreFld l i) 3 else c

/-- A lane has booted and become primary; in split mode both serve. -/
def Card.lanesUp (c : Card) (l : Nat) : Card :=
  if c.lan.recovery then c
  else if c.lan.split then (c.setLaneState 0 7).setLaneState 1 7
  else (c.setFld LAN_STATUS.PRIMARY l).setLaneState l 4

/-- The lanes have booted at the first frame boundary after a cold reset: lane A becomes primary, and the configuration copies
are compared (R443 step 5). -/
def Card.coldBoot (c : Card) : Card :=
  if !c.sys.booting then c
  else
    let c := { c with sys.booting := false }
    if c.lan.recovery then c else (c.lanesUp 0).compareCopies

/-! ### Cold reset (R3, R272, R368, R387, R443, R444, R450) -/

/-- The slot identity latched from the pins, SLOT_ID9:0 with SLOT_PAR above (R444). -/
def Card.latchSlot (c : Card) (pins : BitVec 11) : Card :=
  let id := pins.toNat % 1024
  let ones := ((List.range 11).filter fun i => pins.getLsbD i).length
  if ones % 2 = 0 ∧ id ≠ 1023 then (c.setFld SYS_SLOT.MODULE id).setFld SYS_SLOT.ID_VALID 1
  else
    let c := ((c.setFld SYS_SLOT.MODULE 1023).setFld SYS_SLOT.ID_VALID 0).stick SYS_STICKY.ID_BAD
    c.record 0x0015 [pN pins.toNat]

/-- The newest SEQ of the mirror, or 0. -/
def Card.newestMirror (c : Card) : Nat :=
  (c.rcd.mirror.filterMap fun x => x.2.map (·.seq)).foldl (fun (a b : Nat) =>
    if a = 0 ∨ after (BitVec.ofNat 32 b) (BitVec.ofNat 32 a) then b else a) 0

/-- The card with only what MRAM, flash and the world outside keep. -/
def Card.keptCold (c : Card) : Card := {
  regs := resetRegs coldMask c.regs
  sys := { lostFeeds := c.sys.lostFeeds, lossPm := c.sys.lossPm, lossFrame := c.sys.lossFrame, lossForced := c.sys.lossForced }
  hst := { mem := c.hst.mem }
  rcd := { mirror := c.rcd.mirror, ceiling := c.rcd.ceiling, boot := c.rcd.boot + 1, flags := 4 }
  sec := { keys := c.sec.keys.map fun x => (x.1, { x.2 with blockEnd := x.2.blockEnd - c.tim.clock }) }
  lan := { banks := c.lan.banks, copies := c.lan.copies }
  chn := { map := c.chn.map }
  est := { copies := c.est.copies }
  imp := { copies := c.imp.copies }
  saf := { strs := strings.foldl (fun (m : Store SafStr) s =>
    m.set (fun _ => {}) s { weldRec := (c.safStr s).weldRec }) [] }
  dsp := { copyA := c.dsp.copyA, copyB := c.dsp.copyB, seq := c.dsp.seq, ring := c.dsp.ring }
  free := c.free }

/-- Shows the feeds in SYS_FEED_STAT. -/
def Card.showFeeds (c : Card) : Card :=
  let up (k : Nat) : Bool := !c.sys.lostFeeds.contains k
  (c.setBit SYS_FEED_STAT.A_OK (up 0)).setBit SYS_FEED_STAT.B_OK (up 1)

/-- A cold reset is released: `failed` are the physical tiles that fail self-test. -/
def Card.powerUp (c : Card) (pins : BitVec 11) (failed : List Nat) : Card :=
  let c := c.keptCold.showFeeds
  let c := if c.sys.lostFeeds.contains 0 then c.setFld SYS_FEED_STAT.ACTIVE 1 else c
  let c := c.setReg REC_SEQ_NEXT (BitVec.ofNat 32 c.rcd.ceiling)
  let c := c.record 0xC001 [pN c.rcd.ceiling, pN c.newestMirror, pN c.rcd.boot, pN (c.fld REC_STATUS.RETIRED)]
  let c := c.bootCheck.startLanes
  let c := c.each strings fun c s => if c.fld (SAF_LOCK_CAUSE.CAUSE s) = 0 then c else c.setFld (SAF_STR_STATE.STATE s) 6
  let c := c.loadAccounts.countSpares
  let c := c.each failed fun c ph => if 272 ≤ ph ∨ c.retired ph then c else c.retire ph 5
  let c := c.latchSlot pins
  let c := if c.sys.lossForced then
      let c := (c.stick SYS_STICKY.FORCED).count SYS_CNT.FORCED
      c.record 0x0014 (pLoHi c.sys.lossPm ++ [c.sys.lossFrame])
    else c
  let c := { c with sys.lossForced := false }
  c.record 0x0010 [pN (c.fld SYS_SLOT.MODULE), pN (c.fld SYS_REV.HW_ISSUE), pN (c.fld SYS_SLOT.ID_VALID)]

/-- A change that also reaches a card without power. -/
def State.always (s : State) (f : Card → Card) : Host.Outcome State Fault Refusal :=
  .next { s with card := settle s.card (f s.card) }

/-- COLD_RESET (R3): power is applied to a card that had none. -/
def execColdReset (pins : BitVec 11) (failed : List Nat) (s : State) : Host.Outcome State Fault Refusal :=
  s.always fun c => c.powerUp pins failed

/-- CARD_SEATED (R442): an unpowered card starts once a feed is in range. -/
def execCardSeated (pins : BitVec 11) (failed : List Nat) (s : State) : Host.Outcome State Fault Refusal :=
  s.always fun c =>
    if c.sys.powered then { c with sys.seated := true }
    else if c.sys.lostFeeds.contains 0 && c.sys.lostFeeds.contains 1 then { c with sys.seated := true }
    else c.powerUp pins failed

/-! ### Warm reset (R3, R324, R459) -/

/-- The slot number of an operation that a warm reset has ended: no descriptor bears it. -/
def endedSlot : Nat := 65536

/-- The fabric runs its sequences on (R279); no operation waits for them any more. -/
def SafStr.unowned (x : SafStr) : SafStr :=
  { x with closeOp := x.closeOp.map fun _ => endedSlot, openOps := x.openOps.map fun _ => endedSlot
           testOp := x.testOp.map fun y => (endedSlot, y.2), drvOp := x.drvOp.map fun _ => endedSlot }

/-- Replay mode begins (R384): every output is off, and every string is OPEN. -/
def Card.replayOff (c : Card) : Card :=
  let c := c.each strings fun c s => (c.dropAll s).setFld (SAF_STR_STATE.STATE s) 0
  let c := { c with fio.drive := 0 }.setFld FIO_DO_STATE.CMD 0
  c.each [0, 1, 2, 3] fun c n => (c.driveAo n 0 0).modAo n fun _ => {}

/-- A warm reset with its cause: 0 the host, 1 the front button. -/
def Card.warmReset (c : Card) (cause : Nat) : Card :=
  let old := c
  let c := c.each strings fun c s => c.gatesOff s
  let c := c.endAllRequests
  let c : Card := { c with
    regs := resetRegs warmMask c.regs
    sys := { c.sys with
      drainPending := false, drainOps := [], resetCause := cause, opsEnded := old.flights.length
      requestsEnded := old.requests.length, sessionsEnded := old.sec.sessions.map (·.id), restarting := true, booting := false }
    hst := { linkUp := c.hst.linkUp, busMaster := c.hst.busMaster, d3 := c.hst.d3, mem := c.hst.mem, sources := c.hst.sources
             txSeq := c.hst.txSeq }
    rcd := { c.rcd with origin := none, replay := c.bit REC_STATUS.REPLAY_NEXT, loadedFrame := none, feeds := [], entry := none,
                         started := false, heldTold := false, flags := 4 }
    sec := { keys := c.sec.keys }
    lan := { banks := c.lan.banks, copies := c.lan.copies, live := c.lan.live, liveOk := c.lan.liveOk, counted := c.lan.counted }
    chn := { map := c.chn.map }
    til := { retireDue := c.til.retireDue, tiles := (c.til.tiles.map fun x =>
      (x.1, ({ ueAddrs := x.2.ueAddrs, lastUe := x.2.lastUe, laneCheck := x.2.laneCheck } : Tile))).filter (·.2 ≠ {}) }
    est := { copies := c.est.copies }
    imp := { copies := c.imp.copies }
    cnv := { c.cnv with strs := strings.foldl (fun (m : Store CnvStr) s =>
      m.set (fun _ => {}) s { ocv := (c.eng s).ocv, res := (c.eng s).res, lost := (c.eng s).lost }) [] }
    saf := { c.saf with watching := false, quiet := 0, lh := 0, strs := strings.foldl (fun (m : Store SafStr) s =>
      m.set (fun _ => {}) s (c.safStr s).unowned) [] }
    thm := { outs := c.thm.outs }
    fio := { c.fio with
      cos := [], lostNow := 0, setNow := [], lostAt := c.frame
      late := c.fio.late ++ ((List.range 16).filter fun i => c.diBroken i).map fun i => (i, true) } }
  let c := (c.setFld SAF_STATUS.LANE_OK 0).canWarm.record 0xC002 [pN (c.fld REC_SEQ_NEXT.SEQ_NEXT)]
  let c := c.bootCheck.startLanes
  let c := c.countSpares
  if c.rcd.replay then c.replayOff else c

/-- SYS_WARM_RESET (0x11): no completion. -/
def rowSysWarmReset : Row where
  opcode := 0x11
  role := 2
  args _ d := if d.only [(8, 8)] && !trigReserved (d.at 8 8) then none else some (7, 0x0001)
  trig d := some (d.at 8 8)
  start _ c := c
  fire slot c := (c.commit slot).warmReset 0

/-- SYS_WARM_RESET. -/
def execSysWarmReset (d : Desc) (s : State) : Host.Outcome State Fault Refusal := s.on fun c => c.accept rowSysWarmReset d

/-- RESET_BUTTON (R451). -/
def execResetButton (s : State) : Host.Outcome State Fault Refusal := s.on fun c => c.warmReset 1

/-- WARM_RESTART_COMPLETE (R459 step 3): the lane becomes primary, the tables are reloaded, and the records that follow the restart
are made. -/
def execWarmRestartComplete (lane : Nat) (s : State) : Host.Outcome State Fault Refusal :=
  s.on fun c =>
    if !c.sys.restarting ∨ 2 ≤ lane then c
    else
      let c := { c with sys.restarting := false }
      let c := if c.lan.recovery then c else (c.lanesUp lane).reloadTables
      let c := c.record 0xA003 [pN c.sys.opsEnded]
      let c := if c.sys.requestsEnded = 0 then c else c.record 0x7007 [pN c.sys.requestsEnded]
      let c := c.each c.sys.sessionsEnded fun c id => c.record 0xF002 [pN id.toNat, 3]
      ({ c with sys.sessionsEnded := [] }).record 0x0016 [pN c.sys.resetCause]

/-! ### Feeds and hold-up (R435 to R437) -/

/-- The voltage field of a feed. -/
def feedV (k : Nat) : Fld := if k = 0 then SYS_FEED_STAT.A_V else SYS_FEED_STAT.B_V

/-- The card moves to feed B: SWITCHOVER, its count and event 0x0003. -/
def Card.toFeedB (c : Card) : Card :=
  let c := ((c.setFld SYS_FEED_STAT.ACTIVE 1).stick SYS_STICKY.SWITCHOVER).count SYS_CNT.SWITCHOVER
  { c with sys.onB := c.tim.clock }.record 0x0003 [pN (c.fld SYS_FEED_STAT.A_V)]

/-- The card returns to feed A: event 0x0004 with the seconds on feed B. -/
def Card.toFeedA (c : Card) : Card :=
  let c := (c.setFld SYS_FEED_STAT.ACTIVE 0).setFld SYS_FEED_STAT.RETURN_PEND 0
  c.record 0x0004 [pN ((c.tim.clock - c.sys.onB) / 1000000000)]

/-- The power-loss record in MRAM (R450): postmark, frame number, and whether it shows a forced removal. -/
def Card.writeLoss (c : Card) : Card :=
  let forced := decide (c.fld SYS_SLOT.REMOVE ≠ 2) && !c.sys.seated
  { c with sys.lossPm := c.pm, sys.lossFrame := c.frame, sys.lossForced := forced }

/-- Both feeds are lost (R437). -/
def Card.holdUp (c : Card) (bank : Nat) : Card :=
  let c := (c.setFld SYS_FEED_STAT.HOLDUP 1).setFld SYS_FEED_STAT.BANK_V bank
  let c := (c.setFld SYS_FEED_STAT.RETURN_PEND 0).record 0x0005 [pN bank]
  let c := (c.fabricOpenAll 9 true).each strings fun c s => c.wantCommit s 4
  c.writeLoss

/-- FEED_LOST (R435): feed 0 A or 1 B, its voltage and the hold-up bank's in units of 0.5 V. -/
def execFeedLost (feed volts bank : Nat) (s : State) : Host.Outcome State Fault Refusal :=
  s.always fun c =>
    if 1 < feed ∨ c.sys.lostFeeds.contains feed then c
    else
      let both := c.sys.lostFeeds ≠ []
      let c := { c with sys.lostFeeds := c.sys.lostFeeds ++ [feed] }
      if !c.sys.powered then c
      else
        let c := (c.showFeeds.setFld (feedV feed) volts).stick (if feed = 0 then SYS_STICKY.A_LOST else SYS_STICKY.B_LOST)
        let c := (c.record 0x0001 [pN feed, pN volts]).commitAccounts
        if both then c.holdUp bank
        else if feed = 0 then
          let c := c.setFld SYS_FEED_STAT.RETURN_PEND 0
          if c.fld SYS_FEED_STAT.ACTIVE = 1 then c else c.toFeedB
        else if c.fld SYS_FEED_STAT.ACTIVE = 1 then c.toFeedA
        else c

/-- FEED_IN_RANGE (R436). -/
def execFeedInRange (feed volts : Nat) (s : State) : Host.Outcome State Fault Refusal :=
  s.always fun c =>
    if 1 < feed then c
    else
      let was := c.sys.lostFeeds.contains feed
      let c := { c with sys.lostFeeds := c.sys.lostFeeds.filter (· ≠ feed) }
      if !c.sys.powered then c
      else
        let c := c.showFeeds.setFld (feedV feed) volts
        if !was then c
        else
          let c := c.record 0x0002 [pN feed]
          let held := c.bit SYS_FEED_STAT.HOLDUP
          let c := c.setFld SYS_FEED_STAT.HOLDUP 0
          if held then
            if feed = 1 ∧ c.fld SYS_FEED_STAT.ACTIVE = 0 then c.toFeedB
            else if feed = 0 ∧ c.fld SYS_FEED_STAT.ACTIVE = 1 then c.toFeedA
            else c
          else if feed = 0 ∧ c.fld SYS_FEED_STAT.ACTIVE = 1 then c.setFld SYS_FEED_STAT.RETURN_PEND 1
          else c

/-- FEED_RETURN (R436): feed A has stayed in range for RETURN_T seconds. -/
def execFeedReturn (s : State) : Host.Outcome State Fault Refusal :=
  s.on fun c => if c.bit SYS_FEED_STAT.RETURN_PEND then c.toFeedA else c

/-- HOLDUP_SPENT (R437): the card stops; the next power-up is a cold reset. -/
def execHoldupSpent (s : State) : Host.Outcome State Fault Refusal :=
  s.on fun c => if c.bit SYS_FEED_STAT.HOLDUP then { c with sys.powered := false } else c

/-- CARD_UNSEATED (R449): CARD_SEATED_N goes high; unless REMOVE is DRAINED the power-loss record is written. -/
def execCardUnseated (s : State) : Host.Outcome State Fault Refusal :=
  s.on fun c =>
    let c := { c with sys.seated := false }
    if c.fld SYS_SLOT.REMOVE = 2 then c else c.writeLoss

/-! ### Drain (R446 to R448, R452) -/

/-- The module enters DRAINING: event 0x0011 with cause 0 the latch or 1 the host. -/
def Card.startDrain (c : Card) (cause : Nat) : Card :=
  let n := (strings.filter fun s => decide (c.safState s ≠ 0)).length
  let c := (c.setFld SYS_SLOT.REMOVE 1).record 0x0011 [pN cause, pN n]
  { c with sys.drainPending := true, sys.drainFrame := c.frame }

/-- EJECTOR_LATCH_OPEN (R446). -/
def execEjectorLatchOpen (s : State) : Host.Outcome State Fault Refusal :=
  s.on fun c =>
    let c := c.setFld SYS_SLOT.LATCH 0
    if c.fld SYS_SLOT.REMOVE ≠ 0 then c else (c.stick SYS_STICKY.EJECT).startDrain 0

/-- EJECTOR_LATCH_CLOSE (R448). -/
def execEjectorLatchClose (s : State) : Host.Outcome State Fault Refusal := s.on fun c => c.setFld SYS_SLOT.LATCH 1

/-- At the next slot boundary every string that is not OPEN or LOCKED opens in the orderly way. -/
def Card.drainSlot (c : Card) : Card :=
  if !c.sys.drainPending then c
  else
    let c := { c with sys.drainPending := false }
    c.each strings fun c s => if c.safState s = 0 ∨ 5 ≤ c.safState s then c else c.orderlyOpen s

/-- DRAIN_COMPLETE (R446): every string is OPEN or LOCKED and its weld check has ended. The accounts and the histories are
committed, and the module enters DRAINED. -/
def execDrainComplete (s : State) : Host.Outcome State Fault Refusal :=
  s.on fun c =>
    let ended := strings.all fun n => decide (c.safState n = 0 ∨ c.safState n = 6) && !c.bit (SAF_STR_STATE.WELD_PEND n)
    if c.fld SYS_SLOT.REMOVE ≠ 1 ∨ c.sys.drainPending ∨ !ended then c
    else
      let c := c.commitAccounts.each strings fun c n => c.modImp n fun x => { x with hist := if x.hist = 0 then 1 else x.hist }
      let c := (c.setFld SYS_SLOT.REMOVE 2).stick SYS_STICKY.DRAINED
      let c := c.record 0x0012 [pN (framesSince c.frame c.sys.drainFrame)]
      let ops := c.sys.drainOps
      { c with sys.drainOps := [] }.each ops fun c slot => c.done slot

/-- SYS_DRAIN (0x10). -/
def rowSysDrain : Row where
  opcode := 0x10
  role := 2
  args _ d := if d.only [(0, 1)] && decide (d.byte 0 ≤ 1) then none else some (7, 0x0001)
  checks c d :=
    if d.byte 0 = 0 then none
    else if c.fld SYS_SLOT.REMOVE ≠ 2 then some (3, 0x0002, 0)
    else if !c.bit SYS_SLOT.LATCH then some (3, 0x0004, 0)
    else none
  start slot c :=
    let d := c.descOf slot
    let c := c.commit slot
    if d.byte 0 = 1 then ((c.setFld SYS_SLOT.REMOVE 0).record 0x0013 [c.frame]).done slot
    else if c.fld SYS_SLOT.REMOVE ≠ 0 then c.done slot
    else { c.startDrain 1 with sys.drainOps := [slot] }

/-- SYS_DRAIN. -/
def execSysDrain (d : Desc) (s : State) : Host.Outcome State Fault Refusal := s.on fun c => c.accept rowSysDrain d

end Sys2Proof.Machine
end

