-- ==== Sys2Proof/Machine/Rec.lean ====
section
/-! DEFINITION. The event recorder, the journal stream and origins (R366 to R390). Replay feeding runs frames and
stands in Replay.lean. -/

namespace Sys2Proof.Machine

/-! ### Records and the store (R366 to R375) -/

/-- The lowest-numbered key below `k + n`, from `k` on, that is free and allowed. -/
def firstFree (n : Nat) (m : Store (Option Record)) (ok : Nat → Bool) (k : Nat) : Option Nat :=
  match n with
  | 0 => none
  | n + 1 => if ok k && (m.get (fun _ => none) k).isNone then some k else firstFree n m ok (k + 1)

/-- The held record with the lowest SEQ among those of severity at most `sev`, with its slot. -/
def victim (m : Store (Option Record)) (sev : Nat) : Option Nat :=
  let held := m.filterMap fun x => match x.2 with
    | some r => if r.sev ≤ sev then some (x.1, r.seq) else none
    | none => none
  (held.foldl (fun (a : Option (Nat × Nat)) x => match a with
    | none => some x
    | some y => if olderSeq x.2 y.2 then some x else some y) none).map (·.1)

/-- The slot that the overwrite rule of R370 gives a record in a store of `cap` slots; none: it is dropped. -/
def placeSlot (m : Store (Option Record)) (cap : Nat) (ok : Nat → Bool) (r : Record) : Option Nat :=
  match firstFree cap m ok 0 with
  | some k => some k
  | none => victim m r.sev

/-- A recorder region is retired (R373). -/
def Card.regionRetired (c : Card) (r : Nat) : Bool := (c.reg (REC_RETIRED (r / 32))).getLsbD (r % 32)

/-- Some region remains that is not retired. -/
def Card.storeLeft (c : Card) : Bool := (List.range 256).any fun r => !c.regionRetired r

/-- Sends a record to the last-gasp slots (R374), marked LAST_GASP. -/
def Card.lastGasp (c : Card) (r : Record) : Card :=
  let r := { r with sevflags := r.sevflags ||| 8 }
  let c := c.stick REC_STICKY.LAST_GASP
  match placeSlot c.rcd.gasp 16 (fun _ => true) r with
  | some k => { c with rcd.gasp := c.rcd.gasp.set (fun _ => none) k (some r) }
  | none => c.countDrop r.sev

/-- Retires a recorder region: its records are lost, and a hole record is made (R373, R375). -/
def Card.retireRegion (c : Card) (region cause : Nat) : Card :=
  if c.regionRetired region || 256 ≤ region then c
  else
    let lost := c.rcd.store.filterMap fun x => if x.1 / 128 = region then x.2.map (·.seq) else none
    let lo := lost.foldl (fun a x => if olderSeq x a then x else a) (lost.headD 0)
    let hi := lost.foldl (fun a x => if olderSeq a x then x else a) (lost.headD 0)
    let c := { c with rcd.store := c.rcd.store.filter fun x => x.1 / 128 ≠ region }
    let off := REC_RETIRED (region / 32)
    let c := c.setReg off (c.reg off ||| BitVec.ofNat 32 (2 ^ (region % 32)))
    ((c.count REC_STATUS.RETIRED).stick REC_STICKY.RETIRED).record 0xC010
      [pN (region + cause * 256), pN lo, pN hi, pN lost.length]

/-- Places a taken record in the store; `bad`: its write fails its read-back, which retires the region and sends the
record to the last-gasp slots. -/
def Card.storeRecord (c : Card) (r : Record) (bad : Bool) : Card :=
  if !c.storeLeft then c.lastGasp r
  else match placeSlot c.rcd.store 32768 (fun k => !c.regionRetired (k / 128)) r with
    | none => c.countDrop r.sev
    | some k =>
      if bad then (c.retireRegion (k / 128) 0).lastGasp r
      else { c with rcd.store := c.rcd.store.set (fun _ => none) k (some r) }

/-- Mirrors a record of severity 5 or more (R371). -/
def Card.mirrorRecord (c : Card) (r : Record) : Card :=
  if r.sev < 5 then c
  else match placeSlot c.rcd.mirror 8192 (fun _ => true) r with
    | some k => { c with rcd.mirror := c.rcd.mirror.set (fun _ => none) k (some r) }
    | none => (c.count REC_MIRROR_STAT.DROP).stick REC_STICKY.MIRROR_DROP

/-- Gives the next SEQ, keeping the stored ceiling ahead of it (R368). -/
def Card.takeSeq (c : Card) : Nat × Card :=
  let seq := c.fld REC_SEQ_NEXT.SEQ_NEXT
  let next := if seq = 2 ^ 32 - 1 then 1 else seq + 1
  let ceil := if c.rcd.seqStarted then c.rcd.ceiling else c.rcd.ceiling + 8192
  let gap := (BitVec.ofNat 32 ceil - BitVec.ofNat 32 next).toNat
  let ceil := if gap ≤ 4096 then ceil + 8192 else ceil
  (seq, { c with rcd.ceiling := ceil % 2 ^ 32, rcd.seqStarted := true }.setFld REC_SEQ_NEXT.SEQ_NEXT next)

/-- The recorder takes the oldest record of the intake: SEQ, store or last-gasp slots, mirror, source 83 (R368 to
R371). -/
def Card.recordStore (c : Card) (bad : Bool) : Card :=
  match c.rcd.intake with
  | [] => c
  | r :: rest =>
    let (seq, c) := { c with rcd.intake := rest }.takeSeq
    let r := { r with seq := seq }
    let c := (c.storeRecord r bad).mirrorRecord r
    if c.fld HST_EV_CFG.SEVMIN ≤ r.sev then c.fire 83 else c

/-- RECORD_STORE (R370). -/
def execRecordStore (error : Bool) (s : State) : Host.Outcome State Fault Refusal := s.on fun c => c.recordStore error

/-- RECORD_INTAKE_DROP (R369): a record of this code finds the intake full. -/
def execRecordIntakeDrop (code : Nat) (s : State) : Host.Outcome State Fault Refusal :=
  s.on fun c =>
    match eventSev code with
    | some sev => if 64 ≤ c.rcd.intake.length then c.countDrop sev else c
    | none => c

/-- Moves the record of a last-gasp slot into the store; one that R370 would drop stays (R374). -/
def Card.gaspMove (c : Card) (k : Nat) : Card :=
  match c.rcd.gasp.get (fun _ => none) k with
  | none => c
  | some r =>
    match placeSlot c.rcd.store 32768 (fun k => !c.regionRetired (k / 128)) r with
    | none => c
    | some t => { c with rcd.store := c.rcd.store.set (fun _ => none) t (some r)
                         rcd.gasp := c.rcd.gasp.set (fun _ => none) k none }

/-- Moves last-gasp records, oldest first, into the store (R374). -/
def Card.lastGaspMove (c : Card) : Card :=
  if !c.storeLeft then c
  else
    let held := c.rcd.gasp.filterMap fun x => x.2.map fun r => (x.1, r.seq)
    c.each (held.mergeSort fun a b => !olderSeq b.2 a.2) fun c x => c.gaspMove x.1

/-- At a frame boundary after a frame with drops: record 0xC012 with its counts (R370). -/
def Card.dropSummary (c : Card) : Card :=
  let d := c.rcd.dropsNow
  let c := { c with rcd.dropsNow := [0, 0, 0, 0, 0, 0, 0, 0] }
  if d.all (· == 0) then c
  else
    let word (l : List Nat) : Word := pN (l.foldr (fun x a => x + 256 * a) 0)
    c.record 0xC012 [word (d.take 4), word (d.drop 4)]

/-- A memory error that the recorder's scrubber meets: an uncorrectable one retires the region, and so does the ninth
corrected one within 65,536 frames (R373). -/
def Card.recorderEcc (c : Card) (region : Nat) (uncorrectable : Bool) : Card :=
  if uncorrectable then c.retireRegion region 1
  else
    let now := c.tim.clock / 1000000
    let l := (region, now) :: c.rcd.corrected.filter fun x => now < x.2 + 65536
    let c := { c with rcd.corrected := l }
    if 9 ≤ (l.filter (·.1 == region)).length then c.retireRegion region 2 else c

/-! ### The journal entry (R376 to R380) -/

/-- The body prefix of a section: CHAIN begins with CHN_STALE (R378). -/
def Card.sectionPrefix (c : Card) (typ idx : Nat) : List Byte :=
  if typ = 0x02 then le 4 (c.reg (CHN_STALE idx)).toNat ++ le 4 0 else []

/-- The items of a section. Those of CHAIN stand as the HEAD train, the TAIL train, then the other packets, which bear the
string's number raised by 0, 8 and 16 (R378). -/
def sectionItems (items : List (Nat × Nat × List Byte)) (typ idx : Nat) : List (Nat × Nat × List Byte) :=
  let own (i : Nat) : List (Nat × Nat × List Byte) := items.filter fun x => x.1 == typ && x.2.1 == i
  if typ = 0x02 then own idx ++ own (idx + 8) ++ own (idx + 16) else own idx

/-- The sections of the items, by TYPE and INDEX: 8-byte header and padded body (R378). A chain in use always has one. -/
def Card.sections (c : Card) (items : List (Nat × Nat × List Byte)) : List (List Byte) :=
  (List.range 12).flatMap fun typ => (List.range 5).filterMap fun idx =>
    let own := sectionItems items typ idx
    if own = [] ∧ ¬(typ = 0x02 ∧ 1 ≤ idx ∧ c.bit (CHN_CTRL.EN idx)) then none
    else
      let body := c.sectionPrefix typ idx ++ own.flatMap (·.2.2)
      some (le 1 typ ++ le 1 idx ++ le 2 0 ++ le 4 body.length ++ padTo 8 body)

/-- An entry of R377: header, sections, CRC-32 over the whole with its own bytes zero. -/
def entryBytes (frame : BitVec 32) (pm boot flags skipped : Nat) (digest : Nat) (secs : List (List Byte)) : List Byte :=
  let body := padTo 64 secs.flatten
  let head := le 4 (64 + body.length) ++ le 4 frame.toNat ++ le 8 pm ++ le 4 boot ++ le 4 flags
    ++ le 4 (min skipped (2 ^ 32 - 1)) ++ le 4 secs.length ++ le 8 digest ++ le 20 0
  head ++ le 4 (crc32 (head ++ le 4 0 ++ body)) ++ body

/-- An entry that carries PAD, of `n` bytes: a header and zeros (R379). -/
def padEntry (frame : BitVec 32) (boot n : Nat) : List Byte :=
  let head := le 4 n ++ le 4 frame.toNat ++ le 8 0 ++ le 4 boot ++ le 4 1 ++ le 36 0
  let body := List.replicate (n - 64) (0 : Byte)
  head ++ le 4 (crc32 (head ++ le 4 0 ++ body)) ++ body

/-- The ring's base address. -/
def Card.jnlBase (c : Card) : Nat := c.fld REC_JNL_BASE_LO.ADDR_LO * 64 + c.fld REC_JNL_BASE_HI.ADDR_HI * 2 ^ 32

/-- An entry goes into the host ring: where it does not fit before the end, a PAD entry fills the rest first; it is
skipped where the room of R379 is short or the module does not master the bus. -/
def Card.writeEntry (c : Card) (frame : BitVec 32) (bs : List Byte) : Card :=
  let size := 2 ^ c.fld REC_JNL_SIZE.LOG2
  let tail := c.fld REC_JNL_TAIL.TAIL
  let head := c.fld REC_JNL_HEAD.HEAD
  let room := (head + size - 64 + size - tail) % size
  let rest := size - tail
  let wraps := decide (rest < bs.length)
  let need := bs.length + (if wraps then rest else 0)
  if !c.masters || room < need then
    let c := if c.rcd.skipped = 0 then { c with rcd.gapFirst := frame } else c
    ({ c with rcd.skipped := c.rcd.skipped + 1 }.count REC_JNL_SKIP.SKIP).stick REC_STICKY.JNL_GAP
  else
    let c := if wraps
      then (c.dma (c.jnlBase + tail) (padEntry frame c.rcd.boot rest)).setFld REC_JNL_TAIL.TAIL 0
      else c
    let t := c.fld REC_JNL_TAIL.TAIL
    let c := (c.dma (c.jnlBase + t) bs).setFld REC_JNL_TAIL.TAIL ((t + bs.length) % size)
    let c := if c.rcd.skipped = 0 then c
      else { c with rcd.skipped := 0 }.record 0xC020 [pN c.rcd.gapFirst.toNat, pN c.rcd.skipped]
    let n := c.rcd.sinceEv + 1
    if c.fld REC_CTRL.JNL_EV ≤ n then { c with rcd.sinceEv := 0 }.fire 82 else { c with rcd.sinceEv := n }

/-- The PRECISE items of the entry: postmark of the first sample, count of groups, and the groups (R378). -/
def Card.preciseItems (c : Card) : List (Nat × Nat × List Byte) :=
  c.rcd.precise.filterMap fun x => x.2.map fun y =>
    let groups := y.bytes ++ le (3 * (9 - y.next)) 0
    (0x03, x.1, le 8 y.first ++ le 4 (groups.length / 27) ++ le 4 0 ++ groups)

/-- The entry of the frame that ends closes (R376): into the black box, and into the host ring while JNL_EN is 1. -/
def Card.closeEntry (c : Card) (digest : Nat) : Card :=
  let flags := c.rcd.flags + (if c.rcd.skipped = 0 then 0 else 2) + (if c.rcd.replay then 16 else 0)
    + (if c.lan.split then 32 else 0)
  let bs := entryBytes c.frame c.tim.framePm c.rcd.boot flags c.rcd.skipped (if c.lan.split then 0 else digest)
    (c.sections (c.rcd.items ++ c.preciseItems))
  let box := c.rcd.blackBox ++ [(c.frame, bs)]
  let frame := c.frame
  let c := { c with rcd.items := [], rcd.precise := [], rcd.flags := 0, rcd.blackBox := box.drop (box.length - Config.blackBoxFrames) }
  if c.bit REC_CTRL.JNL_EN then c.writeEntry frame bs else c

/-! ### Recorder opcodes (R388) -/

/-- BAD_ARGUMENT of this chapter unless `b` holds. -/
def recArgs (b : Bool) : Option (Nat × Nat) := if b then none else some (7, 0xC001)

/-- Inserts into a list sorted by distance of SEQ from `first`. -/
def insertSeq (first : Nat) (r : Record) (l : List Record) : List Record :=
  let dist (x : Record) : Nat := (BitVec.ofNat 32 x.seq - BitVec.ofNat 32 first).toNat
  match l with
  | [] => [r]
  | x :: t => if dist r ≤ dist x then r :: x :: t else x :: insertSeq first r t

/-- The records of a store at or after `first`, ascending. -/
def readRecords (m : Store (Option Record)) (first n : Nat) : List Record :=
  let held := m.filterMap (·.2)
  let from' := held.filter fun r => r.seq = first || after (BitVec.ofNat 32 r.seq) (BitVec.ofNat 32 first)
  (from'.foldr (insertSeq first) []).take n

/-- REC_READ (0xA0). -/
def rowRecRead : Row where
  opcode := 0xA0
  role := 1
  args := fun _ d => recArgs (d.only [(0, 7), (8, 8)] && within 1 1024 (d.at 4 2) && within 0 2 (d.byte 6))
  start := fun slot c =>
    let d := c.descOf slot
    let m := if d.byte 6 = 0 then c.rcd.store else if d.byte 6 = 1 then c.rcd.mirror else c.rcd.gasp
    let rs := readRecords m (d.at 0 4) (d.at 4 2)
    (c.commit slot).doneWith slot (d.at 8 8) (rs.flatMap Record.bytes) (pN rs.length)

/-- The whole entries that fit a buffer of `room` bytes. -/
def fitEntries (room : Nat) (l : List (List Byte)) : List Byte :=
  match l with
  | [] => []
  | b :: r => if b.length ≤ room then b ++ fitEntries (room - b.length) r else []

/-- REC_BB_READ (0xA1, R380). -/
def rowRecBbRead : Row where
  opcode := 0xA1
  role := 1
  args := fun _ d => recArgs (d.only [(0, 16)])
  start := fun slot c =>
    let d := c.descOf slot
    let first := BitVec.ofNat 32 (d.at 0 4)
    let l := (c.rcd.blackBox.filter fun x => x.1 = first || after x.1 first).map (·.2)
    let bs := fitEntries (d.at 4 4) l
    if l ≠ [] ∧ bs = [] then c.complete slot 3 0xC005
    else (c.commit slot).doneWith slot (d.at 8 8) bs (pN bs.length)

/-- REC_ORIGIN (0xA2): waits for the boundary S at which ORIGIN_START takes it. -/
def rowRecOrigin : Row where
  opcode := 0xA2
  role := 2
  args := fun _ d => recArgs (d.only [(8, 8)] && decide (d.at 8 8 % 64 = 0))
  checks := fun c _ =>
    if c.rcd.origin.isSome || c.running.any (fun x => x.2.opcode = 0xA2 ∧ !x.2.committed) then some (3, 0xC002, 0)
    else none
  start := fun _ c => c

/-- REC_REPLAY_MODE (0xA3): the mode stored in MRAM takes effect at the next warm reset (R384). -/
def rowRecReplayMode : Row where
  opcode := 0xA3
  role := 3
  args := fun _ d => recArgs (d.only [(0, 1)] && within 0 1 (d.byte 0))
  start := fun slot c =>
    ((c.commit slot).setFld REC_STATUS.REPLAY_NEXT ((c.descOf slot).byte 0)).done slot

/-- The REC_ORIGIN operation that waits for its boundary. -/
def Card.originOp (c : Card) : Option Nat :=
  (c.running.find? fun x => x.2.opcode = 0xA2 ∧ !x.2.committed ∧ !x.2.produced).map (·.1)

/-- An origin fails: ORIGIN_FAIL, event 0xC022 with its cause (R381, R382). -/
def Card.originFail (c : Card) (frame : BitVec 32) (cause : Nat) : Card :=
  (c.stick REC_STICKY.ORIGIN_FAIL).record 0xC022 [pN frame.toNat, pN cause]

/-- REC_READ. -/
def execRecRead (d : Desc) (s : State) : Host.Outcome State Fault Refusal := s.on fun c => c.accept rowRecRead d
/-- REC_BB_READ. -/
def execRecBbRead (d : Desc) (s : State) : Host.Outcome State Fault Refusal := s.on fun c => c.accept rowRecBbRead d
/-- REC_ORIGIN. -/
def execRecOrigin (d : Desc) (s : State) : Host.Outcome State Fault Refusal := s.on fun c => c.accept rowRecOrigin d
/-- REC_REPLAY_MODE. -/
def execRecReplayMode (d : Desc) (s : State) : Host.Outcome State Fault Refusal :=
  s.on fun c => c.accept rowRecReplayMode d

end Sys2Proof.Machine
end

