-- ==== Sys2Proof/Machine/Replay.lean ====
section
/-! DEFINITION. Origins and replay (R381 to R386). -/

namespace Sys2Proof.Machine

/-! ### Origins -/

/-- Words packed four to nine bytes, the first in the low bits (R383). -/
def packWords (ws : List Nat) : List Byte :=
  match ws with
  | a :: b :: c :: d :: r => le 9 (a + b * 2 ^ 18 + c * 2 ^ 36 + d * 2 ^ 54) ++ packWords r
  | _ => []

/-- The `n` words of a tile from address `a`. -/
def Tile.words (y : Tile) (a n : Nat) : List Nat := (List.range n).map fun i => y.word (a + i)

/-- The TILE section of a string: the mirror tags, then each logical tile's mirror, input window and output window. -/
def Card.tileSection (c : Card) (s : Nat) : List Byte :=
  let ts := (tilesOf s).map fun t => c.tile (c.phys t)
  (ts.flatMap fun y => le 4 (y.tags.get (fun _ => 0) 0).toNat)
    ++ ts.flatMap fun y => packWords (y.words 0xA000 8192 ++ y.words 0xF000 2048 ++ y.words 0xF800 2048)

/-- The TABLES section: the shared tables of each string. -/
def Card.tableSection (c : Card) : List Byte :=
  strings.flatMap fun s => packWords ((c.tile (c.phys (64 * (s - 1)))).words 0xC000 12288)

/-- `n` free bytes. -/
def Card.freeBytes (c : Card) (n : Nat) : List Byte × Card :=
  let (i, c) := c.draw
  ((Config.freeBytes i n ++ List.replicate n 0).take n, c)

/-- The capture at boundary S: TABLES, and the sections in the module's own format, LANE, TRACKER and BLOCKS. -/
def Card.captureBlocks (c : Card) : List (Nat × Nat × List Byte) × Card :=
  let (n, c) := c.draw
  let (lane, c) := c.freeBytes 262144
  let (tracker, c) := c.freeBytes 1048576
  let (blocks, c) := c.freeBytes ((Config.freeValue n).toNat % 262145)
  ([(2, 0, c.tableSection), (3, 0, lane), (4, 0, tracker), (5, 0, blocks)], c)

/-- ORIGIN_START (R381), at the beginning of frame S: `fast` is a link at Gen4 ×4. Only one origin runs at a time. -/
def execOriginStart (fast : Bool) (s : State) : Host.Outcome State Fault Refusal :=
  s.on fun c =>
    if c.rcd.origin.isSome ∨ c.tim.slot ≠ 0 then c
    else
      let op := c.originOp
      let auto := decide (c.rcd.flags / 4 % 2 = 1) || decide (c.fld REC_CTRL.ORIGIN_INT ≠ 0)
      if op.isNone && !auto then c
      else if !fast || !c.masters then
        let c := c.originFail c.frame 0
        match op with
        | some slot => c.complete slot 3 0xC003
        | none => c
      else
        let a := c.fld REC_ORG_A_LO.ADDR_LO * 64 + c.fld REC_ORG_A_HI.ADDR_HI * 2 ^ 32
        let b := c.fld REC_ORG_B_LO.ADDR_LO * 64 + c.fld REC_ORG_B_HI.ADDR_HI * 2 ^ 32
        let buffer := match op with
          | some slot => (c.descOf slot).at 8 8
          | none => if c.rcd.orgNextB then b else a
        let c := match op with
          | some slot => c.commit slot
          | none => { c with rcd.orgNextB := !c.rcd.orgNextB }
        let flags := if c.rcd.flags / 8 % 2 = 1 then c.rcd.flags else c.rcd.flags + 8
        let (parts, c) := c.captureBlocks
        let o : Origin := { frame := c.frame, pm := c.tim.framePm, buffer := buffer, op := op, parts := parts }
        { c with rcd.flags := flags, rcd.origin := some o }.setFld REC_STATUS.ORIGIN_BUSY 1

/-- The TILE section of string s streams from slot 7 of frame S + s − 1 (R382). -/
def Card.originSlot7 (c : Card) : Card :=
  match c.rcd.origin with
  | none => c
  | some o =>
    let s := framesSince c.frame o.frame + 1
    if s = 0 ∨ 4 < s ∨ o.parts.any (fun x => x.1 == 1 && x.2.1 == s) then c
    else { c with rcd.origin := some { o with parts := o.parts ++ [(1, s, c.tileSection s)] } }

/-- The sections of an origin in directory order: TILE of each string, then the others. -/
def Origin.ordered (o : Origin) : List (Nat × Nat × List Byte) :=
  (strings.flatMap fun s => o.parts.filter fun x => x.1 == 1 && x.2.1 == s) ++ o.parts.filter fun x => x.1 != 1

/-- The directory entries of sections that start at `off`. -/
def directory (off : Nat) (l : List (Nat × Nat × List Byte)) : List Byte :=
  match l with
  | [] => []
  | x :: r => le 1 x.1 ++ le 1 x.2.1 ++ le 2 0 ++ le 4 off ++ le 4 x.2.2.length ++ le 4 (crc32 x.2.2)
      ++ directory (off + x.2.2.length) r

/-- The bytes of an origin (R383). -/
def Card.originBytes (c : Card) (o : Origin) (seq : Nat) : List Byte :=
  let secs := o.ordered
  let body := secs.flatMap (·.2.2)
  let head := le 4 seq ++ le 4 o.frame.toNat ++ le 8 o.pm ++ le 4 c.rcd.boot ++ le 4 (c.fld (idFld c.activeBank))
    ++ le 4 (c.fld TIL_KERNEL_ACTIVE.ID) ++ le 4 (c.reg SYS_FW_VER).toNat ++ le 4 (4096 + body.length) ++ le 4 0
    ++ ((List.range 256).flatMap fun t => le 4 (c.reg (TIL_MAP t)).toNat) ++ directory 4096 secs
  (head ++ List.replicate 4096 0).take 4092 ++ le 4 seq ++ body

/-- The origin in capture ends with a failure cause; its operation completes TIMEOUT with CAPTURE_LATE. -/
def Card.endOrigin (c : Card) (o : Origin) (cause : Nat) : Card :=
  let c := ({ c with rcd.origin := none }.setFld REC_STATUS.ORIGIN_BUSY 0).originFail o.frame cause
  match o.op with
  | some slot => if cause = 3 then c.complete slot 0x0A 0xA041 else c.complete slot 0x0C 0xC004
  | none => c

/-- ORIGIN_COMPLETE (R382): `tileLate`: a tile section was not complete by its slot 3 boundary. -/
def execOriginComplete (tileLate : Bool) (s : State) : Host.Outcome State Fault Refusal :=
  s.on fun c =>
    match c.rcd.origin with
    | none => c
    | some o =>
      if tileLate then c.endOrigin o 1
      else if 64 < framesSince c.frame o.frame then c.endOrigin o 2
      else if !strings.all (fun n => o.parts.any fun x => x.1 == 1 && x.2.1 == n) then c
      else
        let seq := nextSeq c.rcd.orgSeq
        let bs := c.originBytes o seq
        let c := { c with rcd.origin := none, rcd.orgSeq := seq }.setFld REC_STATUS.ORIGIN_BUSY 0
        let c := c.record 0xC021 [o.frame, pN bs.length]
        match o.op with
        | some slot => c.doneWith slot o.buffer bs (pN bs.length)
        | none => c.dma o.buffer bs

/-! ### Replay (R384 to R386) -/

/-- The origin header's SEQ words agree, its directory lies within the data, and every section's CRC is good. -/
def originGood (bs : List Byte) : Bool :=
  leAt bs 0 4 == leAt bs 4092 4 && leAt bs 32 4 == bs.length && (List.range 8).all fun i =>
    let e := 1064 + 16 * i
    let off := leAt bs (e + 4) 4
    let n := leAt bs (e + 8) 4
    zeroAt bs (e + 2) 2 && decide (4096 ≤ off ∧ off + n ≤ bs.length) && leAt bs (e + 12) 4 == crc32 (slice bs off n)

/-- The words that nine-byte groups hold. -/
def unpackWords (n : Nat) (bs : List Byte) : List W18 :=
  (List.range n).map fun i => BitVec.ofNat 18 (leAt bs (9 * (i / 4)) 9 / 2 ^ (18 * (i % 4)))

/-- A TILE section enters the mirrors and windows of a string's tiles. -/
def Card.loadTiles (c : Card) (s : Nat) (bs : List Byte) : Card :=
  c.each (tilesOf s).zipIdx fun c t =>
    let ws := unpackWords 12288 (slice bs (256 + 27648 * t.2) 27648)
    let tag := BitVec.ofNat 32 (leAt bs (4 * t.2) 4)
    c.modTile (c.phys t.1) fun y => { y with
      tags := [0, 1, 2].foldl (fun m k => m.set (fun _ => 0) k tag) y.tags
      mem := ((y.mem.setRange noWord 0xA000 (ws.take 8192)).setRange noWord 0xF000 ((ws.drop 8192).take 2048)).setRange
        noWord 0xF800 (ws.drop 10240) }

/-- The TABLES section enters every tile of its string. -/
def Card.loadTableSection (c : Card) (bs : List Byte) : Card :=
  c.each strings fun c s =>
    let ws := unpackWords 12288 (slice bs (27648 * (s - 1)) 27648)
    c.each (tilesOf s) fun c t => c.modTile (c.phys t) fun y => { y with mem := y.mem.setRange noWord 0xC000 ws }

/-- The sections of an origin whose layout the spec gives enter the card. -/
def Card.loadOrigin (c : Card) (bs : List Byte) : Card :=
  c.each (List.range 8) fun c i =>
    let e := 1064 + 16 * i
    let body := slice bs (leAt bs (e + 4) 4) (leAt bs (e + 8) 4)
    let s := leAt bs (e + 1) 1
    match leAt bs e 1 with
    | 1 => if 1 ≤ s ∧ s ≤ 4 then c.loadTiles s body else c
    | 2 => c.loadTableSection body
    | _ => c

/-- REC_REPLAY_LOAD (0xA4): the buffer holds an origin. -/
def rowRecReplayLoad : Row where
  opcode := 0xA4
  role := 3
  args _ d := recArgs (d.only [(8, 8)])
  checks c d :=
    let bs := d.buf
    if !c.rcd.replay then some (3, 0xC006, 0)
    else if leAt bs 20 4 ≠ c.fld (idFld c.activeBank) ∨ leAt bs 24 4 ≠ c.fld TIL_KERNEL_ACTIVE.ID then some (3, 0xC007, 0)
    else if !originGood bs then some (3, 0xC008, 0) else none
  start slot c :=
    let bs := (c.descOf slot).buf
    let c := ((c.commit slot).loadOrigin bs).setFld REC_STATUS.LOADED 1
    { c with rcd.loadedFrame := some (BitVec.ofNat 32 (leAt bs 4 4)), rcd.started := false, rcd.heldTold := false }.done slot

/-- The entries of a feed. What does not parse is one entry, which is bad; a PAD entry fills a ring and brings no frame. -/
def splitEntries (n : Nat) (bs : List Byte) : List (List Byte) :=
  match n with
  | 0 => []
  | n + 1 =>
    if bs = [] then []
    else
      let len := leAt bs 0 4
      if len < 64 ∨ bs.length < len then [bs]
      else if leAt bs 20 4 % 2 = 1 then splitEntries n (bs.drop len)
      else bs.take len :: splitEntries n (bs.drop len)

/-- REC_REPLAY_FEED (0xA5): the entries wait for the frames that run them. -/
def rowRecReplayFeed : Row where
  opcode := 0xA5
  role := 3
  args _ d := recArgs (d.only [(0, 4), (8, 8)])
  checks c _ := if c.rcd.loadedFrame.isNone then some (3, 0xC009, 0) else none
  start slot c :=
    let d := c.descOf slot
    let es := splitEntries (d.at 0 4) (d.buf.take (d.at 0 4))
    if es = [] then (c.commit slot).done slot else { c with rcd.feeds := c.rcd.feeds ++ [(slot, es, 0)] }

/-- Every section of an entry has a TYPE that R378 gives. -/
def sectionsGood (n : Nat) (bs : List Byte) : Bool :=
  match n with
  | 0 => true
  | n + 1 =>
    let len := leAt bs 4 4
    let whole := 8 + (len + 7) / 8 * 8
    decide (1 ≤ leAt bs 0 1 ∧ leAt bs 0 1 ≤ 0x0B) && decide (whole ≤ bs.length) && sectionsGood n (bs.drop whole)

/-- An entry's length, CRC and section TYPEs are good. -/
def entryGood (bs : List Byte) : Bool :=
  decide (64 ≤ bs.length) && leAt bs 0 4 == bs.length
    && leAt bs 60 4 == crc32 (bs.take 60 ++ le 4 0 ++ bs.drop 64) && sectionsGood (leAt bs 28 4) (bs.drop 64)

/-- The body of the entry's first section of a TYPE. -/
def findSection (n typ : Nat) (bs : List Byte) : Option (List Byte) :=
  match n with
  | 0 => none
  | n + 1 =>
    let len := leAt bs 4 4
    if leAt bs 0 1 = typ then some (slice bs 8 len) else findSection n typ (bs.drop (8 + (len + 7) / 8 * 8))

/-- The replay stops: every feed completes, the first with a reason, the others NOT_LOADED. -/
def Card.stopReplay (c : Card) (reason : Nat) (frame : BitVec 32) : Card :=
  let feeds := c.rcd.feeds
  let c := { c with rcd.loadedFrame := none, rcd.feeds := [], rcd.entry := none }.setFld REC_STATUS.LOADED 0
  c.each feeds.zipIdx fun c x => if x.2 = 0 then c.complete x.1.1 3 reason frame else c.complete x.1.1 3 0xC009

/-- The replay waits at a frame boundary: loaded, with no entry waiting (R385). -/
def Card.replayHolds (c : Card) : Bool := c.rcd.loadedFrame.isSome && c.rcd.feeds.all fun x => x.2.1 == []

/-- A string's part of the LIMITS section: the 16 channels, the lookahead bounds, FRESH and LA_VALID, zeros. -/
def Card.limitBytes (c : Card) (s : Nat) : List Byte :=
  let x := c.estStr s
  ((List.range 16).flatMap fun n => le 4 (p32 (x.chans.getD n 0)).toNat) ++ le 4 x.laChg ++ le 4 x.laDis
    ++ le 4 (c.fld TIL_FRESH.FRESH / 2 ^ (s - 1) % 2 + 2 * c.fld (EST_STATUS.LA_VALID s)) ++ le 4 0

/-- The comparison of the frame that ends with its entry, from S + 4 on: 0 digest, 1 to 4 a string's limit set (R386). -/
def Card.divergence (c : Card) (digest : Nat) : Option Nat :=
  match c.rcd.loadedFrame, c.rcd.entry with
  | some first, some e =>
    if framesSince c.frame first < 4 then none
    else if leAt e 32 8 ≠ digest then some 0
    else
      let body := (findSection (leAt e 28 4) 0x0A (e.drop 64)).getD []
      strings.find? fun s => decide (slice body (80 * (s - 1)) 80 ≠ c.limitBytes s)
  | _, _ => none

/-- A replayed frame ends: the comparison, then the count of its feed, which completes after its last entry. -/
def Card.endReplayFrame (c : Card) : Card :=
  match c.rcd.entry with
  | none => c
  | some _ =>
    let (n, c) := c.digestDraw
    match c.divergence (c.primaryDigest n) with
    | some what =>
      let c := (c.stick REC_STICKY.DIVERGED).record 0xC031 [c.frame, pN what]
      c.stopReplay 0xC00A c.frame
    | none =>
      let c := { c with rcd.entry := none }
      match c.rcd.feeds with
      | [] => c
      | (slot, es, n) :: rest =>
        if es = [] then { c with rcd.feeds := rest }.done slot (pN (n + 1))
        else { c with rcd.feeds := (slot, es, n + 1) :: rest }

/-- The next entry of the feeds opens a frame: its frame number and postmark, or the replay stops at it. -/
def Card.nextEntry (c : Card) : Card :=
  match c.rcd.feeds with
  | (slot, e :: es, n) :: rest =>
    let frame := BitVec.ofNat 32 (leAt e 4 4)
    if !entryGood e then c.stopReplay 0xC00C frame
    else if leAt e 20 4 / 2 % 2 = 1 then c.stopReplay 0xC00B frame
    else
      let c := { c.commit slot with rcd.feeds := (slot, es, n) :: rest, rcd.entry := some e, rcd.heldTold := false }
      let c := if c.rcd.started then c else { c with rcd.started := true }.record 0xC030 [frame, pN (leAt e 16 4)]
      { c with tim.frame := frame, tim.framePm := leAt e 8 8 }
  | _ => c

/-- The module holds at the boundary: the frame that ran is compared, and event 0xC032 is recorded once for a hold. -/
def Card.holdReplay (c : Card) : Card :=
  let c := { c with hst.acceptedInSlot := 0 }.endReplayFrame
  if c.rcd.heldTold ∨ c.rcd.loadedFrame.isNone then c else { c with rcd.heldTold := true }.record 0xC032 [c.frame]

/-- REC_REPLAY_LOAD. -/
def execRecReplayLoad (d : Desc) (s : State) : Host.Outcome State Fault Refusal := s.on fun c => c.accept rowRecReplayLoad d
/-- REC_REPLAY_FEED. -/
def execRecReplayFeed (d : Desc) (s : State) : Host.Outcome State Fault Refusal := s.on fun c => c.accept rowRecReplayFeed d

end Sys2Proof.Machine
end

