-- ==== Sys2Proof/Machine/Tracker.lean ====
section
/-! DEFINITION. The operation tracker over every block (R44, R48, R312 to R323, R361): the opcode map, fetching, triggers,
withdrawal, aborts, the host-interface reset and DMA errors. -/

namespace Sys2Proof.Machine

/-! ### Abort (R317, R318) -/

/-- Takes a host operation's request out of a chain's queues, and ends an admission that it asked for. -/
def Card.withdrawChain (c : Card) (slot : Nat) : Card :=
  c.each strings fun c s =>
    let c := c.each places fun c p =>
      let x := c.sat s p
      let c := if x.queue.any (fun r => r.owner == .host slot)
        then c.modSat s p fun y => { y with queue := y.queue.filter fun r => r.owner != .host slot } else c
      if x.admitOp = some slot then
        c.modSat s p fun y => { y with admitOp := none, admitting := false, queue := y.queue.filter fun r => r.owner != .assign }
      else c
    let x := c.chain s
    let c := if x.resetOps.contains slot then
        let c := c.modChain s fun y => { y with resetOps := y.resetOps.filter (· ≠ slot) }
        if x.resetOps = [slot] ∧ x.resetCause = some 0 then
          (c.setBit (CHN_STATUS.RESETTING s) false).modChain s fun y => { y with resetCause := none }
        else c
      else c
    if x.censusOps.contains slot then c.modChain s fun y => { y with censusOps := y.censusOps.filter (· ≠ slot) } else c

/-- Takes an EST_COMMIT back: the commits that only it asked for are not made. -/
def Card.withdrawCommit (c : Card) (slot : Nat) : Card :=
  let mine := (c.est.commitOps.filter (·.1 == slot)).flatMap (·.2.1)
  let c := { c with est.commitOps := c.est.commitOps.filter (·.1 != slot) }
  c.each (mine.filter fun k => !c.est.commitOps.any fun o => o.2.1.contains k) fun c k =>
    if k < 10 then c.modEst k fun x => { x with due := x.due.filter (· ≠ 5) }
    else if 20 < k then c.modEst (k - 20) fun x => { x with queued := x.queued.filter (· ≠ 5) }
    else
      let s := k - 10
      let c := c.modEst s fun x => if x.phase = 1 then { x with causes := x.causes.filter (· ≠ 5) } else x
      if (c.estStr s).phase = 1 ∧ (c.estStr s).causes = [] then c.nextCommit s else c

/-- Takes a tone plan back before its first TONE_PLAN. -/
def Card.withdrawPlan (c : Card) (slot : Nat) : Card :=
  c.each strings fun c s =>
    if (c.impStr s).pendOp = some slot then
      (c.modImp s fun x => { x with pend := none, pendOp := none, confPend := [] }).setFld (IMP_STATUS.PLAN_PENDING s) 0
    else c

/-- What an operation before its commit point has left waiting in its block is taken back. -/
def Card.withdraw (c : Card) (slot : Nat) (o : Op) : Card :=
  let d := o.desc
  let c := c.modOp slot fun x => { x with trig := none }
  match o.opcode / 16 with
  | 0x0 => { c with hst.recvs := c.hst.recvs.filter (· ≠ slot) }
  | 0x2 => c.withdrawChain slot
  | 0x3 => if o.opcode = 0x36
      then { c with til.retireDue := c.til.retireDue.filter fun x => ¬(x.1 = c.phys (d.byte 0) ∧ x.2 = 4) } else c
  | 0x4 =>
    if o.opcode = 0x43 then c.withdrawCommit slot
    else if o.opcode = 0x45 ∧ !(c.running.any fun x => x.1 != slot && x.2.opcode == 0x45 && x.2.desc.at 0 2 == d.at 0 2)
    then { c with est.swapDue := c.est.swapDue.filter (· ≠ placeKey (d.byte 0) (d.byte 1)) }
    else c
  | 0x5 => if o.opcode = 0x50 then c.withdrawPlan slot else c
  | 0x6 =>
    if o.opcode = 0x60 ∧ o.phase = 1 ∧ c.cnvState (d.byte 0) = 1 then c.setFld (CNV_STATUS.STATE (d.byte 0)) 0
    else if o.opcode = 0x65 then c.modEng (d.byte 0) fun e => { e with caps := e.caps.filter fun k => k.slot ≠ slot }
    else c
  | 0x7 => if o.opcode = 0x70 then c.withdrawRequest slot else c
  | 0x8 => if o.opcode = 0x83 then c.modSaf (d.byte 0) fun x => { x with drvOp := none, drvDone := [], drvBad := false } else c
  | 0x9 => if o.opcode = 0x92 then c.withdrawSend slot else c
  | 0xA => { c with rcd.feeds := c.rcd.feeds.filter fun x => x.1 ≠ slot }
  | 0xB =>
    if o.opcode = 0xB3 then { c with lan.prepareOp := none, lan.prepareDue := false }.setFld LAN_STATUS.UPD 0
    else if o.opcode = 0xB5 then { c with lan.abortOp := none }
    else if o.opcode = 0xB6 then
      { c with lan.resetOps := c.lan.resetOps.filter fun x => x.1 ≠ slot
               lan.takeoverDue := if d.byte 0 = c.primary then none else c.lan.takeoverDue }
    else if o.opcode = 0xB7 then c.withdrawUpdate slot
    else c
  | _ => c

/-- The RESULT of an abort: the target TAG, and the outcome above it. -/
def abortResult (tag outcome : Nat) : Word := pN (tag + outcome * 2 ^ 18)

/-- HST_ABORT (0x05): it commits at its acceptance. -/
def rowHstAbort : Row where
  opcode := 0x05
  role := 1
  args _ d := hstArgs (d.only [(0, 4)] && decide (d.at 0 4 < 2 ^ 18) && decide (d.at 0 4 ≠ d.tag.toNat % 2 ^ 18))
  start slot c :=
    let t := (c.descOf slot).at 0 4
    let ts := t % 2 ^ 16
    let c := (c.commit slot).jrnFree 0x09
    match c.op ts with
    | none => c.complete slot 5 0xA032 (abortResult t 2)
    | some o =>
      if o.desc.tag.toNat % 2 ^ 18 ≠ t then c.complete slot 5 0xA032 (abortResult t 2)
      else if o.committed ∨ o.produced then (c.markAbortLost ts).complete slot 5 0xA031 (abortResult t 1)
      else ((c.withdraw ts o).complete ts 4 0xA030).done slot (abortResult t 0)

/-- HST_ABORT. -/
def execHstAbort (d : Desc) (s : State) : Host.Outcome State Fault Refusal := s.on fun c => c.accept rowHstAbort d

/-! ### The opcodes (R9, R312) -/

/-- The opcodes of the host interface and of the card. -/
def hostRows : List Row :=
  [rowNop, rowSqCreate, rowCqCreate, rowSqDelete, rowCqDelete, rowHstAbort, rowSqRestart, rowOrphanRead, rowPlantRecv,
   rowPlantSend, rowDlqRead, rowSysDrain, rowSysWarmReset]

/-- The opcodes of the chains, the tiles and the estimator. -/
def cellRows : List Row :=
  [rowChnAdmit, rowChnBalManual, rowChnBalTest, rowChnSatRead, rowChnSatWrite, rowChnReset, rowChnCensus, rowTilKernelLoad,
   rowTilKernelSwitch, rowTilTableLoad, rowTilMemRead, rowTilMemWrite, rowTilTest, rowTilRetire, rowTilUnretire,
   rowEstLearnReset, rowEstLearnWrite, rowEstLearnRead, rowEstCommit, rowEstModelReinit, rowEstSwapDeclare, rowImpPlanLoad,
   rowImpInjCtrl, rowImpHistReset, rowImpSpectrumRead]

/-- The opcodes of the thermal block, the engines, the dispatcher, the fabric and the field side. -/
def powerRows : List Row :=
  [rowThmTempRead, rowThmAoSet, rowCnvStart, rowCnvStop, rowCnvMode, rowCnvSetpoint, rowCnvFfLoad, rowCnvCapture,
   rowDspRequest, rowDspCancel, rowDspReqRead, rowDspAcctRead, rowDspAcctPreset, rowSafClose, rowSafOpen, rowSafTrip,
   rowSafDriverTest, rowSafCoilTest, rowSafFaultClear, rowFioDoWrite, rowFioCosRead, rowCanSend, rowCanRead, rowCanSleep]

/-- The opcodes of the recorder, the lanes and the sessions. -/
def laneRows : List Row :=
  [rowRecRead, rowRecBbRead, rowRecOrigin, rowRecReplayMode, rowRecReplayLoad, rowRecReplayFeed, rowLanStageBegin,
   rowLanParcel, rowLanStageQuery, rowLanUpdatePrepare, rowLanHandover, rowLanUpdateAbort, rowLanLaneReset, rowLanSatUpdate,
   rowLanCfgSave, rowLanCfgChoose, rowLanBootSplit, rowSecChallenge, rowSecRespond, rowSecPassword, rowSecClose,
   rowSecUnlock, rowSecList, rowSecKeySet, rowSecPasswordSet]

/-- What an opcode means; none for an opcode that no chapter defines. -/
def rowOf (opcode : Nat) : Option Row := (hostRows ++ cellRows ++ powerRows ++ laneRows).find? fun r => r.opcode == opcode

/-! ### Fetching and fences (R314 to R316) -/

/-- A held descriptor goes to acceptance. -/
def Card.takeHeld (c : Card) (h : Nat × Desc × Nat) : Card :=
  match rowOf h.1 with
  | some r => c.acceptNow r h.2.1 h.2.2
  | none => (c.jrn 0x06 0 (h.2.1.bytes h.1)).refuse h.1 h.2.1 h.2.2 6 0xA001

/-- A held descriptor is the oldest of its SQ, and no FENCE keeps it any longer. -/
def Card.unfenced (c : Card) (h : Nat × Desc × Nat) : Bool :=
  let q := h.2.1.sq
  c.hst.held.find? (·.2.1.sq == q) == some h
    && !(h.2.1.fence && (c.flights.any (fun x => x.2.desc.sq == q) || c.hst.waiting.any (·.sq == q)))

/-- The held descriptors that may go on are accepted, oldest first; at most `n` of them. -/
def Card.retryHeld (n : Nat) (c : Card) : Card :=
  match n with
  | 0 => c
  | n + 1 =>
    match c.hst.held.find? c.unfenced with
    | none => c
    | some h => Card.retryHeld n ({ c with hst.held := c.hst.held.erase h }.takeHeld h)

/-- The SQ may be fetched from: running, not empty, and its CQ not full. -/
def Card.fetchable (c : Card) (n : Nat) : Bool :=
  let q := c.sq n
  decide (q.state = 1) && decide (q.head ≠ q.tail) && !(c.cq q.cq).isFull

/-- The SQ that fetching serves next: of the highest priority with work, the next in turn. -/
def Card.nextSq (c : Card) : Option Nat :=
  let l := (List.range 64).filter c.fetchable
  [0, 1, 2, 3].findSome? fun p =>
    let own := l.filter fun n => (c.sq n).prio == p
    let from' := c.hst.turn.get (fun _ => 0) p
    (own.find? fun n => decide (from' ≤ n)).or own.head?

/-- Fetches `k` entries of an SQ. -/
def Card.fetchFrom (c : Card) (n k : Nat) : Card :=
  match k with
  | 0 => c
  | k + 1 =>
    let q := c.sq n
    let c := { c with hst.arriving := c.hst.arriving ++ [(n, q.head)], hst.acceptedInSlot := c.hst.acceptedInSlot + 1 }
    Card.fetchFrom (c.setSq n { q with head := (q.head + 1) % 2 ^ q.log2 }) n k

/-- Fetches in turn until the slot's budget of 64 is spent or no SQ has work. -/
def Card.fetchAll (fuel : Nat) (c : Card) : Card :=
  match fuel with
  | 0 => c
  | fuel + 1 =>
    let room := 64 - c.hst.acceptedInSlot
    match c.nextSq with
    | none => c
    | some n =>
      if room = 0 then c
      else
        let q := c.sq n
        let have' := (q.tail + 2 ^ q.log2 - q.head) % 2 ^ q.log2
        let c := c.fetchFrom n (min room (min q.weight have'))
        Card.fetchAll fuel { c with hst.turn := c.hst.turn.set (fun _ => 0) q.prio (n + 1) }

/-- DESCRIPTOR_FETCH (R315). -/
def execDescriptorFetch (s : State) : Host.Outcome State Fault Refusal :=
  s.on fun c =>
    let c := Card.retryHeld c.hst.held.length c
    if c.masters then Card.fetchAll 64 c else c

/-- UNDEFINED_OPCODE (R312 step 1): an arriving descriptor whose opcode no chapter defines. -/
def execUndefinedOpcode (opcode : BitVec 8) (d : Desc) (s : State) : Host.Outcome State Fault Refusal :=
  s.on fun c =>
    match c.hst.arriving.find? (·.1 == d.sq), rowOf opcode.toNat with
    | some a, none =>
      let c := { c with hst.arriving := c.hst.arriving.erase a }
      if c.fenced d then { c with hst.held := c.hst.held ++ [(opcode.toNat, d, a.2)] }
      else c.takeHeld (opcode.toNat, d, a.2)
    | _, _ => c

/-! ### Triggers (R44, R48, R361) -/

/-- A trigger that comes due while UNQUALIFIED is refused (R48). -/
def Card.refuseTrigger (c : Card) (slot : Nat) (o : Op) : Card :=
  if o.opcode = 0x70 then c.dropRequests (c.requests.filter fun x => x.2.slot == some slot) 0xF003
  else c.complete slot 3 0xF003

/-- A pending trigger fires: CFG_HOLD and DRAINING are checked again (R361), and the action takes effect. -/
def Card.fireTrigger (c : Card) (slot : Nat) : Card :=
  match c.op slot with
  | none => c
  | some o =>
    match o.trig, rowOf o.opcode with
    | some t, some r =>
      if o.produced then c
      else if t.kind = 2 ∧ c.unqualified then c.refuseTrigger slot o
      else
        let c := c.modOp slot fun x => { x with trig := none }
        if r.hold && c.holding then c.complete slot 3 0xB0F0
        else if r.drain o.desc && c.draining then c.complete slot 3 0x0003
        else r.fire slot c
    | _, _ => c

/-- The operation's block accepts its action at the present slot. -/
def Op.accepts (o : Op) (n : Nat) : Bool := (rowOf o.opcode).any fun r => r.slots n

/-- TRIGGER_FIRE (R44): a FRAME or POSTMARK trigger is due. -/
def execTriggerFire (slot : Nat) (s : State) : Host.Outcome State Fault Refusal :=
  s.on fun c =>
    match c.op slot with
    | none => c
    | some o =>
      if o.trig.any (fun t => decide (t.kind ≠ 0) && c.trigDue t) && o.accepts c.tim.slot then c.fireTrigger slot else c

/-- At a slot boundary the IMMEDIATE triggers of the blocks that accept work there fire, in submission order (R44). -/
def Card.fireImmediate (c : Card) : Card :=
  let l := c.running.filter fun x => x.2.trig.any (fun t => decide (t.kind = 0)) && x.2.accepts c.tim.slot
  c.each (l.mergeSort fun a b => decide (a.2.order ≤ b.2.order)) fun c x => c.fireTrigger x.1

/-! ### Host-interface reset (R319 to R322) -/

/-- A register of the HST block that the reset returns to its cold value. -/
def hstCleared (off : Nat) : Bool :=
  decide (0xA000 ≤ off ∧ off < 0xB000) && off != HST_PM_CFG && off != HST_DLQ_STAT

/-- What the reset does with an operation in flight: withdrawn, done, or running on. -/
def Card.resetOp (c : Card) (slot : Nat) (o : Op) : Card :=
  let c := c.modOp slot fun x => { x with orphan := true }
  if o.opcode = 0x03 ∧ o.committed then c.done slot
  else if o.committed then c
  else (c.withdraw slot o).complete slot 0x0A 0xA040

/-- A host-interface reset: 0 FLR, 1 hot reset, 2 link down. -/
def Card.hostReset (c : Card) (cause : Nat) : Card :=
  let ops := c.running.mergeSort fun a b => decide (a.2.order ≤ b.2.order)
  let flushed := (ops.filter fun x => !x.2.committed).length
  let on := (ops.filter fun x => x.2.committed && x.2.opcode != 0x03).length
  let waiting := c.hst.waiting
  let c : Card := { c with
    regs := c.regs.filter fun x => !hstCleared x.1
    hst := { c.hst with
      ready := false, busMaster := false, d3 := false, linkUp := c.hst.linkUp && decide (cause ≠ 2), adminActive := false
      turn := [], arriving := [], held := [], waiting := [], vecs := [] } }
  let c := ((c.setReg TIM_NOW_HI 0).setReg TIM_FRAME_PM_HI 0).setReg TIM_FRAME_NUM 0
  let c := c.each waiting fun c p => c.orphan p
  let c := c.each ops fun c x => c.resetOp x.1 x.2
  let c := { c with hst.sqs := [], hst.cqs := [] }
  let c := match c.rcd.origin with
    | some o => c.endOrigin o 3
    | none => c
  ((c.stick HST_STICKY.HOST_RESET).fire 74).record 0xA001 [pN cause, pN flushed, pN on]

/-- HOST_INTERFACE_RESET (R319). -/
def execHostInterfaceReset (cause : Nat) (s : State) : Host.Outcome State Fault Refusal :=
  s.on fun c => if 2 < cause then c else c.hostReset cause

/-! ### DMA read errors (R323) -/

/-- The opcodes whose operations read a host buffer. -/
def readers : List Nat := [0x09, 0x24, 0x30, 0x32, 0x34, 0x41, 0x50, 0x64, 0x92, 0xA4, 0xA5, 0xB0, 0xB1, 0xC1, 0xC2, 0xC6, 0xC7]

/-- DMA_READ_ERROR (R323): of a descriptor fetch of SQ `target`, or of the host buffer of the operation in slot `target`. -/
def execDmaReadError (fetch : Bool) (target : Nat) (s : State) : Host.Outcome State Fault Refusal :=
  s.on fun c =>
    if fetch then
      if !c.hst.arriving.any (·.1 == target) then c
      else
        let first := ((c.hst.arriving.find? (·.1 == target)).map (·.2)).getD 0
        let c := { c with hst.arriving := c.hst.arriving.filter (·.1 != target) }
        let c := c.setSq target { c.sq target with head := first }
        (if (c.sq target).state = 1 then c.sqError target 1 0 else c).stick HST_STICKY.DMA_ERROR
    else
      match c.op target with
      | none => c
      | some o =>
        if o.committed ∨ o.produced ∨ !readers.contains o.opcode then c
        else ((c.withdraw target o).complete target 3 0xA050).stick HST_STICKY.DMA_ERROR

end Sys2Proof.Machine
end

