-- ==== Sys2Proof/Machine/RegWrite.lean ====
section
/-! DEFINITION. Writes of BAR0 registers: byte enables and unassigned offsets (R304), reserved bits (R305), the write lock
(R423), each block's rejections, the write itself with the recurrences of R306, and what a write sets going. -/

namespace Sys2Proof.Machine

/-! ### Values that a field accepts -/

/-- The accepted values of fields that the tables mark, chapters 2 to 8: field (of instance 1 or 0), least and greatest. -/
def rangesLow : List (Fld × Nat × Nat) := [
  (SYS_FEED_CFG.RETURN_T, 1, 3600),
  (TIM_CTRL.DOMAIN, 0, 127), (TIM_HOLDOVER_CFG.ANNOUNCE_TO, 2, 255), (TIM_FRAME_CFG.FRAME_SLEW, 0, 400),
  (TIM_PULSE_CFG.WINDOW, 100, 4000), (TIM_PULSE_CFG.MISS_LIMIT, 1, 15), (TIM_PULSE_CFG.RECOVER, 1, 255),
  (CHN_CTRL.SAT_COUNT 1, 0, 32), (CHN_TIMING.SILENT_LIMIT 1, 1, 15), (CHN_TIMING.RSP_TIMEOUT 1, 1, 15),
  (CHN_TIMING.SAMPLE_OFS 1, 0, 124),
  (TIL_CTRL.TRAP_LIMIT, 1, 3), (TIL_CTRL.CE_LIMIT, 1, 255),
  (EST_PAGE_A_LO.ALIGN, 0, 0), (EST_PAGE_B_LO.ALIGN, 0, 0), (EST_MODEL_CFG.STALE_OPEN, 1, 15),
  (EST_MODEL_CFG.INIT_RUN, 1, 255), (EST_MODEL_CFG.INIT_RESID, 1, 255), (EST_LA_CFG.HORIZON, 10, 900),
  (EST_LA_CFG.VALID_FR, 1, 1023), (EST_LEARN_CFG1.C_MAX, 1, 255), (EST_LEARN_CFG1.REST_I, 1, 255),
  (EST_LEARN_CFG1.REST_T, 1, 255), (EST_LEARN_CFG1.MAX_DUR, 1, 255), (EST_LEARN_CFG2.DSOC_MIN, 1, 255),
  (EST_LEARN_CFG2.STEP_I, 1, 255), (EST_SWAP_CFG.SIG_STEP, 1, 255), (EST_SWAP_CFG.SIG_MIN, 1, 8),
  (EST_BAL_CFG.I_BAL, 100, 3000),
  (IMP_TRK_CFG.TRK_SHIFT, 2, 12), (IMP_TRK_CFG.HIST_SHIFT, 4, 12), (IMP_TRK_CFG.STEP_GATE, 1, 255),
  (IMP_SCORE_CFG.THRESH, 1, 255), (IMP_SCORE_CFG.CONFIRM, 1, 15), (IMP_SCORE_CFG.D_FLOOR, 1, 4095),
  (IMP_PAGE_A_LO.ALIGN, 0, 0), (IMP_PAGE_B_LO.ALIGN, 0, 0),
  (CNV_PHASE_CFG.PHASES 1, 1, 6), (CNV_PHASE_CFG.DEAD 1, 25, 255), (CNV_PHASE_CFG.MIN_PULSE 1, 50, 255),
  (CNV_RATING.RATING 1, 1, 1310), (CNV_RATING.PH_OC 1, 1, 1310), (CNV_BAND_CFG.F_MIN 1, 1, 49),
  (CNV_BAND_CFG.F_MAX 1, 2, 50), (CNV_BAND_CFG.BAND_INIT 1, 2, 255), (CNV_CUR_CFG.TRIM_SHIFT 1, 4, 15),
  (CNV_CUR_CFG.TRIM_MAX 1, 1, 255), (CNV_CUR_CFG.ZCD_THR 1, 1, 15), (CNV_VLOOP_KI.SLEW 1, 1, 16383),
  (CNV_COT_CFG.F_SW 1, 1, 50), (CNV_COT_CFG.L_SYN 1, 1, 65535), (CNV_RAMP.START_RAMP 1, 1, 65535),
  (CNV_RAMP.STOP_RAMP 1, 1, 65535), (CNV_BURST_CFG.BURST_BAND 1, 1, 255), (CNV_OSC_CFG.OSC_AMP_I 1, 1, 255),
  (CNV_OSC_CFG.OSC_AMP_V 1, 1, 255), (CNV_OSC_CFG.OSC_WIN 1, 1, 15), (CNV_OSC_CFG.OSC_CNT 1, 1, 255),
  (CNV_OSC_CFG.OSC_ACT 1, 0, 2)]

/-- The accepted values of fields that the tables mark, chapters 10 to 16. -/
def rangesHigh : List (Fld × Nat × Nat) := [
  (SAF_INPUT_CFG.DISC_T, 10, 1000), (SAF_INPUT_CFG.LH_LIMIT, 2, 15), (SAF_COIL_CFG.T_CLOSE, 10, 150),
  (SAF_COIL_CFG.HOLD_DUTY, 8, 63), (SAF_COIL_CFG.OPEN_DELAY, 0, 50), (SAF_COIL_CFG.OPEN_WAIT, 1, 4095),
  (SAF_SEQ_CFG.PRE_DONE, 1, 255), (SAF_SEQ_CFG.CLOSED_V, 1, 255), (SAF_SEQ_CFG.PRE_MAX, 1, 1023),
  (SAF_SEQ_CFG.I_BREAK, 1, 63), (SAF_WELD_CFG.WELD_V, 1, 255), (SAF_WELD_CFG.T_WELD, 100, 5000),
  (SAF_OC_CFG.OC_CHG 1, 1, 1310), (SAF_OC_CFG.OC_DIS 1, 1, 1310), (SAF_OC_CFG.OC_N 1, 1, 7),
  (THM_GRP_CFG.STEP 0, 1, 15), (THM_GRP_CFG.STEP 1, 1, 15), (THM_GRP_CFG.STEP 2, 1, 15), (THM_GRP_CFG.STEP 3, 1, 15),
  (THM_GRP_CFG.HYST 0, 1, 15), (THM_GRP_CFG.HYST 1, 1, 15), (THM_GRP_CFG.HYST 2, 1, 15), (THM_GRP_CFG.HYST 3, 1, 15),
  (THM_STR_CFG.BAL_ON, 1, 255), (THM_STR_CFG.BAL_OFF, 1, 255), (THM_STR_CFG.CHG_ON, 1, 255),
  (THM_STR_CFG.CHG_PAUSE, 1, 255), (THM_FIELD_MAP.OFFSET 0, 0, 62), (THM_FIELD_MAP.STALE 0, 1, 255),
  (THM_AO_CFG.RANGE 0, 0, 2), (THM_AO_CFG.SAFE 0, 0, 50000),
  (HST_ASQ_BASE_LO.ALIGN, 0, 0), (HST_ACQ_BASE_LO.ALIGN, 0, 0), (HST_ADMIN_SIZE.SQ_LOG2, 6, 12),
  (HST_ADMIN_SIZE.CQ_LOG2, 6, 16), (HST_PM_CFG.PORT, 1, 65535),
  (LAN_CTRL.UPD_PORT, 1, 65535), (LAN_CFG.RESYNC_LIMIT, 1, 15), (LAN_CFG.COMPARE_LIMIT, 1, 15),
  (LAN_CFG.SHADOW_MIN, 100, 65535), (LAN_CFG.SAT_PIECES, 1, 4),
  (REC_CTRL.JNL_EV, 1, 255), (REC_JNL_BASE_LO.ALIGN, 0, 0), (REC_ORG_A_LO.ALIGN, 0, 0), (REC_ORG_B_LO.ALIGN, 0, 0),
  (REC_JNL_SIZE.LOG2, 24, 32),
  (FIO_DO_SAFE.TIMEOUT, 1, 255), (FIO_DI_CFG.FILTER 0, 1, 255),
  (CAN_CTRL.MODE 0, 0, 2), (CAN_CTRL.WAKE_MODE 0, 0, 2), (CAN_CTRL.TX_TO 0, 1, 255),
  (CAN_NBT.NTSEG1 0, 1, 255), (CAN_NBT.NTSEG2 0, 1, 127), (CAN_NBT.NSJW 0, 1, 127),
  (CAN_DBT.DTSEG1 0, 1, 31), (CAN_DBT.DTSEG2 0, 1, 15), (CAN_DBT.DSJW 0, 1, 15),
  (SEC_CFG.IDLE, 1, 255), (SEC_CFG.LIFE, 1, 72), (SEC_CFG.FAIL_LIMIT, 3, 15)]

/-- A field of the word lies outside its accepted values; `base` is the offset of the register's first instance. -/
def outOfRange (base : Nat) (w : Word) : Bool :=
  (rangesLow ++ rangesHigh).any fun r => decide (r.1.off = base) && !within r.2.1 r.2.2 (r.1.of w)

/-! ### Conditions over other fields and states -/

/-- CHN: V_HI would not lie above V_LO (R108). -/
def Card.chnBad (c : Card) (n : Nat) (off : Nat) (w : Word) : Bool :=
  if off = CHN_V_HI n then decide ((CHN_V_HI.V_HI n).of w ≤ c.fld (CHN_V_LO.V_LO n))
  else if off = CHN_V_LO n then decide (c.fld (CHN_V_HI.V_HI n) ≤ (CHN_V_LO.V_LO n).of w)
  else false

/-- CNV: values that depend on each other, a change of PHASES or of a channel's gain and offset outside OFF (R204, R233). -/
def Card.cnvBad (c : Card) (s : Nat) (off : Nat) (w : Word) : Bool :=
  let idle : Bool := decide (c.cnvState s = 0)
  if 0x6500 ≤ off then !idle
  else if off = CNV_PHASE_CFG s then
    !idle && decide ((CNV_PHASE_CFG.PHASES s).of w ≠ c.fld (CNV_PHASE_CFG.PHASES s))
  else if off = CNV_BAND_CFG s then
    decide ((CNV_BAND_CFG.F_MAX s).of w ≤ (CNV_BAND_CFG.F_MIN s).of w)
      || decide ((CNV_BAND_CFG.H_MAX s).of w < (CNV_BAND_CFG.BAND_INIT s).of w)
  else false

/-- DSP: a hold above a nonzero cap, a nonzero cap below the hold, a LEN that does not divide the day (R262). -/
def Card.dspBad (c : Card) (off : Nat) (w : Word) : Bool :=
  let above (cap hold : Nat) : Bool := decide (cap ≠ 0) && decide (cap < hold)
  if off = DSP_MODULE_MAX then
    above (DSP_MODULE_MAX.CHG.of w) (c.fld DSP_RES_HOLD.CHG) || above (DSP_MODULE_MAX.DIS.of w) (c.fld DSP_RES_HOLD.DIS)
  else if off = DSP_RES_HOLD then
    above (c.fld DSP_MODULE_MAX.CHG) (DSP_RES_HOLD.CHG.of w) || above (c.fld DSP_MODULE_MAX.DIS) (DSP_RES_HOLD.DIS.of w)
  else if off = DSP_INTERVAL then !lenOk (DSP_INTERVAL.LEN.of w)
  else false

/-- SAF: SAF_OC_CFG of a string that is not OPEN or LOCKED, the four sequence registers during a sequence, CLOSED_V above
PRE_DONE (R284). -/
def Card.safBad (c : Card) (off : Nat) (w : Word) : Bool :=
  if off = SAF_INPUT_CFG ∨ off = SAF_COIL_CFG ∨ off = SAF_SEQ_CFG ∨ off = SAF_WELD_CFG then
    (strings.any fun s => [1, 2, 3, 5].contains (c.safState s))
      || (decide (off = SAF_SEQ_CFG) && decide (SAF_SEQ_CFG.PRE_DONE.of w < SAF_SEQ_CFG.CLOSED_V.of w))
  else strings.any fun s => decide (off = SAF_OC_CFG s) && decide (c.safState s ≠ 0) && decide (c.safState s ≠ 6)

/-- REC: the ring's place while JNL_EN is 1, HEAD off the grid of 64 or outside the ring (R390). -/
def Card.recBad (c : Card) (off : Nat) (w : Word) : Bool :=
  if off = REC_JNL_BASE_LO ∨ off = REC_JNL_BASE_HI ∨ off = REC_JNL_SIZE then c.bit REC_CTRL.JNL_EN
  else if off = REC_JNL_HEAD then decide (w.toNat % 64 ≠ 0) || decide (2 ^ c.fld REC_JNL_SIZE.LOG2 ≤ w.toNat)
  else false

/-- CAN: the controller of a CAN register, 0 or 1. -/
def canAt (off : Nat) : Nat := if 0xE800 ≤ off then (off - 0xE800) / 0x400 else (off - 0xE100) / 0x100

/-- CAN: timing and mode while EN is 1, jump widths, bit rates outside R402, identifiers and send settings (R413). -/
def Card.canBad (c : Card) (n : Nat) (off : Nat) (w : Word) : Bool :=
  if off = CAN_CTRL n then
    c.bit (CAN_CTRL.EN n)
      && (decide ((CAN_CTRL.MODE n).of w ≠ c.fld (CAN_CTRL.MODE n)) || decide ((CAN_CTRL.FD_EN n).of w ≠ c.fld (CAN_CTRL.FD_EN n)))
  else if off = CAN_NBT n then
    let q := ((CAN_NBT.NBRP n).of w + 1) * (1 + (CAN_NBT.NTSEG1 n).of w + (CAN_NBT.NTSEG2 n).of w)
    c.bit (CAN_CTRL.EN n) || decide ((CAN_NBT.NTSEG2 n).of w < (CAN_NBT.NSJW n).of w) || !Sys2Proof.Machine.within 80 640 q
  else if off = CAN_DBT n then
    let q := ((CAN_DBT.DBRP n).of w + 1) * (1 + (CAN_DBT.DTSEG1 n).of w + (CAN_DBT.DTSEG2 n).of w)
    c.bit (CAN_CTRL.EN n) || decide ((CAN_DBT.DTSEG2 n).of w < (CAN_DBT.DSJW n).of w) || decide (q < 16)
  else if 0xE800 ≤ off then
    let h := (off - 0xE800) % 0x400 / 8
    if off = CAN_HOLE_ID n h then decide ((CAN_HOLE_ID.IDE n h).of w = 0) && decide (2 ^ 11 ≤ (CAN_HOLE_ID.ID n h).of w)
    else c.bit (CAN_HOLE_ID.DIR n h) && decide (2 ^ 18 ≤ (CAN_HOLE_CFG.MASK n h).of w)
  else false

/-- HST: the admin pair's registers while ADMIN_EN is 1, and ADMIN_EN with a base of zero (R334). -/
def Card.hstBad (c : Card) (off : Nat) (w : Word) : Bool :=
  if off = HST_CTRL then
    !c.hst.adminActive && decide (HST_CTRL.ADMIN_EN.of w = 1)
      && (decide (c.fld HST_ASQ_BASE_LO.ADDR_LO = 0 ∧ c.fld HST_ASQ_BASE_HI.ADDR_HI = 0)
        || decide (c.fld HST_ACQ_BASE_LO.ADDR_LO = 0 ∧ c.fld HST_ACQ_BASE_HI.ADDR_HI = 0))
  else c.hst.adminActive && decide (HST_ASQ_BASE_LO ≤ off) && decide (off ≤ HST_ADMIN_SIZE)

/-- A rejection of a block that looks at other fields or states. -/
def Card.crossBad (c : Card) (off : Nat) (w : Word) : Bool :=
  match blockOf off with
  | 2 => c.chnBad ((off - 0x2000) / 0x400 + 1) off w
  | 4 => decide (off = EST_LEARN_CFG0) && decide (signed 8 (EST_LEARN_CFG0.T_HI.of w) ≤ signed 8 (EST_LEARN_CFG0.T_LO.of w))
  | 6 => match stringAt off with
    | some s => c.cnvBad s off w
    | none => false
  | 7 => c.dspBad off w
  | 8 => c.safBad off w
  | 10 => c.hstBad off w
  | 12 => c.recBad off w
  | 13 => decide (off = FIO_DO_SAFE) && (List.range 8).any fun i => FIO_DO_SAFE.ACTION.of w / 4 ^ i % 4 == 3
  | 14 => if 0xE100 ≤ off ∧ ¬(0xE300 ≤ off ∧ off < 0xE800) then c.canBad (canAt off) off w else false
  | _ => false

/-- The REJECT flag of a register's block, string, chain or controller. -/
def rejectFlag (off : Nat) : Fld :=
  match blockOf off with
  | 0 => SYS_STICKY.REJECT
  | 1 => TIM_STATUS.CFG_REJECT
  | 2 => CHN_STICKY.REJECT ((off - 0x2000) / 0x400 + 1)
  | 3 => TIL_STICKY.REJECT
  | 4 => EST_STICKY.REJECT
  | 5 => IMP_STICKY.REJECT
  | 6 => CNV_STICKY.REJECT ((stringAt off).getD 1)
  | 7 => DSP_STICKY.REJECT
  | 8 => SAF_STICKY.REJECT
  | 9 => THM_STICKY.REJECT
  | 10 => HST_STICKY.REJECT
  | 11 => LAN_STICKY.REJECT
  | 12 => REC_STICKY.REJECT
  | 13 => FIO_STICKY.REJECT
  | 14 => CAN_STICKY.REJECT (canAt off)
  | _ => SEC_STICKY.REJECT

/-! ### What a write sets going -/

/-- Writing 1 to a counter clear clears what it names. -/
def Card.clearCounters (c : Card) (off : Nat) (w : Word) : Card :=
  let a := w.getLsbD 0
  let b := w.getLsbD 1
  if off = SYS_CNT_CLR then c.when a (·.setReg SYS_CNT 0)
  else if off = TIM_CNT_CLR then
    let c := c.when a fun c => (c.setFld TIM_PULSE_STAT.MISSED 0).setFld TIM_PULSE_STAT.SPURIOUS 0
    let c := c.when b (·.setReg TIM_OVERRUN_CNT 0)
    c.when (w.getLsbD 2) fun c => (c.setFld TIM_TSQ_STAT.LOST 0).setFld TIM_TRIG_STAT.LATE 0
  else if blockOf off = 2 then
    let n := (off - 0x2000) / 0x400 + 1
    c.when (a && decide (off = CHN_CNT_CLR n)) (·.setReg (CHN_ERR_CNT n) 0)
  else if off = TIL_CNT_CLR then (c.when a (·.setReg TIL_TRAP_CNT 0)).when b (·.setReg TIL_ECC_CNT 0)
  else if off = TIL_SAT_CLR then c.when a fun c => (c.setReg TIL_SAT_FRAMES_12 0).setReg TIL_SAT_FRAMES_34 0
  else if off = EST_CNT_CLR then c.when a fun c => c.each strings fun c n => c.setReg (EST_LEARN_CNT n) 0
  else if off = IMP_CNT_CLR then c.when a fun c => (c.setReg IMP_GATE_CNT12 0).setReg IMP_GATE_CNT34 0
  else if off = CNV_CNT_CLR then c.when a fun c => c.each strings fun c n => c.setReg (CNV_REG_CNT n) 0
  else if off = DSP_CNT_CLR then c.when a (·.setReg DSP_OUTCOME_CNT 0)
  else if off = SAF_CNT_CLR then
    (c.when a (·.setReg SAF_TEST_CNT 0)).when b fun c => c.each strings fun c n => c.setReg (SAF_OPEN_CNT n) 0
  else if off = HST_CNT_CLR then
    (c.when a (·.setFld HST_DLQ_STAT.LOST 0)).when b fun c => c.each [0, 1, 2, 3] fun c k => c.setReg (HST_RECUR k) 0
  else if off = LAN_CNT_CLR then c.when a (·.setReg LAN_CNT 0)
  else if off = REC_CNT_CLR then
    let c := c.when a fun c => (c.each [0, 1, 2, 3] fun c j => c.setReg (REC_DROP j) 0).setFld REC_MIRROR_STAT.DROP 0
    c.when b (·.setReg REC_JNL_SKIP 0)
  else if off = FIO_CNT_CLR then c.when a (·.setFld FIO_COS_STAT.LOST 0)
  else if off = SEC_CNT_CLR then c.when a (·.setReg SEC_CNT 0)
  else if blockOf off = 14 then c.each [0, 1] fun c n => c.when (a && decide (off = CAN_CNT_CLR n)) (·.setReg (CAN_CNT n) 0)
  else c

/-- TIM_CTRL: a write of PORT_PREF re-evaluates the active port with cause 3 (R29); clearing PTP_EN falls back as if the
grandmaster had vanished (R32). -/
def Card.afterTimCtrl (c : Card) (old : Word) : Card :=
  let c := if TIM_CTRL.PORT_PREF.of old ≠ c.fld TIM_CTRL.PORT_PREF then c.choosePort 3 else c
  if TIM_CTRL.PTP_EN.of old = 1 ∧ c.fld TIM_CTRL.PTP_EN = 0 then
    let c := c.each [0, 1] fun c p => c.setPort p { c.port p with ann := none }
    let c := c.loseGrandmaster 0
    { c with tim.moveDue := none }
  else c

/-- THM_AO_CFGn: the safe-state table is due, and a change of RANGE to another range than OFF starts the sequence anew
(R295, R296, R399). -/
def Card.afterAoCfg (c : Card) (n : Nat) (old : Word) : Card :=
  let c := { c with fio.tableDue := true }
  let range := c.fld (THM_AO_CFG.RANGE n)
  if range = (THM_AO_CFG.RANGE n).of old ∨ range = 0 then c
  else c.modAo n fun x => { x with change := some c.frame, phase := 0, safeMet := false }

/-- CAN_CTRLn: a change of EN enables the controller, which integrates, or disables it (R402, R407). -/
def Card.afterCanCtrl (c : Card) (n : Nat) (old : Word) : Card :=
  let on := c.bit (CAN_CTRL.EN n)
  if (CAN_CTRL.EN n).of old = c.fld (CAN_CTRL.EN n) then c
  else ((c.setFld (CAN_STATUS.STATE n) (if on then 1 else 0)).setFld (CAN_STATUS.TEC n) 0).setFld (CAN_STATUS.REC n) 0

/-- ADMIN_EN written 1 activates the admin pair from its registers; SQ 0 runs at priority 0 with weight 16 (R307). -/
def Card.activateAdmin (c : Card) : Card :=
  let asq := c.fld HST_ASQ_BASE_LO.ADDR_LO * 4096 + c.fld HST_ASQ_BASE_HI.ADDR_HI * 2 ^ 32
  let acq := c.fld HST_ACQ_BASE_LO.ADDR_LO * 4096 + c.fld HST_ACQ_BASE_HI.ADDR_HI * 2 ^ 32
  let c := { c with hst.adminActive := true }
  (c.setSq 0 { state := 1, cq := 0, prio := 0, weight := 16, log2 := c.fld HST_ADMIN_SIZE.SQ_LOG2, base := asq }).setCq
    0 { present := true, base := acq, log2 := c.fld HST_ADMIN_SIZE.CQ_LOG2, phase := true }

/-- CAN_WIN_STAT: clearing a flag clears it in the hole shown (R405). -/
def Card.clearHole (c : Card) (w : Word) : Card :=
  let k := c.fld CAN_WIN_SEL.SEL
  (c.modHole (k / 128) (k % 128) fun x =>
    { x with fresh := x.fresh && !w.getLsbD 0, lost := x.lost && !w.getLsbD 1 }).showHole

/-- What a write that took effect sets going: `old` is the register's word before, `w` the word written. -/
def Card.afterWrite (c : Card) (off : Nat) (old w : Word) : Card :=
  let c := c.clearCounters off w
  if off = TIM_CTRL then c.afterTimCtrl old
  else if off = HST_CTRL then
    if !c.hst.adminActive && c.bit HST_CTRL.ADMIN_EN then c.activateAdmin else c
  else if off = CNV_SD_CFG then c.each strings fun c s =>
    if (CNV_SD_CFG.CLK_EN s).of old = 1 ∧ c.fld (CNV_SD_CFG.CLK_EN s) = 0
    then c.each (List.range 9) fun c j => if (c.eng s).lost.testBit j then c else c.loseChannel (9 * (s - 1) + j) else c
  else if 0x90A0 ≤ off ∧ off < 0x90B0 then c.afterAoCfg ((off - 0x90A0) / 4) old
  else if off = FIO_DO_SAFE then { c with fio.tableDue := true }
  else if off = CAN_CTRL 0 then c.afterCanCtrl 0 old
  else if off = CAN_CTRL 1 then c.afterCanCtrl 1 old
  else if off = CAN_WIN_SEL then c.showHole
  else if off = CAN_WIN_STAT then c.clearHole w
  else c.each strings fun c n => if off = CHN_CTRL n ∧ (CHN_CTRL.RESET n).of w = 1 then c.requestChainReset n 0 else c

/-! ### The write -/

/-- The register write lock applies: no session holds the unlock, and the register lies outside the HST block (R423). -/
def Card.locked (c : Card) (off : Nat) : Bool := decide (blockOf off ≠ 10) && c.sec.unlock.isNone

/-- A locked write that would change an RW field: LOCKED_WRITE and event 0xF013 (R423). -/
def Card.lockCheck (c : Card) (r : RegClass) (off : Nat) (w : Word) : Card :=
  if c.locked off && ((c.reg off ^^^ w) &&& BitVec.ofNat 32 r.rw != 0) then
    ((c.stick SEC_STICKY.LOCKED_WRITE).count SEC_CNT.LOCKED_WRITE).record 0xF013 [pN off, w]
  else c

/-- W1C bits: a written 1 clears, and the bits `same` that the hardware sets in the same cycle read 1. A cleared bit that
is also set recurs and fires the block's summary source; a firing source of HST_EV_PEND fires as itself (R306). -/
def Card.clearBits (c : Card) (r : RegClass) (off : Nat) (w same : Word) : Card :=
  let m := BitVec.ofNat 32 r.w1c
  let c := c.setReg off ((c.reg off &&& ~~~(w &&& m)) ||| (same &&& m))
  let c := c.each (bitsOf (w &&& same &&& m)) fun c b => c.recur off b
  if HST_EV_PEND 0 ≤ off ∧ off < HST_EV_PEND 16 then
    c.each (bitsOf same) fun c b => c.fire (32 * ((off - HST_EV_PEND 0) / 4) + b)
  else if (w &&& same &&& m) = 0 then c
  else c.fire (64 + blockOf off)

/-- A write that no check refused: fields under their access codes, the audit record of a write that the unlock lets
through, and what it sets going (R5, R423, R424). -/
def Card.applyWrite (c : Card) (r : RegClass) (off : Nat) (w same : Word) : Card :=
  let old := c.reg off
  let free := !c.locked off && !(decide (off = HST_CTRL) && c.hst.adminActive)
  let m := if free then BitVec.ofNat 32 r.rw else 0
  let c := (c.jrnFree 0x06).setReg off ((old &&& ~~~m) ||| (w &&& m))
  let c := c.clearBits r off w same
  let c := match c.sec.unlock with
    | some id => if blockOf off = 10 ∨ r.rw = 0 then c
      else c.record 0xF011 [pN id.toNat, pN (c.roleOf id), pN off, w]
    | none => c
  c.afterWrite off old w

/-- A write of a BAR0 word: `be` are its byte enables, `same` the W1C bits that the hardware sets in its cycle. The checks
run in the order of R305. -/
def Card.busWrite (c : Card) (off : Nat) (w : Word) (be : BitVec 4) (same : Word) : Card :=
  match Sys2Proof.Machine.classOf off with
  | none => c.stick HST_STICKY.UNMAPPED
  | some r =>
    if be ≠ 0xF then c.stick HST_STICKY.PARTIAL_WRITE
    else if w &&& ~~~BitVec.ofNat 32 (r.rw ||| r.w1c ||| r.wo ||| r.ro) ≠ 0 then
      ((c.stick HST_STICKY.RSVD_WRITE).setFld HST_RSVD_ADDR.OFFSET off).record 0xA010 [pN off, w]
    else if !c.locked off && (outOfRange r.base w || c.crossBad off w) then c.stick (rejectFlag off)
    else (c.lockCheck r off w).applyWrite r off w same

/-- A whole write of a register, with no hardware set in its cycle. -/
def Card.put (c : Card) (off : Nat) (w : Word) : Card := c.busWrite off w 0xF 0

/-! ### The commands -/

/-- REGISTER_WRITE (R304 to R306, R423). -/
def execRegisterWrite (off : Nat) (value : BitVec 32) (be : BitVec 4) (same : BitVec 32) (s : State) :
    Host.Outcome State Fault Refusal := s.on fun c => c.busWrite off value be same

/-- ADMIN_EN (R307): the write of 1. -/
def execAdminEn (s : State) : Host.Outcome State Fault Refusal := s.on fun c => c.put HST_CTRL 1

/-- HST_EV_PEND_CLEAR: `same` are the sources of the word that fire in the same cycle; the set wins (R306). -/
def execHstEvPendClear (word : Nat) (value : BitVec 32) (same : BitVec 32) (s : State) :
    Host.Outcome State Fault Refusal :=
  s.on fun c => if 16 ≤ word then c else c.busWrite (HST_EV_PEND word) value 0xF same

/-- PORT_PREF_WRITE (R29): a write of TIM_CTRL. -/
def execPortPrefWrite (value : BitVec 32) (s : State) : Host.Outcome State Fault Refusal := s.on fun c => c.put TIM_CTRL value

/-- PTP_EN_WRITE (R32): a write of TIM_CTRL. -/
def execPtpEnWrite (value : BitVec 32) (s : State) : Host.Outcome State Fault Refusal := s.on fun c => c.put TIM_CTRL value

/-- CHN_CTRL_RESET (R104): a write of CHN_CTRL with RESET 1. -/
def execChnCtrlReset (chain : Nat) (value : BitVec 32) (s : State) : Host.Outcome State Fault Refusal :=
  s.on fun c => if chain = 0 ∨ 4 < chain then c else c.put (CHN_CTRL chain) (value ||| 8)

/-- SENSE_CFG_WRITE (R204): a write of CNV_SENSE_GAIN or CNV_SENSE_OFS of a channel. -/
def execSenseCfgWrite (channel : Nat) (ofs : Bool) (value : BitVec 32) (s : State) : Host.Outcome State Fault Refusal :=
  s.on fun c => if 36 ≤ channel then c else c.put (if ofs then CNV_SENSE_OFS channel else CNV_SENSE_GAIN channel) value

/-- INTERVAL_LEN_WRITE (R257): a write of DSP_INTERVAL; the new grid takes effect at the close of the open interval. -/
def execIntervalLenWrite (value : BitVec 32) (s : State) : Host.Outcome State Fault Refusal :=
  s.on fun c => c.put DSP_INTERVAL value

/-- AO_RANGE_WRITE (R296): a write of THM_AO_CFGn. -/
def execAoRangeWrite (output : Nat) (value : BitVec 32) (s : State) : Host.Outcome State Fault Refusal :=
  s.on fun c => if 4 ≤ output then c else c.put (THM_AO_CFG output) value

/-- AO_SAFE_WRITE (R295): a write of THM_AO_CFGn. -/
def execAoSafeWrite (output : Nat) (value : BitVec 32) (s : State) : Host.Outcome State Fault Refusal :=
  s.on fun c => if 4 ≤ output then c else c.put (THM_AO_CFG output) value

/-- CAN_EN_WRITE (R407): a write of CAN_CTRLn. -/
def execCanEnWrite (ctl : Nat) (value : BitVec 32) (s : State) : Host.Outcome State Fault Refusal :=
  s.on fun c => if 2 ≤ ctl then c else c.put (CAN_CTRL ctl) value

/-- REC_JNL_HEAD_WRITE (R379). -/
def execRecJnlHeadWrite (value : BitVec 32) (s : State) : Host.Outcome State Fault Refusal := s.on fun c => c.put REC_JNL_HEAD value

/-! ### Counter clears -/

/-- TIM_CNT_CLR.PULSE_CNT (R40). -/
def execPulseCnt (s : State) : Host.Outcome State Fault Refusal := s.on fun c => c.put TIM_CNT_CLR 1
/-- TIM_CNT_CLR.OVR_CNT (R37). -/
def execOvrCnt (s : State) : Host.Outcome State Fault Refusal := s.on fun c => c.put TIM_CNT_CLR 2
/-- TIM_CNT_CLR.TSQ_CNT (R34). -/
def execTsqCnt (s : State) : Host.Outcome State Fault Refusal := s.on fun c => c.put TIM_CNT_CLR 4
/-- TIL_SAT_CLR.FRAMES (R65). -/
def execTilSatClrFrames (s : State) : Host.Outcome State Fault Refusal := s.on fun c => c.put TIL_SAT_CLR 1
/-- CHN_CNT_CLR.ERR (R74). -/
def execChnCntClrErr (chain : Nat) (s : State) : Host.Outcome State Fault Refusal :=
  s.on fun c => if chain = 0 ∨ 4 < chain then c else c.put (CHN_CNT_CLR chain) 1
/-- TIL_CNT_CLR.TRAP (R120). -/
def execTilCntClrTrap (s : State) : Host.Outcome State Fault Refusal := s.on fun c => c.put TIL_CNT_CLR 1
/-- TIL_CNT_CLR.ECC (R112). -/
def execTilCntClrEcc (s : State) : Host.Outcome State Fault Refusal := s.on fun c => c.put TIL_CNT_CLR 2
/-- EST_CNT_CLR.LEARN (R155). -/
def execEstCntClrLearn (s : State) : Host.Outcome State Fault Refusal := s.on fun c => c.put EST_CNT_CLR 1
/-- IMP_CNT_CLR.GATE (R181). -/
def execImpCntClrGate (s : State) : Host.Outcome State Fault Refusal := s.on fun c => c.put IMP_CNT_CLR 1
/-- CNV_CNT_CLR.REG (R209). -/
def execCnvCntClrReg (s : State) : Host.Outcome State Fault Refusal := s.on fun c => c.put CNV_CNT_CLR 1
/-- DSP_CNT_CLR.OUTCOME (R246). -/
def execDspCntClrOutcome (s : State) : Host.Outcome State Fault Refusal := s.on fun c => c.put DSP_CNT_CLR 1
/-- SAF_CNT_CLR.TEST (R278). -/
def execSafCntClrTest (s : State) : Host.Outcome State Fault Refusal := s.on fun c => c.put SAF_CNT_CLR 1
/-- SAF_CNT_CLR.OPEN (R265). -/
def execSafCntClrOpen (s : State) : Host.Outcome State Fault Refusal := s.on fun c => c.put SAF_CNT_CLR 2
/-- HST_CNT_CLR.DLQ (R330). -/
def execHstCntClrDlq (s : State) : Host.Outcome State Fault Refusal := s.on fun c => c.put HST_CNT_CLR 1
/-- HST_CNT_CLR.RECUR (R306). -/
def execHstCntClrRecur (s : State) : Host.Outcome State Fault Refusal := s.on fun c => c.put HST_CNT_CLR 2
/-- LAN_CNT_CLR.CNT (R336). -/
def execLanCntClrCnt (s : State) : Host.Outcome State Fault Refusal := s.on fun c => c.put LAN_CNT_CLR 1
/-- REC_CNT_CLR.DROP (R370). -/
def execRecCntClrDrop (s : State) : Host.Outcome State Fault Refusal := s.on fun c => c.put REC_CNT_CLR 1
/-- REC_CNT_CLR.SKIP (R379). -/
def execRecCntClrSkip (s : State) : Host.Outcome State Fault Refusal := s.on fun c => c.put REC_CNT_CLR 2
/-- FIO_CNT_CLR.COS (R395). -/
def execFioCntClrCos (s : State) : Host.Outcome State Fault Refusal := s.on fun c => c.put FIO_CNT_CLR 1
/-- CAN_CNT_CLR.CNT (R403). -/
def execCanCntClrCnt (ctl : Nat) (s : State) : Host.Outcome State Fault Refusal :=
  s.on fun c => if 2 ≤ ctl then c else c.put (CAN_CNT_CLR ctl) 1
/-- SEC_CNT_CLR.CNT (R419). -/
def execSecCntClrCnt (s : State) : Host.Outcome State Fault Refusal := s.on fun c => c.put SEC_CNT_CLR 1
/-- SYS_CNT_CLR.CNT (R450): clears SYS_CNT, its MRAM copy included. -/
def execSysCntClrCnt (s : State) : Host.Outcome State Fault Refusal := s.on fun c => c.put SYS_CNT_CLR 1

end Sys2Proof.Machine
end

