-- ==== Sys2Proof/Machine/Boundary.lean ====
section
/-! DEFINITION. The frame tick: slot and frame boundaries with the work that each slot ends and begins (R35 to R38), and a
step of plant time (R30, R47). -/

namespace Sys2Proof.Machine

/-! ### Overruns (R37, R38) -/

/-- A slot's work was cut at its deadline: counted, recorded, and written into the frame's journal entry. -/
def Card.overrun (c : Card) (counter : Fld) (slot : Nat) : Card :=
  (((c.count counter).stick TIM_STATUS.OVERRUN).record 0x1010 [c.frame, pN slot]).jrnFree 0x09

/-- Publication that slot 7 left undone is put off to the next frame's slot 7. -/
def Card.holdPages (c : Card) : Card :=
  let c := if c.stateDue then
      { c with est.pageAt := some c.frame, est.pageHeld := c.statePage (nextSeq (c.fld EST_PAGE_SEQ.SEQ)) }
    else c
  if c.impDue then
    let c := c.impPageWork
    if c.bit IMP_CTRL.PAGE_EN then { c with imp.pageHeld := c.impPage (nextSeq (c.fld IMP_PAGE_SEQ.SEQ)) } else c
  else c

/-! ### The slots' own work -/

/-- Work of every slot boundary: field inputs, voltage targets, trips, drains. -/
def Card.everySlot (c : Card) : Card :=
  let c := { c with hst.acceptedInSlot := 0 }
  c.fioSlot.cnvSlot.safSlot.drainSlot

/-- A replay has yet to start the tiles of the string: it does so in frame S + s (R385). -/
def Card.replayEarly (c : Card) (s : Nat) : Bool :=
  match c.rcd.loadedFrame with
  | some f => decide (framesSince c.frame f < s)
  | none => false

/-- The tiles of strings that a replay has yet to start stay idle. -/
def Card.idleEarly (c : Card) : Card :=
  c.each (strings.filter c.replayEarly) fun c s => c.each (tilesOf s) fun c t =>
    c.modTile (c.phys t) fun y => { y with run := 0 }

/-- The limit sets of those strings are taken from the entry's LIMITS section (R385). -/
def Card.limitsFromEntry (c : Card) : Card :=
  match c.rcd.entry with
  | none => c
  | some e =>
    let body := (findSection (leAt e 28 4) 0x0A (e.drop 64)).getD []
    c.each (strings.filter c.replayEarly) fun c s =>
      let at' (i : Nat) : Nat := leAt body (80 * (s - 1) + 4 * i) 4
      let v := (List.range 16).map fun i => signed 32 (at' i)
      let fresh := at' 18 % 2 = 1
      let c := c.modEst s fun x =>
        { x with chans := v, powers := powersOf v, laChg := at' 16, laDis := at' 17
                 everFresh := x.everFresh || fresh, missed := if fresh then 0 else x.missed }
      (c.setBit ⟨TIL_FRESH, s - 1, 1⟩ fresh).setFld (EST_STATUS.LA_VALID s) (at' 18 / 2 % 2)

/-- TEMP_POLL's channel masks, on each chain that can carry it (R287). -/
def Card.pollTemps (c : Card) : Card :=
  c.each strings fun c s =>
    if c.bit (CHN_CTRL.EN s) && !c.bit (CHN_STATUS.RESETTING s)
        && (c.bit (CHN_STATUS.HEAD_LINK s) || c.bit (CHN_STATUS.TAIL_LINK s))
    then c.modChain s fun x => { x with pollMask := c.pollMasks s } else c.modChain s fun x => { x with pollMask := [] }

/-- The slot 3 boundary: the upload closes, tables and currents are taken over, the array starts, the chains send requests. -/
def Card.enterSlot3 (c : Card) : Card :=
  let c := (c.each strings fun c s => c.closeUpload s).safSlot3
  let c := c.startTiles.idleEarly.estSlot3
  let c := c.each strings fun c s => c.takeCurrent s
  let c := c.impSlot3.pollTemps
  c.each strings fun c s => (c.serveUpdate s).pumpRequests s

/-- The end of slot 5: the kernels have run, and what still runs is cut. -/
def Card.leaveSlot5 (c : Card) (overrun : Bool) : Card :=
  let c := c.runKernels overrun
  let c := c.endTiles
  if overrun || decide (c.fld TIL_FRESH.CUT ≠ 0) then c.overrun TIM_OVERRUN_CNT.TILE 5 else c

/-- The slot 6 boundary: limits are latched, temperatures evaluated, requests decided; the tiles mirror their sections. -/
def Card.enterSlot6 (c : Card) : Card :=
  let c := c.estSlot6.limitsFromEntry.cnvSlot6.thmSlot6
  let c := (if c.laneRuns then c.dspSlot6 else c).impSlot6.mirrorTiles
  c.each strings fun c s => c.pumpRequests s

/-- The slot 7 boundary: setpoints, unless slot 6 overran, and what is read or written there. -/
def Card.enterSlot7 (c : Card) (overrun : Bool) : Card :=
  let c := if overrun then c else c.cnvSlot7
  let c := c.dspSlot7.estSlot7.impSlot7.thmSlot7.laneSlot7.tileAccess.originSlot7
  c.lastGaspMove

/-- The work that ends with slot `n`. -/
def Card.leaveSlot (c : Card) (n : Nat) (overrun : Bool) : Card :=
  match n with
  | 2 => if overrun then c.overrun TIM_OVERRUN_CNT.UPLOAD 2 else c
  | 5 => c.leaveSlot5 overrun
  | 6 => if overrun then c.overrun TIM_OVERRUN_CNT.CONTROL 6 else c.laneSlot6
  | _ => c

/-- The work that slot `n` begins with. -/
def Card.enterSlot (c : Card) (n : Nat) (overrun : Bool) : Card :=
  match n with
  | 1 => c.pulseWindow
  | 3 => c.enterSlot3
  | 6 => c.enterSlot6
  | 7 => c.enterSlot7 overrun
  | _ => c

/-- SLOT_BOUNDARY (R37): one of slots 0 to 6 ends and the next begins; `overrun` says that the ending slot's work was not
complete at its deadline. -/
def execSlotBoundary (overrun : Bool) (s : State) : Host.Outcome State Fault Refusal :=
  s.on fun c =>
    let n := c.tim.slot
    if 7 ≤ n then c
    else
      let c := (c.advance (125000 - c.tim.elapsed)).leaveSlot n overrun
      let c := { c with tim.slot := n + 1, tim.elapsed := 0 }
      (c.everySlot.enterSlot (n + 1) overrun).fireImmediate

/-! ### The frame boundary (R35, R36) -/

/-- The length of this frame's slot 7: while TIME_STATE is LOCKED it closes the phase error of the frame's start by at most
FRAME_SLEW; otherwise it follows the pulse's correction (R35, R43). -/
def Card.slot7Length (c : Card) : Nat :=
  let slew : Int := c.fld TIM_FRAME_CFG.FRAME_SLEW
  let phase : Int := (c.tim.framePm + 500000) % 1000000 - 500000
  (125000 + if c.fld TIM_STATUS.TIME_STATE = 1 then clampInt (-slew) slew (-phase) else c.tim.corr).toNat

/-- The journal entry of the frame that ends: the limit sets, and the primary lane's digest (R377, R378). -/
def Card.endEntry (c : Card) : Card :=
  let c := (c.jrn 0x0A 0 (strings.flatMap c.limitBytes)).endReplayFrame
  let (n, c) := c.digestDraw
  c.closeEntry (c.primaryDigest n)

/-- The frame counter advances (R36); in a replay it and the postmark are the entry's (R385). -/
def Card.nextFrame (c : Card) : Card :=
  let c := { c with
    tim.slot := 0, tim.elapsed := 0, tim.corr := c.tim.corrNext, tim.corrNext := 0
    tim.gotCur := c.tim.gotNext, tim.gotNext := false, rcd.digest := none }
  let last := c.frame
  let c := if c.rcd.loadedFrame.isSome then c.nextEntry else c
  let c := if c.rcd.entry.isSome then { c with tim.now := c.tim.framePm * 2 ^ 32 }
    else { c with tim.frame := c.frame + 1, tim.framePm := c.pm }
  if c.frame = 0 ∧ last ≠ 0 then c.record 0x1031 (pLoHi c.pm) else c

/-- The input and die power that SYS_POWER measures. -/
def Card.measurePower (c : Card) : Card :=
  let (n, c) := c.draw
  (c.setFld SYS_POWER.CARD ((Config.freeValue n).toNat % 2 ^ 16)).setFld SYS_POWER.DIE ((Config.freeValue n).toNat / 2 ^ 16 % 2 ^ 16)

/-- The blocks' work at a frame boundary. -/
def Card.beginFrame (c : Card) (sensors : List Sensor) (ecc : List EccEvent) : Card :=
  let c := { c with hst.dlqInFrame := 0, hst.dbNoRingInFrame := false }
  let c := c.dropSummary.coldBoot
  let c := c.each ecc fun c e =>
    if e.recorder then c.recorderEcc e.unit e.uncorrectable else c.scrub e.unit e.addr e.uncorrectable
  let c := c.endTests.restoreTiles.thmFrame sensors
  let c := c.each strings fun c s => c.chainFrame s
  c.cnvFrame.acctFrame.estFrame.impFrame.fioFrame.canFrame.debugFrame.measurePower

/-- FRAME_BOUNDARY (R35): slot 7 ends and a frame begins, with the on-card sensors' readings and the errors that the
scrubbers met. A replay without an entry holds here (R385). -/
def execFrameBoundary (overrun : Bool) (sensors : List Sensor) (ecc : List EccEvent) (s : State) :
    Host.Outcome State Fault Refusal :=
  s.on fun c =>
    if c.tim.slot ≠ 7 then c
    else if c.replayHolds then c.holdReplay
    else
      let c := c.advance (c.slot7Length - c.tim.elapsed)
      let c := if overrun then (c.overrun TIM_OVERRUN_CNT.PUBLISH 7).holdPages else c
      let c := c.endEntry.laneFrame.nextFrame
      ((c.beginFrame sensors ecc).everySlot).fireImmediate

/-! ### A step of plant time (R30, R47, R256) -/

/-- A forward step from `old` has passed this trigger (R47). -/
def Card.passes (c : Card) (old : Nat) (t : Trig) : Bool :=
  decide (t.kind = 2 ∧ old < t.at' ∧ t.at' ≤ c.pm) && !t.late

/-- A trigger that a step has passed counts as late: event 0x1030 (R47). -/
def Card.lateTrigger (c : Card) (t : Trig) : Card :=
  ((c.count TIM_TRIG_STAT.LATE).stick TIM_STATUS.LATE_TRIGGER).record 0x1030 [c.frame, pN (c.pm - t.at')]

/-- The POSTMARK triggers that a forward step has passed fire late, the operations' and those of plant requests. -/
def Card.passTriggers (c : Card) (old : Nat) : Card :=
  let c := c.each c.running fun c x =>
    match x.2.trig with
    | some t => if c.passes old t
        then (c.modOp x.1 fun o => { o with trig := some { t with late := true } }).lateTrigger t else c
    | none => c
  c.each (c.dsp.entries.filterMap fun x => x.2) fun c r =>
    if r.state = 1 ∧ r.slot.isNone ∧ c.passes old r.trig then c.lateTrigger r.trig else c

/-- PLANT_TIME_STEP (R30, R31): at the slot 7 boundary after a step decision. -/
def execPlantTimeStep (s : State) : Host.Outcome State Fault Refusal :=
  s.on fun c =>
    match c.tim.stepDue with
    | none => c
    | some d =>
      if c.tim.slot ≠ 7 then c
      else
        let old := c.pm
        let c := { c with tim.now := ((c.tim.now : Int) + d * 2 ^ 32).toNat, tim.stepDue := none }
        let c := ((c.jrnTime 3 d).stick TIM_STATUS.STEP_SEEN).record 0x1004 (pLoHi (code 64 d))
        (c.passTriggers old).acctStep (decide (d < 0))

/-! ### Between commands -/

/-- A cycle of the 250 MHz reference with no command: the timed edges of the gates come due (R200, R210), time goes on (R30),
and the recorder takes one record from the intake (R369). -/
def idle (s : State) : Host.Outcome State Fault Refusal :=
  s.on fun c => (c.each strings fun c n => c.gateTick n).cycle.recordStore false

end Sys2Proof.Machine
end

