-- ==== Sys2Proof/Machine/Dispatch.lean ====
section
/-! DEFINITION. The meaning of every command: one arm per constructor, one direct call of a meaning each. -/

namespace Sys2Proof.Machine

/-- The effect of a command on everything but the queue. -/
def exec (i : Instr) (s : State) : Host.Outcome State Fault Refusal :=
  match i with
  | .coldReset pins failed => Sys2Proof.Machine.execColdReset pins failed s
  | .cardSeated pins failed => Sys2Proof.Machine.execCardSeated pins failed s
  | .bootCntClear => Sys2Proof.Machine.execBootCntClear s
  | .warmRestartComplete lane => Sys2Proof.Machine.execWarmRestartComplete lane s
  | .hostReady => Sys2Proof.Machine.execHostReady s
  | .resetButton => Sys2Proof.Machine.execResetButton s
  | .feedLost feed volts bank => Sys2Proof.Machine.execFeedLost feed volts bank s
  | .feedInRange feed volts => Sys2Proof.Machine.execFeedInRange feed volts s
  | .feedReturn => Sys2Proof.Machine.execFeedReturn s
  | .holdupSpent => Sys2Proof.Machine.execHoldupSpent s
  | .ejectorLatchOpen => Sys2Proof.Machine.execEjectorLatchOpen s
  | .drainComplete => Sys2Proof.Machine.execDrainComplete s
  | .cardUnseated => Sys2Proof.Machine.execCardUnseated s
  | .syncReceived port offset => Sys2Proof.Machine.execSyncReceived port offset s
  | .announceReceived port ann => Sys2Proof.Machine.execAnnounceReceived port ann s
  | .announceTimeout port => Sys2Proof.Machine.execAnnounceTimeout port s
  | .portLinkLoss port => Sys2Proof.Machine.execPortLinkLoss port s
  | .holdoverLimitExpiry => Sys2Proof.Machine.execHoldoverLimitExpiry s
  | .plantTimeStep => Sys2Proof.Machine.execPlantTimeStep s
  | .delayReqEgress port seqId => Sys2Proof.Machine.execDelayReqEgress port seqId s
  | .delayRespReceived port seqId delay => Sys2Proof.Machine.execDelayRespReceived port seqId delay s
  | .frameBoundary overrun sensors ecc => Sys2Proof.Machine.execFrameBoundary overrun sensors ecc s
  | .slotBoundary overrun => Sys2Proof.Machine.execSlotBoundary overrun s
  | .framePulseEdge delta => Sys2Proof.Machine.execFramePulseEdge delta s
  | .pulseLost => Sys2Proof.Machine.execPulseLost s
  | .triggerFire slot => Sys2Proof.Machine.execTriggerFire slot s
  | .uploadSegment chain port late bytes => Sys2Proof.Machine.execUploadSegment chain port late bytes s
  | .chainLinkChange chain port up viol => Sys2Proof.Machine.execChainLinkChange chain port up viol s
  | .census chain head tail => Sys2Proof.Machine.execCensus chain head tail s
  | .satResponse chain port bytes => Sys2Proof.Machine.execSatResponse chain port bytes s
  | .satRspTimeout chain place => Sys2Proof.Machine.execSatRspTimeout chain place s
  | .satelliteLost chain place => Sys2Proof.Machine.execSatelliteLost chain place s
  | .chainControllerReset chain => Sys2Proof.Machine.execChainControllerReset chain s
  | .chainReset chain => Sys2Proof.Machine.execChainReset chain s
  | .loopCodeChange chain tailEnd code => Sys2Proof.Machine.execLoopCodeChange chain tailEnd code s
  | .inputWindowFilled => Sys2Proof.Machine.execInputWindowFilled s
  | .tileNop x => Sys2Proof.Machine.execTileNop x s
  | .halt x => Sys2Proof.Machine.execHalt x s
  | .setb x => Sys2Proof.Machine.execSetb x s
  | .addb x => Sys2Proof.Machine.execAddb x s
  | .setl x => Sys2Proof.Machine.execSetl x s
  | .loop x => Sys2Proof.Machine.execLoop x s
  | .jmp x => Sys2Proof.Machine.execJmp x s
  | .bany x => Sys2Proof.Machine.execBany x s
  | .bnone x => Sys2Proof.Machine.execBnone x s
  | .wait x => Sys2Proof.Machine.execWait x s
  | .flagrd x => Sys2Proof.Machine.execFlagrd x s
  | .flagclr x => Sys2Proof.Machine.execFlagclr x s
  | .frmrd x => Sys2Proof.Machine.execFrmrd x s
  | .laneid x => Sys2Proof.Machine.execLaneid x s
  | .mac x => Sys2Proof.Machine.execMac x s
  | .msu x => Sys2Proof.Machine.execMsu x s
  | .mul x => Sys2Proof.Machine.execMul x s
  | .accld x => Sys2Proof.Machine.execAccld x s
  | .accadd x => Sys2Proof.Machine.execAccadd x s
  | .narrow x => Sys2Proof.Machine.execNarrow x s
  | .add x => Sys2Proof.Machine.execAdd x s
  | .sub x => Sys2Proof.Machine.execSub x s
  | .neg x => Sys2Proof.Machine.execNeg x s
  | .abs x => Sys2Proof.Machine.execAbs x s
  | .min x => Sys2Proof.Machine.execMin x s
  | .max x => Sys2Proof.Machine.execMax x s
  | .shl x => Sys2Proof.Machine.execShl x s
  | .shr x => Sys2Proof.Machine.execShr x s
  | .conv x => Sys2Proof.Machine.execConv x s
  | .mov x => Sys2Proof.Machine.execMov x s
  | .and x => Sys2Proof.Machine.execAnd x s
  | .or x => Sys2Proof.Machine.execOr x s
  | .xor x => Sys2Proof.Machine.execXor x s
  | .sel x => Sys2Proof.Machine.execSel x s
  | .cmps x => Sys2Proof.Machine.execCmps x s
  | .cmpu x => Sys2Proof.Machine.execCmpu x s
  | .cmpsa x => Sys2Proof.Machine.execCmpsa x s
  | .cmpua x => Sys2Proof.Machine.execCmpua x s
  | .setp x => Sys2Proof.Machine.execSetp x s
  | .lut x => Sys2Proof.Machine.execLut x s
  | .xchg x => Sys2Proof.Machine.execXchg x s
  | .xchgPartnerMet tile => Sys2Proof.Machine.execXchgPartnerMet tile s
  | .reduce x => Sys2Proof.Machine.execReduce x s
  | .rdred x => Sys2Proof.Machine.execRdred x s
  | .reductionComplete string channel => Sys2Proof.Machine.execReductionComplete string channel s
  | .tileUndefinedOpcode x opc => Sys2Proof.Machine.execTileUndefinedOpcode x opc s
  | .tileRetirement phys => Sys2Proof.Machine.execTileRetirement phys s
  | .limitsZero string => Sys2Proof.Machine.execLimitsZero string s
  | .laFallback string => Sys2Proof.Machine.execLaFallback string s
  | .balancingPlan => Sys2Proof.Machine.execBalancingPlan s
  | .learnedValueCommit string cause => Sys2Proof.Machine.execLearnedValueCommit string cause s
  | .commitReadBack string matched => Sys2Proof.Machine.execCommitReadBack string matched s
  | .statePage => Sys2Proof.Machine.execStatePage s
  | .planActivation string => Sys2Proof.Machine.execPlanActivation string s
  | .injectionRampUp string => Sys2Proof.Machine.execInjectionRampUp string s
  | .historyUpdate => Sys2Proof.Machine.execHistoryUpdate s
  | .impedancePage => Sys2Proof.Machine.execImpedancePage s
  | .fastSample channel value => Sys2Proof.Machine.execFastSample channel value s
  | .preciseSample channel value => Sys2Proof.Machine.execPreciseSample channel value s
  | .senseLost channel => Sys2Proof.Machine.execSenseLost channel s
  | .startDelayElapsed string => Sys2Proof.Machine.execStartDelayElapsed string s
  | .stopDelayElapsed string => Sys2Proof.Machine.execStopDelayElapsed string s
  | .requestExpiry entry => Sys2Proof.Machine.execRequestExpiry entry s
  | .deferExpiry entry => Sys2Proof.Machine.execDeferExpiry entry s
  | .intervalClose => Sys2Proof.Machine.execIntervalClose s
  | .accountCommit => Sys2Proof.Machine.execAccountCommit s
  | .estopInputChange channelB closed => Sys2Proof.Machine.execEstopInputChange channelB closed s
  | .discrepancy => Sys2Proof.Machine.execDiscrepancy s
  | .fabricArmed => Sys2Proof.Machine.execFabricArmed s
  | .resetInChange energised => Sys2Proof.Machine.execResetInChange energised s
  | .resetStuck => Sys2Proof.Machine.execResetStuck s
  | .laneHealth => Sys2Proof.Machine.execLaneHealth s
  | .weldSenseSample string vpm vnm => Sys2Proof.Machine.execWeldSenseSample string vpm vnm s
  | .tCloseElapsed string => Sys2Proof.Machine.execTCloseElapsed string s
  | .prechargeTimeout string => Sys2Proof.Machine.execPrechargeTimeout string s
  | .transferElapsed string => Sys2Proof.Machine.execTransferElapsed string s
  | .transferOverlapLimit string => Sys2Proof.Machine.execTransferOverlapLimit string s
  | .openWaitElapsed string => Sys2Proof.Machine.execOpenWaitElapsed string s
  | .openDelayElapsed string => Sys2Proof.Machine.execOpenDelayElapsed string s
  | .weldCheck string vpm vnm => Sys2Proof.Machine.execWeldCheck string vpm vnm s
  | .driverTest string driver pass => Sys2Proof.Machine.execDriverTest string driver pass s
  | .coilTestEnd string => Sys2Proof.Machine.execCoilTestEnd string s
  | .aoRangeSequence output => Sys2Proof.Machine.execAoRangeSequence output s
  | .descriptorFetch => Sys2Proof.Machine.execDescriptorFetch s
  | .undefinedOpcode opcode d => Sys2Proof.Machine.execUndefinedOpcode opcode d s
  | .nop d => Sys2Proof.Machine.execNop d s
  | .hstSqCreate d => Sys2Proof.Machine.execHstSqCreate d s
  | .hstCqCreate d => Sys2Proof.Machine.execHstCqCreate d s
  | .hstSqDelete d => Sys2Proof.Machine.execHstSqDelete d s
  | .hstCqDelete d => Sys2Proof.Machine.execHstCqDelete d s
  | .hstAbort d => Sys2Proof.Machine.execHstAbort d s
  | .hstSqRestart d => Sys2Proof.Machine.execHstSqRestart d s
  | .hstOrphanRead d => Sys2Proof.Machine.execHstOrphanRead d s
  | .hstPlantRecv d => Sys2Proof.Machine.execHstPlantRecv d s
  | .hstPlantSend d => Sys2Proof.Machine.execHstPlantSend d s
  | .hstDlqRead d => Sys2Proof.Machine.execHstDlqRead d s
  | .sysDrain d => Sys2Proof.Machine.execSysDrain d s
  | .sysWarmReset d => Sys2Proof.Machine.execSysWarmReset d s
  | .chnAdmit d => Sys2Proof.Machine.execChnAdmit d s
  | .chnBalManual d => Sys2Proof.Machine.execChnBalManual d s
  | .chnBalTest d => Sys2Proof.Machine.execChnBalTest d s
  | .chnSatRead d => Sys2Proof.Machine.execChnSatRead d s
  | .chnSatWrite d => Sys2Proof.Machine.execChnSatWrite d s
  | .chnReset d => Sys2Proof.Machine.execChnReset d s
  | .chnCensus d => Sys2Proof.Machine.execChnCensus d s
  | .tilKernelLoad d => Sys2Proof.Machine.execTilKernelLoad d s
  | .tilKernelSwitch d => Sys2Proof.Machine.execTilKernelSwitch d s
  | .tilTableLoad d => Sys2Proof.Machine.execTilTableLoad d s
  | .tilMemRead d => Sys2Proof.Machine.execTilMemRead d s
  | .tilMemWrite d => Sys2Proof.Machine.execTilMemWrite d s
  | .tilTest d => Sys2Proof.Machine.execTilTest d s
  | .tilRetire d => Sys2Proof.Machine.execTilRetire d s
  | .tilUnretire d => Sys2Proof.Machine.execTilUnretire d s
  | .estLearnReset d => Sys2Proof.Machine.execEstLearnReset d s
  | .estLearnWrite d => Sys2Proof.Machine.execEstLearnWrite d s
  | .estLearnRead d => Sys2Proof.Machine.execEstLearnRead d s
  | .estCommit d => Sys2Proof.Machine.execEstCommit d s
  | .estModelReinit d => Sys2Proof.Machine.execEstModelReinit d s
  | .estSwapDeclare d => Sys2Proof.Machine.execEstSwapDeclare d s
  | .impPlanLoad d => Sys2Proof.Machine.execImpPlanLoad d s
  | .impInjCtrl d => Sys2Proof.Machine.execImpInjCtrl d s
  | .impHistReset d => Sys2Proof.Machine.execImpHistReset d s
  | .impSpectrumRead d => Sys2Proof.Machine.execImpSpectrumRead d s
  | .thmTempRead d => Sys2Proof.Machine.execThmTempRead d s
  | .thmAoSet d => Sys2Proof.Machine.execThmAoSet d s
  | .cnvStart d => Sys2Proof.Machine.execCnvStart d s
  | .cnvStop d => Sys2Proof.Machine.execCnvStop d s
  | .cnvMode d => Sys2Proof.Machine.execCnvMode d s
  | .cnvSetpoint d => Sys2Proof.Machine.execCnvSetpoint d s
  | .cnvFfLoad d => Sys2Proof.Machine.execCnvFfLoad d s
  | .cnvCapture d => Sys2Proof.Machine.execCnvCapture d s
  | .dspRequest d => Sys2Proof.Machine.execDspRequest d s
  | .dspCancel d => Sys2Proof.Machine.execDspCancel d s
  | .dspReqRead d => Sys2Proof.Machine.execDspReqRead d s
  | .dspAcctRead d => Sys2Proof.Machine.execDspAcctRead d s
  | .dspAcctPreset d => Sys2Proof.Machine.execDspAcctPreset d s
  | .safClose d => Sys2Proof.Machine.execSafClose d s
  | .safOpen d => Sys2Proof.Machine.execSafOpen d s
  | .safTrip d => Sys2Proof.Machine.execSafTrip d s
  | .safDriverTest d => Sys2Proof.Machine.execSafDriverTest d s
  | .safCoilTest d => Sys2Proof.Machine.execSafCoilTest d s
  | .safFaultClear d => Sys2Proof.Machine.execSafFaultClear d s
  | .fioDoWrite d => Sys2Proof.Machine.execFioDoWrite d s
  | .fioCosRead d => Sys2Proof.Machine.execFioCosRead d s
  | .canSend d => Sys2Proof.Machine.execCanSend d s
  | .canRead d => Sys2Proof.Machine.execCanRead d s
  | .canSleep d => Sys2Proof.Machine.execCanSleep d s
  | .recRead d => Sys2Proof.Machine.execRecRead d s
  | .recBbRead d => Sys2Proof.Machine.execRecBbRead d s
  | .recOrigin d => Sys2Proof.Machine.execRecOrigin d s
  | .recReplayMode d => Sys2Proof.Machine.execRecReplayMode d s
  | .recReplayLoad d => Sys2Proof.Machine.execRecReplayLoad d s
  | .recReplayFeed d => Sys2Proof.Machine.execRecReplayFeed d s
  | .lanStageBegin d => Sys2Proof.Machine.execLanStageBegin d s
  | .lanParcel d => Sys2Proof.Machine.execLanParcel d s
  | .lanStageQuery d => Sys2Proof.Machine.execLanStageQuery d s
  | .lanUpdatePrepare d => Sys2Proof.Machine.execLanUpdatePrepare d s
  | .lanHandover d => Sys2Proof.Machine.execLanHandover d s
  | .lanUpdateAbort d => Sys2Proof.Machine.execLanUpdateAbort d s
  | .lanLaneReset d => Sys2Proof.Machine.execLanLaneReset d s
  | .lanSatUpdate d => Sys2Proof.Machine.execLanSatUpdate d s
  | .lanCfgSave d => Sys2Proof.Machine.execLanCfgSave d s
  | .lanCfgChoose d => Sys2Proof.Machine.execLanCfgChoose d s
  | .lanBootSplit d => Sys2Proof.Machine.execLanBootSplit d s
  | .secChallenge d => Sys2Proof.Machine.execSecChallenge d s
  | .secRespond d => Sys2Proof.Machine.execSecRespond d s
  | .secPassword d => Sys2Proof.Machine.execSecPassword d s
  | .secClose d => Sys2Proof.Machine.execSecClose d s
  | .secUnlock d => Sys2Proof.Machine.execSecUnlock d s
  | .secList d => Sys2Proof.Machine.execSecList d s
  | .secKeySet d => Sys2Proof.Machine.execSecKeySet d s
  | .secPasswordSet d => Sys2Proof.Machine.execSecPasswordSet d s
  | .sessionExpiry session => Sys2Proof.Machine.execSessionExpiry session s
  | .slotBlockExpiry slot => Sys2Proof.Machine.execSlotBlockExpiry slot s
  | .sqTailDoorbell ring value => Sys2Proof.Machine.execSqTailDoorbell ring value s
  | .cqHeadDoorbell ring value => Sys2Proof.Machine.execCqHeadDoorbell ring value s
  | .doorbellDiscarded offset value => Sys2Proof.Machine.execDoorbellDiscarded offset value s
  | .hostInterfaceReset cause => Sys2Proof.Machine.execHostInterfaceReset cause s
  | .busMasterEnable => Sys2Proof.Machine.execBusMasterEnable s
  | .dmaReadError fetch target => Sys2Proof.Machine.execDmaReadError fetch target s
  | .msixMessage vector => Sys2Proof.Machine.execMsixMessage vector s
  | .msixUnmask vector => Sys2Proof.Machine.execMsixUnmask vector s
  | .dispatchRequest e => Sys2Proof.Machine.execDispatchRequest e s
  | .dispatchCancel e => Sys2Proof.Machine.execDispatchCancel e s
  | .hostForward e => Sys2Proof.Machine.execHostForward e s
  | .plantMessageInvalid typ e => Sys2Proof.Machine.execPlantMessageInvalid typ e s
  | .networkParcel e => Sys2Proof.Machine.execNetworkParcel e s
  | .coreDisagree lane core majority => Sys2Proof.Machine.execCoreDisagree lane core majority s
  | .coreResync lane => Sys2Proof.Machine.execCoreResync lane s
  | .laneTakeover => Sys2Proof.Machine.execLaneTakeover s
  | .stateImport lane caughtUp => Sys2Proof.Machine.execStateImport lane caughtUp s
  | .contextSave lane core interrupt code ecc => Sys2Proof.Machine.execContextSave lane core interrupt code ecc s
  | .imageVerify => Sys2Proof.Machine.execImageVerify s
  | .updShadowReady => Sys2Proof.Machine.execUpdShadowReady s
  | .satReset string => Sys2Proof.Machine.execSatReset string s
  | .recordStore error => Sys2Proof.Machine.execRecordStore error s
  | .recordIntakeDrop code => Sys2Proof.Machine.execRecordIntakeDrop code s
  | .originStart fast => Sys2Proof.Machine.execOriginStart fast s
  | .originComplete tileLate => Sys2Proof.Machine.execOriginComplete tileLate s
  | .diSample levels => Sys2Proof.Machine.execDiSample levels s
  | .wireBreak input broken => Sys2Proof.Machine.execWireBreak input broken s
  | .doFault output thermal => Sys2Proof.Machine.execDoFault output thermal s
  | .doSupChange inRange volts => Sys2Proof.Machine.execDoSupChange inRange volts s
  | .fieldLinkFrame toField valid copyOk readback canCount => Sys2Proof.Machine.execFieldLinkFrame toField valid copyOk readback canCount s
  | .fieldSideSilent => Sys2Proof.Machine.execFieldSideSilent s
  | .safeState => Sys2Proof.Machine.execSafeState s
  | .linkRestored => Sys2Proof.Machine.execLinkRestored s
  | .canFrameReceived ctl f => Sys2Proof.Machine.execCanFrameReceived ctl f s
  | .canFrameSent ctl => Sys2Proof.Machine.execCanFrameSent ctl s
  | .canSendTimeout ctl hole => Sys2Proof.Machine.execCanSendTimeout ctl hole s
  | .canError ctl tec rec => Sys2Proof.Machine.execCanError ctl tec rec s
  | .canBusOffRecovery ctl => Sys2Proof.Machine.execCanBusOffRecovery ctl s
  | .canSleepEntry ctl => Sys2Proof.Machine.execCanSleepEntry ctl s
  | .canWake ctl cause => Sys2Proof.Machine.execCanWake ctl cause s
  | .extest bits => Sys2Proof.Machine.execExtest bits s
  | .idcode => Sys2Proof.Machine.execIdcode s
  | .samplePreload bits => Sys2Proof.Machine.execSamplePreload bits s
  | .secChal dr => Sys2Proof.Machine.execSecChal dr s
  | .secResp dr => Sys2Proof.Machine.execSecResp dr s
  | .bypass tdi => Sys2Proof.Machine.execBypass tdi s
  | .testLogicReset => Sys2Proof.Machine.execTestLogicReset s
  | .attach cmd => Sys2Proof.Machine.execAttach cmd s
  | .detach cmd => Sys2Proof.Machine.execDetach cmd s
  | .debugHalt cmd => Sys2Proof.Machine.execDebugHalt cmd s
  | .resume cmd => Sys2Proof.Machine.execResume cmd s
  | .step cmd => Sys2Proof.Machine.execStep cmd s
  | .bpSet cmd => Sys2Proof.Machine.execBpSet cmd s
  | .bpClr cmd => Sys2Proof.Machine.execBpClr cmd s
  | .regRd cmd => Sys2Proof.Machine.execRegRd cmd s
  | .regWr cmd => Sys2Proof.Machine.execRegWr cmd s
  | .memRd cmd => Sys2Proof.Machine.execMemRd cmd s
  | .memWr cmd => Sys2Proof.Machine.execMemWr cmd s
  | .breakpointHit bp => Sys2Proof.Machine.execBreakpointHit bp s
  | .registerWrite off value be same => Sys2Proof.Machine.execRegisterWrite off value be same s
  | .timNowSnapshot => Sys2Proof.Machine.execTimNowSnapshot s
  | .timFramePmSnapshot => Sys2Proof.Machine.execTimFramePmSnapshot s
  | .dspHwmSnapshot => Sys2Proof.Machine.execDspHwmSnapshot s
  | .dspAcctSnapshot => Sys2Proof.Machine.execDspAcctSnapshot s
  | .canTsSnapshot => Sys2Proof.Machine.execCanTsSnapshot s
  | .adminEn => Sys2Proof.Machine.execAdminEn s
  | .hstEvPendClear word value same => Sys2Proof.Machine.execHstEvPendClear word value same s
  | .portPrefWrite value => Sys2Proof.Machine.execPortPrefWrite value s
  | .ptpEnWrite value => Sys2Proof.Machine.execPtpEnWrite value s
  | .chnCtrlReset chain value => Sys2Proof.Machine.execChnCtrlReset chain value s
  | .senseCfgWrite channel ofs value => Sys2Proof.Machine.execSenseCfgWrite channel ofs value s
  | .intervalLenWrite value => Sys2Proof.Machine.execIntervalLenWrite value s
  | .aoRangeWrite output value => Sys2Proof.Machine.execAoRangeWrite output value s
  | .aoSafeWrite output value => Sys2Proof.Machine.execAoSafeWrite output value s
  | .canEnWrite ctl value => Sys2Proof.Machine.execCanEnWrite ctl value s
  | .recJnlHeadWrite value => Sys2Proof.Machine.execRecJnlHeadWrite value s
  | .pulseCnt => Sys2Proof.Machine.execPulseCnt s
  | .ovrCnt => Sys2Proof.Machine.execOvrCnt s
  | .tsqCnt => Sys2Proof.Machine.execTsqCnt s
  | .tilSatClrFrames => Sys2Proof.Machine.execTilSatClrFrames s
  | .chnCntClrErr chain => Sys2Proof.Machine.execChnCntClrErr chain s
  | .tilCntClrTrap => Sys2Proof.Machine.execTilCntClrTrap s
  | .tilCntClrEcc => Sys2Proof.Machine.execTilCntClrEcc s
  | .estCntClrLearn => Sys2Proof.Machine.execEstCntClrLearn s
  | .impCntClrGate => Sys2Proof.Machine.execImpCntClrGate s
  | .cnvCntClrReg => Sys2Proof.Machine.execCnvCntClrReg s
  | .dspCntClrOutcome => Sys2Proof.Machine.execDspCntClrOutcome s
  | .safCntClrTest => Sys2Proof.Machine.execSafCntClrTest s
  | .safCntClrOpen => Sys2Proof.Machine.execSafCntClrOpen s
  | .hstCntClrDlq => Sys2Proof.Machine.execHstCntClrDlq s
  | .hstCntClrRecur => Sys2Proof.Machine.execHstCntClrRecur s
  | .lanCntClrCnt => Sys2Proof.Machine.execLanCntClrCnt s
  | .recCntClrDrop => Sys2Proof.Machine.execRecCntClrDrop s
  | .recCntClrSkip => Sys2Proof.Machine.execRecCntClrSkip s
  | .fioCntClrCos => Sys2Proof.Machine.execFioCntClrCos s
  | .canCntClrCnt ctl => Sys2Proof.Machine.execCanCntClrCnt ctl s
  | .secCntClrCnt => Sys2Proof.Machine.execSecCntClrCnt s
  | .sysCntClrCnt => Sys2Proof.Machine.execSysCntClrCnt s
  | .ejectorLatchClose => Sys2Proof.Machine.execEjectorLatchClose s
  | .probeTurnAround chain port place delay => Sys2Proof.Machine.execProbeTurnAround chain port place delay s
  | .holdPwmEdge string driver pass => Sys2Proof.Machine.execHoldPwmEdge string driver pass s
  | .batchPauseEnd tile => Sys2Proof.Machine.execBatchPauseEnd tile s
  | .fieldPowerLost => Sys2Proof.Machine.execFieldPowerLost s
  | .fieldPowerUp => Sys2Proof.Machine.execFieldPowerUp s
  | .canIntegrationEnd ctl => Sys2Proof.Machine.execCanIntegrationEnd ctl s
  | .pcieLinkUp => Sys2Proof.Machine.execPcieLinkUp s
  | .d3hotTransition toD3 => Sys2Proof.Machine.execD3hotTransition toD3 s

end Sys2Proof.Machine
end

