-- ==== Sys2Proof/Safety.lean ====
section
/-! DEFINITION. What counts as a safe run: every command is taken to its end, the registers that show live contents show
them, and the card's sparse memories keep their one canonical form. -/

namespace Sys2Proof.Machine

/-- A command ran to its end: no fault and no refusal. -/
def Completed (o : Host.Outcome State Fault Refusal) : Prop :=
  match o with
  | .next _ => True
  | .fault _ => False
  | .refused _ => False

/-- Every live register holds the word that it shows (R307, R308, R320, R372, R415). -/
def Card.Shown (c : Card) : Prop := ∀ off ∈ liveRegs, c.reg off = c.live off

/-- The register file and host memory are in canonical form. -/
def Card.Canonical (c : Card) : Prop := Store.wf c.regs coldWord = true ∧ Store.wf c.hst.mem noByte = true

/-- A state in which the card shows what it holds. -/
def State.Safe (s : State) : Prop := s.card.Shown ∧ s.card.Canonical

/-- The commands that a card without power takes: power applied, the card seated, its feeds (R3, R435, R436, R442). -/
def powerEvent (i : Instr) : Bool :=
  match i with
  | .coldReset _ _ => true
  | .cardSeated _ _ => true
  | .feedLost _ _ _ => true
  | .feedInRange _ _ => true
  | _ => false

end Sys2Proof.Machine
end

