-- ==== Sys2Proof/WellFormed.lean ====
section
/-! DEFINITION. The commands that can reach the card: the ranges that the spec gives their operands. A command outside
them is no happening of the card, and its meaning has no effect. -/

namespace Sys2Proof

/-- A number below `n`. -/
def below (n k : Nat) : Bool := decide (k < n)

/-- A number counted from 1 to `n`: strings and chains 1 to 4, ring places 1 to 32 (R68). -/
def oneTo (n k : Nat) : Bool := decide (1 ≤ k) && decide (k ≤ n)

/-- A descriptor lies in one of the 64 submission rings (R308), and the buffer it reads is a buffer of 32-bit length. -/
def Desc.wf (d : Desc) : Bool := below 64 d.sq && decide (d.buf.length < 2 ^ 32)

/-- A lane of a tile, 0 to 7 (R109). -/
def TileHw.wf (h : TileHw) : Bool := (h.laneCheck.map (below 8)).getD true

/-- A tile instruction runs at one of the 256 logical tiles (R109). -/
def TileOp.wf (x : TileOp) : Bool := below 256 x.tile && x.hw.wf

/-- The opcodes that the tile table leaves undefined (R118, R120). -/
def undefinedTileOpcode (opc : Nat) : Bool :=
  decide (opc = 0x0E) || decide (opc = 0x0F) || (decide (0x2D ≤ opc) && decide (opc ≤ 0x3F))

/-- A register's offset in BAR0: a multiple of 4 below 64 KiB (R304, R305). -/
def registerOffset (off : Nat) : Bool := decide (off < 0x10000) && decide (off % 4 = 0)

/-- The fields of an Announce message have the widths of IEEE 1588-2019. -/
def Announce.wf (a : Announce) : Bool :=
  below 256 a.priority1 && below 256 a.clockClass && below 256 a.accuracy && below 65536 a.variance &&
    below 256 a.priority2 && below 65536 a.stepsRemoved && below 256 a.domain

/-- One of the eight on-card sensors (R285). -/
def Sensor.wf (x : Sensor) : Bool := below 8 x.index

/-- A word of one of the 272 physical tiles (R109, R112), or one of the 256 recorder regions (R370, R373). -/
def EccEvent.wf (x : EccEvent) : Bool := if x.recorder then below 256 x.unit else below 272 x.unit

/-- A ring position is a byte of its packet (R87). -/
def CensusEntry.wf (x : CensusEntry) : Bool := below 256 x.pos

/-- A datagram came by one of the two P2 ports (R327). -/
def Envelope.wf (e : Envelope) : Bool := below 2 e.port && below 65536 e.udp

/-- A CAN FD frame holds at most 64 bytes, and a remote frame none (R402). -/
def CanFrame.wf (f : CanFrame) : Bool := decide (f.data.length ≤ 64) && (!f.remote || f.data.isEmpty)

/-- The commands that can reach the card. -/
def Instr.wf (i : Instr) : Bool :=
  match i with
  | .coldReset _ failed => failed.all (below 272)
  | .cardSeated _ failed => failed.all (below 272)
  | .bootCntClear => true
  | .warmRestartComplete lane => below 2 lane
  | .hostReady => true
  | .resetButton => true
  | .feedLost feed _ _ => below 2 feed
  | .feedInRange feed _ => below 2 feed
  | .feedReturn => true
  | .holdupSpent => true
  | .ejectorLatchOpen => true
  | .drainComplete => true
  | .cardUnseated => true
  | .syncReceived port _ => below 2 port
  | .announceReceived port ann => below 2 port && ann.wf
  | .announceTimeout port => below 2 port
  | .portLinkLoss port => below 2 port
  | .holdoverLimitExpiry => true
  | .plantTimeStep => true
  | .delayReqEgress port seqId => below 2 port && below 65536 seqId
  | .delayRespReceived port seqId _ => below 2 port && below 65536 seqId
  | .frameBoundary _ sensors ecc => sensors.all Sensor.wf && ecc.all EccEvent.wf
  | .slotBoundary _ => true
  | .framePulseEdge _ => true
  | .pulseLost => true
  | .triggerFire slot => below 65536 slot
  | .uploadSegment chain port _ _ => oneTo 4 chain && below 2 port
  | .chainLinkChange chain port _ _ => oneTo 4 chain && below 2 port
  | .census chain head tail => oneTo 4 chain && head.all CensusEntry.wf && tail.all CensusEntry.wf
  | .satResponse chain port _ => oneTo 4 chain && below 2 port
  | .satRspTimeout chain place => oneTo 4 chain && oneTo 32 place
  | .satelliteLost chain place => oneTo 4 chain && oneTo 32 place
  | .chainControllerReset chain => oneTo 4 chain
  | .chainReset chain => oneTo 4 chain
  | .loopCodeChange chain _ code => oneTo 4 chain && below 5 code
  | .inputWindowFilled => true
  | .tileNop x => x.wf
  | .halt x => x.wf
  | .setb x => x.wf
  | .addb x => x.wf
  | .setl x => x.wf
  | .loop x => x.wf
  | .jmp x => x.wf
  | .bany x => x.wf
  | .bnone x => x.wf
  | .wait x => x.wf
  | .flagrd x => x.wf
  | .flagclr x => x.wf
  | .frmrd x => x.wf
  | .laneid x => x.wf
  | .mac x => x.wf
  | .msu x => x.wf
  | .mul x => x.wf
  | .accld x => x.wf
  | .accadd x => x.wf
  | .narrow x => x.wf
  | .add x => x.wf
  | .sub x => x.wf
  | .neg x => x.wf
  | .abs x => x.wf
  | .min x => x.wf
  | .max x => x.wf
  | .shl x => x.wf
  | .shr x => x.wf
  | .conv x => x.wf
  | .mov x => x.wf
  | .and x => x.wf
  | .or x => x.wf
  | .xor x => x.wf
  | .sel x => x.wf
  | .cmps x => x.wf
  | .cmpu x => x.wf
  | .cmpsa x => x.wf
  | .cmpua x => x.wf
  | .setp x => x.wf
  | .lut x => x.wf
  | .xchg x => x.wf
  | .xchgPartnerMet tile => below 256 tile
  | .reduce x => x.wf
  | .rdred x => x.wf
  | .reductionComplete string channel => oneTo 4 string && below 64 channel
  | .tileUndefinedOpcode x opc => x.wf && undefinedTileOpcode opc
  | .tileRetirement phys => below 272 phys
  | .limitsZero string => oneTo 4 string
  | .laFallback string => oneTo 4 string
  | .balancingPlan => true
  | .learnedValueCommit string cause => oneTo 4 string && below 8 cause
  | .commitReadBack string _ => oneTo 4 string
  | .statePage => true
  | .planActivation string => oneTo 4 string
  | .injectionRampUp string => oneTo 4 string
  | .historyUpdate => true
  | .impedancePage => true
  | .fastSample channel _ => below 36 channel
  | .preciseSample channel _ => below 36 channel
  | .senseLost channel => below 36 channel
  | .startDelayElapsed string => oneTo 4 string
  | .stopDelayElapsed string => oneTo 4 string
  | .requestExpiry entry => below 256 entry
  | .deferExpiry entry => below 256 entry
  | .intervalClose => true
  | .accountCommit => true
  | .estopInputChange _ _ => true
  | .discrepancy => true
  | .fabricArmed => true
  | .resetInChange _ => true
  | .resetStuck => true
  | .laneHealth => true
  | .weldSenseSample string _ _ => oneTo 4 string
  | .tCloseElapsed string => oneTo 4 string
  | .prechargeTimeout string => oneTo 4 string
  | .transferElapsed string => oneTo 4 string
  | .transferOverlapLimit string => oneTo 4 string
  | .openWaitElapsed string => oneTo 4 string
  | .openDelayElapsed string => oneTo 4 string
  | .weldCheck string _ _ => oneTo 4 string
  | .driverTest string driver _ => oneTo 4 string && below 5 driver
  | .coilTestEnd string => oneTo 4 string
  | .aoRangeSequence output => below 4 output
  | .descriptorFetch => true
  | .undefinedOpcode _ d => d.wf
  | .nop d => d.wf
  | .hstSqCreate d => d.wf
  | .hstCqCreate d => d.wf
  | .hstSqDelete d => d.wf
  | .hstCqDelete d => d.wf
  | .hstAbort d => d.wf
  | .hstSqRestart d => d.wf
  | .hstOrphanRead d => d.wf
  | .hstPlantRecv d => d.wf
  | .hstPlantSend d => d.wf
  | .hstDlqRead d => d.wf
  | .sysDrain d => d.wf
  | .sysWarmReset d => d.wf
  | .chnAdmit d => d.wf
  | .chnBalManual d => d.wf
  | .chnBalTest d => d.wf
  | .chnSatRead d => d.wf
  | .chnSatWrite d => d.wf
  | .chnReset d => d.wf
  | .chnCensus d => d.wf
  | .tilKernelLoad d => d.wf
  | .tilKernelSwitch d => d.wf
  | .tilTableLoad d => d.wf
  | .tilMemRead d => d.wf
  | .tilMemWrite d => d.wf
  | .tilTest d => d.wf
  | .tilRetire d => d.wf
  | .tilUnretire d => d.wf
  | .estLearnReset d => d.wf
  | .estLearnWrite d => d.wf
  | .estLearnRead d => d.wf
  | .estCommit d => d.wf
  | .estModelReinit d => d.wf
  | .estSwapDeclare d => d.wf
  | .impPlanLoad d => d.wf
  | .impInjCtrl d => d.wf
  | .impHistReset d => d.wf
  | .impSpectrumRead d => d.wf
  | .thmTempRead d => d.wf
  | .thmAoSet d => d.wf
  | .cnvStart d => d.wf
  | .cnvStop d => d.wf
  | .cnvMode d => d.wf
  | .cnvSetpoint d => d.wf
  | .cnvFfLoad d => d.wf
  | .cnvCapture d => d.wf
  | .dspRequest d => d.wf
  | .dspCancel d => d.wf
  | .dspReqRead d => d.wf
  | .dspAcctRead d => d.wf
  | .dspAcctPreset d => d.wf
  | .safClose d => d.wf
  | .safOpen d => d.wf
  | .safTrip d => d.wf
  | .safDriverTest d => d.wf
  | .safCoilTest d => d.wf
  | .safFaultClear d => d.wf
  | .fioDoWrite d => d.wf
  | .fioCosRead d => d.wf
  | .canSend d => d.wf
  | .canRead d => d.wf
  | .canSleep d => d.wf
  | .recRead d => d.wf
  | .recBbRead d => d.wf
  | .recOrigin d => d.wf
  | .recReplayMode d => d.wf
  | .recReplayLoad d => d.wf
  | .recReplayFeed d => d.wf
  | .lanStageBegin d => d.wf
  | .lanParcel d => d.wf
  | .lanStageQuery d => d.wf
  | .lanUpdatePrepare d => d.wf
  | .lanHandover d => d.wf
  | .lanUpdateAbort d => d.wf
  | .lanLaneReset d => d.wf
  | .lanSatUpdate d => d.wf
  | .lanCfgSave d => d.wf
  | .lanCfgChoose d => d.wf
  | .lanBootSplit d => d.wf
  | .secChallenge d => d.wf
  | .secRespond d => d.wf
  | .secPassword d => d.wf
  | .secClose d => d.wf
  | .secUnlock d => d.wf
  | .secList d => d.wf
  | .secKeySet d => d.wf
  | .secPasswordSet d => d.wf
  | .sessionExpiry session => below 65536 session
  | .slotBlockExpiry slot => below 9 slot
  | .sqTailDoorbell ring _ => below 64 ring
  | .cqHeadDoorbell ring _ => below 64 ring
  | .doorbellDiscarded offset _ => decide (offset < 0x10000)
  | .hostInterfaceReset cause => below 3 cause
  | .busMasterEnable => true
  | .dmaReadError _ target => below 65536 target
  | .msixMessage vector => below 64 vector
  | .msixUnmask vector => below 64 vector
  | .dispatchRequest e => e.wf
  | .dispatchCancel e => e.wf
  | .hostForward e => e.wf
  | .plantMessageInvalid typ e => below 256 typ && e.wf
  | .networkParcel e => e.wf
  | .coreDisagree lane core _ => below 2 lane && below 3 core
  | .coreResync lane => below 2 lane
  | .laneTakeover => true
  | .stateImport lane _ => below 2 lane
  | .contextSave lane core _ _ _ => below 2 lane && below 3 core
  | .imageVerify => true
  | .updShadowReady => true
  | .satReset string => oneTo 4 string
  | .recordStore _ => true
  | .recordIntakeDrop code => below 65536 code
  | .originStart _ => true
  | .originComplete _ => true
  | .diSample _ => true
  | .wireBreak input _ => below 16 input
  | .doFault output _ => below 8 output
  | .doSupChange _ _ => true
  | .fieldLinkFrame _ _ _ _ _ => true
  | .fieldSideSilent => true
  | .safeState => true
  | .linkRestored => true
  | .canFrameReceived ctl f => below 2 ctl && f.wf
  | .canFrameSent ctl => below 2 ctl
  | .canSendTimeout ctl hole => below 2 ctl && below 128 hole
  | .canError ctl _ _ => below 2 ctl
  | .canBusOffRecovery ctl => below 2 ctl
  | .canSleepEntry ctl => below 2 ctl
  | .canWake ctl cause => below 2 ctl && below 3 cause
  | .extest _ => true
  | .idcode => true
  | .samplePreload _ => true
  | .secChal _ => true
  | .secResp _ => true
  | .bypass _ => true
  | .testLogicReset => true
  | .attach _ => true
  | .detach _ => true
  | .debugHalt _ => true
  | .resume _ => true
  | .step _ => true
  | .bpSet _ => true
  | .bpClr _ => true
  | .regRd _ => true
  | .regWr _ => true
  | .memRd _ => true
  | .memWr _ => true
  | .breakpointHit bp => below 8 bp
  | .registerWrite off _ _ _ => registerOffset off
  | .timNowSnapshot => true
  | .timFramePmSnapshot => true
  | .dspHwmSnapshot => true
  | .dspAcctSnapshot => true
  | .canTsSnapshot => true
  | .adminEn => true
  | .hstEvPendClear word _ _ => below 16 word
  | .portPrefWrite _ => true
  | .ptpEnWrite _ => true
  | .chnCtrlReset chain _ => oneTo 4 chain
  | .senseCfgWrite channel _ _ => below 36 channel
  | .intervalLenWrite _ => true
  | .aoRangeWrite output _ => below 4 output
  | .aoSafeWrite output _ => below 4 output
  | .canEnWrite ctl _ => below 2 ctl
  | .recJnlHeadWrite _ => true
  | .pulseCnt => true
  | .ovrCnt => true
  | .tsqCnt => true
  | .tilSatClrFrames => true
  | .chnCntClrErr chain => oneTo 4 chain
  | .tilCntClrTrap => true
  | .tilCntClrEcc => true
  | .estCntClrLearn => true
  | .impCntClrGate => true
  | .cnvCntClrReg => true
  | .dspCntClrOutcome => true
  | .safCntClrTest => true
  | .safCntClrOpen => true
  | .hstCntClrDlq => true
  | .hstCntClrRecur => true
  | .lanCntClrCnt => true
  | .recCntClrDrop => true
  | .recCntClrSkip => true
  | .fioCntClrCos => true
  | .canCntClrCnt ctl => below 2 ctl
  | .secCntClrCnt => true
  | .sysCntClrCnt => true
  | .ejectorLatchClose => true
  | .probeTurnAround chain port place _ => oneTo 4 chain && below 2 port && oneTo 32 place
  | .holdPwmEdge string driver _ => oneTo 4 string && below 5 driver
  | .batchPauseEnd tile => below 256 tile
  | .fieldPowerLost => true
  | .fieldPowerUp => true
  | .canIntegrationEnd ctl => below 2 ctl
  | .pcieLinkUp => true
  | .d3hotTransition _ => true

end Sys2Proof
end

