-- ==== Sys2Proof/Certificates/Slice0/Obligations.lean ====
section
/-! DEFINITION. The statements for the provers. `Sys2Proof.Claims` holds the words that they use. -/

namespace Sys2Proof.Claims

open Sys2Proof.Machine

/-! ### Outcomes -/

/-- The card has power. -/
def Live (s : State) : Prop := s.card.sys.powered = true

/-- Command `i` at `s` completes: the card becomes `c`, and then what follows every command happens. -/
def Becomes (i : Instr) (s : State) (c : Card) : Prop := exec i s = .next { s with card := settle s.card c }

/-- Command `i` at `s` completes in a state whose card meets `P`; the commands that wait are as before. -/
def Gives (i : Instr) (s : State) (P : Card → Prop) : Prop := ∃ t, exec i s = .next t ∧ t.pending = s.pending ∧ P t.card

/-- No submission ring waits for its deletion, so that nothing but the command itself happens. -/
def NoDeletes (c : Card) : Prop := ∀ x ∈ c.hst.sqs, x.2.state ≠ 3

/-- A string, chain or engine number. -/
def StringNo (n : Nat) : Prop := 1 ≤ n ∧ n ≤ 4

/-- Every structure of the card but the host interface and the recorder is as it was. -/
def InsideKept (c c' : Card) : Prop :=
  c'.sys = c.sys ∧ c'.tim = c.tim ∧ c'.sec = c.sec ∧ c'.lan = c.lan ∧ c'.chn = c.chn ∧ c'.til = c.til ∧ c'.est = c.est
    ∧ c'.imp = c.imp ∧ c'.cnv = c.cnv ∧ c'.saf = c.saf ∧ c'.dsp = c.dsp ∧ c'.thm = c.thm ∧ c'.fio = c.fio ∧ c'.can = c.can

/-! ### Descriptors (R310 to R314) -/

/-- The card once the oldest fetched entry `a` of a ring is taken. -/
def taken (c : Card) (a : Nat × Nat) : Card := { c with hst.arriving := c.hst.arriving.erase a }

/-- The oldest fetched entry of the descriptor's SQ is `a`. -/
def Arrives (d : Desc) (c : Card) (a : Nat × Nat) : Prop := c.hst.arriving.find? (·.1 == d.sq) = some a

/-- The card once the arrival of a descriptor is in the journal. -/
def noted (r : Row) (d : Desc) (c : Card) (a : Nat × Nat) : Card := (taken c a).noteArrival r d a.2

/-- The descriptor arrives and no FENCE holds it. -/
def Reaches (d : Desc) (c : Card) (a : Nat × Nat) : Prop := Arrives d c a ∧ (taken c a).fenced d = false

/-- The descriptor arrives, no FENCE holds it, and every check of R312 passes. -/
def Accepted (r : Row) (d : Desc) (c : Card) (a : Nat × Nat) : Prop :=
  Reaches d c a ∧ (noted r d c a).headChecks r d = none ∧ (noted r d c a).ownChecks r d = none

/-- The card once the descriptor is the operation in flight of its slot. -/
def entered (r : Row) (d : Desc) (c : Card) (a : Nat × Nat) : Card := (noted r d c a).enter r d a.2

/-- An accepted descriptor of command `i` has the effect `f` on the card in which it is in flight. -/
def Takes (i : Desc → Instr) (r : Row) (f : Desc → Card → Card) : Prop :=
  ∀ s d a, Live s → Accepted r d s.card a → Becomes (i d) s (f d (entered r d s.card a))

/-- The host interface's and the card's own descriptors, with their rows. -/
def hstDescriptors : List ((Desc → Instr) × Row) :=
  [(.nop, rowNop), (.hstSqCreate, rowSqCreate), (.hstCqCreate, rowCqCreate), (.hstSqDelete, rowSqDelete),
   (.hstCqDelete, rowCqDelete), (.hstAbort, rowHstAbort), (.hstSqRestart, rowSqRestart),
   (.hstOrphanRead, rowOrphanRead), (.hstPlantRecv, rowPlantRecv), (.hstPlantSend, rowPlantSend),
   (.hstDlqRead, rowDlqRead), (.sysDrain, rowSysDrain), (.sysWarmReset, rowSysWarmReset)]

/-- The descriptors of the chains, the tiles, the estimator and the tracker, with their rows. -/
def cellDescriptors : List ((Desc → Instr) × Row) :=
  [(.chnAdmit, rowChnAdmit), (.chnBalManual, rowChnBalManual), (.chnBalTest, rowChnBalTest),
   (.chnSatRead, rowChnSatRead), (.chnSatWrite, rowChnSatWrite), (.chnReset, rowChnReset),
   (.chnCensus, rowChnCensus), (.tilKernelLoad, rowTilKernelLoad), (.tilKernelSwitch, rowTilKernelSwitch),
   (.tilTableLoad, rowTilTableLoad), (.tilMemRead, rowTilMemRead), (.tilMemWrite, rowTilMemWrite),
   (.tilTest, rowTilTest), (.tilRetire, rowTilRetire), (.tilUnretire, rowTilUnretire),
   (.estLearnReset, rowEstLearnReset), (.estLearnWrite, rowEstLearnWrite), (.estLearnRead, rowEstLearnRead),
   (.estCommit, rowEstCommit), (.estModelReinit, rowEstModelReinit), (.estSwapDeclare, rowEstSwapDeclare),
   (.impPlanLoad, rowImpPlanLoad), (.impInjCtrl, rowImpInjCtrl), (.impHistReset, rowImpHistReset),
   (.impSpectrumRead, rowImpSpectrumRead)]

/-- The descriptors of the thermal block, the engines, the dispatcher, the fabric and the field side, with their rows. -/
def powerDescriptors : List ((Desc → Instr) × Row) :=
  [(.thmTempRead, rowThmTempRead), (.thmAoSet, rowThmAoSet), (.cnvStart, rowCnvStart), (.cnvStop, rowCnvStop),
   (.cnvMode, rowCnvMode), (.cnvSetpoint, rowCnvSetpoint), (.cnvFfLoad, rowCnvFfLoad), (.cnvCapture, rowCnvCapture),
   (.dspRequest, rowDspRequest), (.dspCancel, rowDspCancel), (.dspReqRead, rowDspReqRead),
   (.dspAcctRead, rowDspAcctRead), (.dspAcctPreset, rowDspAcctPreset), (.safClose, rowSafClose),
   (.safOpen, rowSafOpen), (.safTrip, rowSafTrip), (.safDriverTest, rowSafDriverTest),
   (.safCoilTest, rowSafCoilTest), (.safFaultClear, rowSafFaultClear), (.fioDoWrite, rowFioDoWrite),
   (.fioCosRead, rowFioCosRead), (.canSend, rowCanSend), (.canRead, rowCanRead), (.canSleep, rowCanSleep)]

/-- The descriptors of the recorder, the lanes and the sessions, with their rows. -/
def laneDescriptors : List ((Desc → Instr) × Row) :=
  [(.recRead, rowRecRead), (.recBbRead, rowRecBbRead), (.recOrigin, rowRecOrigin),
   (.recReplayMode, rowRecReplayMode), (.recReplayLoad, rowRecReplayLoad), (.recReplayFeed, rowRecReplayFeed),
   (.lanStageBegin, rowLanStageBegin), (.lanParcel, rowLanParcel), (.lanStageQuery, rowLanStageQuery),
   (.lanUpdatePrepare, rowLanUpdatePrepare), (.lanHandover, rowLanHandover), (.lanUpdateAbort, rowLanUpdateAbort),
   (.lanLaneReset, rowLanLaneReset), (.lanSatUpdate, rowLanSatUpdate), (.lanCfgSave, rowLanCfgSave),
   (.lanCfgChoose, rowLanCfgChoose), (.lanBootSplit, rowLanBootSplit), (.secChallenge, rowSecChallenge),
   (.secRespond, rowSecRespond), (.secPassword, rowSecPassword), (.secClose, rowSecClose),
   (.secUnlock, rowSecUnlock), (.secList, rowSecList), (.secKeySet, rowSecKeySet),
   (.secPasswordSet, rowSecPasswordSet)]

/-- Every descriptor command with its row. -/
def descriptors : List ((Desc → Instr) × Row) :=
  hstDescriptors ++ cellDescriptors ++ powerDescriptors ++ laneDescriptors

end Sys2Proof.Claims

section General

open Sys2Proof Sys2Proof.Machine Sys2Proof.Claims

/-- A step with a command at the front of the queue is that command with the queue's rest. -/
def Obligations.StepRunsFront : Prop :=
  ∀ (i : Instr) (rest : List Instr) (s : State), s.pending = i :: rest →
    Machine.step s = exec i { s with pending := rest }

/-- On an empty queue a powered card's clock runs one cycle of 4 ns (the model's choice, log entry 2); the present frame
and slot stay. -/
def Obligations.IdleTick : Prop :=
  ∀ s : State, s.pending = [] → Live s →
    ∃ t, Machine.step s = .next t ∧ t.pending = [] ∧ t.card.tim.clock = s.card.tim.clock + 4
      ∧ t.card.tim.elapsed = s.card.tim.elapsed + 4 ∧ t.card.tim.frame = s.card.tim.frame
      ∧ t.card.tim.slot = s.card.tim.slot

/-- Every command ends in a next state, and leaves the commands that wait behind it as they are. -/
def Sys2Proof.Claims.EveryCommandCompletes : Prop :=
  ∀ (i : Instr) (s : State), ∃ t, exec i s = .next t ∧ t.pending = s.pending

/-- Without power only a cold reset, the seating of the card and the feeds change anything. -/
def Sys2Proof.Claims.WithoutPower : Prop :=
  ∀ (i : Instr) (s : State), s.card.sys.powered = false → powerEvent i = false → exec i s = .next s

/-- Every live register (HST_STATUS, HST_TAGS, the ring states, the record windows, the session and key status, and the
other live words) shows what the card holds, and every step keeps it so. -/
def Obligations.LiveRegistersShow : Prop :=
  ∀ s t : State, s.card.Shown → Machine.step s = .next t → t.card.Shown

/-- After reset the live registers show what the card holds, and the sparse memories are in canonical form. -/
def Obligations.ResetIsSafe : Prop := State.reset.Safe

/-- R325's summary source: when a command raises a sticky bit of block b, the pending bit of source 64 + b is set after
it. -/
def Sys2Proof.Claims.StickyFiresSummary : Prop :=
  ∀ (i : Instr) (s t : State) (b : Nat), b < 16 → exec i s = .next t → stickyRose s.card t.card b = true →
    t.card.bit ⟨HST_EV_PEND ((64 + b) / 32), (64 + b) % 32, 1⟩ = true

/-- What follows every command changes nothing of the card but the host interface, the recorder, their registers and the
live registers. -/
def Sys2Proof.Claims.FollowUpFrame : Prop :=
  ∀ old new : Card, InsideKept new (settle old new) ∧ (settle old new).free = new.free
    ∧ ∀ off, off / 0x1000 ≠ 10 → off / 0x1000 ≠ 12 → off ∉ liveRegs → (settle old new).reg off = new.reg off

/-- Every command ends in a next state, and a card without power answers only the power events (R3, R435). -/
def Obligations.CommandsComplete : Prop := Sys2Proof.Claims.EveryCommandCompletes ∧ Sys2Proof.Claims.WithoutPower

/-- What follows every command: a sticky bit that rose has its block's summary source pending (R325), and nothing else
but the host interface, the recorder and the live registers changes. -/
def Obligations.AfterEveryCommand : Prop := Sys2Proof.Claims.StickyFiresSummary ∧ Sys2Proof.Claims.FollowUpFrame

end General

namespace Sys2Proof.Claims

open Sys2Proof.Machine

/-- An accepted descriptor of command `i` ends in a card related by `P` to the card in which it is in flight. -/
def Ends (i : Desc → Instr) (r : Row) (P : Desc → Card → Card → Prop) : Prop :=
  ∀ s d a, Live s → Accepted r d s.card a → Gives (i d) s (P d (entered r d s.card a))

/-- The commands whose accepted descriptor waits in the tracker, for its trigger or for its block's slot. -/
def waiting : List ((Desc → Instr) × Row) :=
  [(.sysWarmReset, rowSysWarmReset), (.tilKernelSwitch, rowTilKernelSwitch), (.tilTableLoad, rowTilTableLoad),
   (.tilMemRead, rowTilMemRead), (.tilMemWrite, rowTilMemWrite), (.estLearnReset, rowEstLearnReset),
   (.estLearnWrite, rowEstLearnWrite), (.estLearnRead, rowEstLearnRead), (.estModelReinit, rowEstModelReinit),
   (.impInjCtrl, rowImpInjCtrl), (.impHistReset, rowImpHistReset), (.impSpectrumRead, rowImpSpectrumRead),
   (.thmTempRead, rowThmTempRead), (.thmAoSet, rowThmAoSet), (.cnvStart, rowCnvStart), (.cnvStop, rowCnvStop),
   (.cnvMode, rowCnvMode), (.cnvSetpoint, rowCnvSetpoint), (.cnvFfLoad, rowCnvFfLoad), (.dspCancel, rowDspCancel),
   (.dspReqRead, rowDspReqRead), (.dspAcctPreset, rowDspAcctPreset), (.safClose, rowSafClose), (.safOpen, rowSafOpen),
   (.safTrip, rowSafTrip), (.fioDoWrite, rowFioDoWrite), (.canSend, rowCanSend), (.recOrigin, rowRecOrigin),
   (.lanHandover, rowLanHandover)]

/-- The operation that an accepted descriptor becomes. -/
def newOp (r : Row) (d : Desc) (c : Card) (a : Nat × Nat) : Op := {
  opcode := r.opcode, desc := d, cq := (c.sq d.sq).cq, index := a.2, role := c.roleOf d.session, order := c.hst.order
  frame := c.frame, trig := (r.trig d).map fun w => { kind := trigKind w, at' := trigWhen w } }

end Sys2Proof.Claims

section Descriptors

open Sys2Proof Sys2Proof.Machine Sys2Proof.Claims

/-- Every descriptor command: a descriptor that passes every check of R312 becomes the operation in flight of its slot,
and what its opcode does at acceptance happens. -/
def Sys2Proof.Claims.DescriptorAccepted : Prop :=
  ∀ x ∈ descriptors, Takes x.1 x.2 (fun d c => x.2.start d.slot c)
    ∧ ∀ (d : Desc) (c : Card) (a : Nat × Nat), (entered x.2 d c a).op d.slot = some (newOp x.2 d c a)

/-- Every descriptor command: the first check that fails, in R312's order, refuses the descriptor with its status and
reason. A header's reserved bits come first, then a tag in use, then the session check. A refused descriptor never becomes
an operation in flight; a refused SEC_RESPOND has used up the handle that it names (R417). -/
def Sys2Proof.Claims.DescriptorRefused : Prop :=
  ∀ x ∈ descriptors, ∀ (s : State) (d : Desc) (a : Nat × Nat), Live s → Reaches d s.card a →
    let c := noted x.2 d s.card a
    (d.hdrReserved = true → Becomes (x.1 d) s ((c.spendHandle x.2.opcode d).refuse x.2.opcode d a.2 7 0xA002))
    ∧ (d.hdrReserved = false → (c.op d.slot).isSome = true →
        Becomes (x.1 d) s ((c.spendHandle x.2.opcode d).refuse x.2.opcode d a.2 9 0xA004))
    ∧ (d.hdrReserved = false → c.op d.slot = none → ∀ e, c.sessionCheck x.2.role d.session = some e →
        Becomes (x.1 d) s ((c.spendHandle x.2.opcode d).refuse x.2.opcode d a.2 e.1 e.2))
    ∧ (∀ e, c.headChecks x.2 d = none → c.ownChecks x.2 d = some e →
        Becomes (x.1 d) s (((if x.2.role = 0 then c else c.touch d.session).spendHandle x.2.opcode d).refuse
          x.2.opcode d a.2 e.1 e.2.1 e.2.2))

/-- Every descriptor command: a descriptor that a FENCE holds waits behind it, and one that was never fetched does not
arrive. -/
def Sys2Proof.Claims.FenceHolds : Prop :=
  ∀ x ∈ descriptors, ∀ (s : State) (d : Desc), Live s →
    (∀ a, Arrives d s.card a → (taken s.card a).fenced d = true →
      Becomes (x.1 d) s { taken s.card a with hst.held := s.card.hst.held ++ [(x.2.opcode, d, a.2)] })
    ∧ (s.card.hst.arriving.find? (·.1 == d.sq) = none → Becomes (x.1 d) s s.card)

/-- UNDEFINED_OPCODE: an opcode that no chapter defines is journalled and refused with ILLEGAL_OPCODE. -/
def Sys2Proof.Claims.UndefinedOpcode : Prop :=
  ∀ (s : State) (op : BitVec 8) (d : Desc) (a : Nat × Nat), Live s → Reaches d s.card a → rowOf op.toNat = none →
    Becomes (.undefinedOpcode op d) s
      (((taken s.card a).jrn 0x06 0 (d.bytes op.toNat)).refuse op.toNat d a.2 6 0xA001)

/-- The commands whose effect waits for a trigger or for a slot of their block: acceptance places the operation in the
tracker and does nothing more. -/
def Sys2Proof.Claims.TriggeredCommandsWait : Prop :=
  ∀ x ∈ waiting, Takes x.1 x.2 (fun _ c => c)

/-- The host interface's own opcodes: what each does at acceptance (R310, R317, R321, R330, R331), and the start or the
end of a drain (R446). -/
def Sys2Proof.Claims.HostOpcodes : Prop :=
  Takes .nop rowNop (fun d c => (c.commit d.slot).done d.slot)
  ∧ Takes .hstSqCreate rowSqCreate (fun d c =>
      ((c.commit d.slot).setSq (d.byte 0) { state := 1, cq := d.byte 1, prio := d.byte 2, weight := d.byte 3
                                            log2 := d.byte 4, base := d.at 8 8 }).done d.slot)
  ∧ Takes .hstCqCreate rowCqCreate (fun d c =>
      ((c.commit d.slot).setCq (d.byte 0) { present := true, base := d.at 8 8, log2 := d.byte 4, phase := true }).done d.slot)
  ∧ Takes .hstSqDelete rowSqDelete (fun d c =>
      let n := d.byte 0
      let c := (c.commit d.slot).setSq n { c.sq n with state := 3, deleters := (c.sq n).deleters ++ [d.slot] }
      let c := c.each (c.hst.recvs.filter fun r => (c.descOf r).sq == n) fun c r => c.complete r 0x0A 0xA042
      { c with hst.recvs := c.hst.recvs.filter fun r => (c.op r).isSome && (c.descOf r).sq != n })
  ∧ Takes .hstCqDelete rowCqDelete (fun d c => ((c.commit d.slot).setCq (d.byte 0) {}).done d.slot)
  ∧ Takes .hstSqRestart rowSqRestart (fun d c =>
      ((c.commit d.slot).setSq (d.byte 0) { c.sq (d.byte 0) with state := 1, head := d.at 2 2 }).done d.slot)
  ∧ Takes .hstOrphanRead rowOrphanRead (fun d c =>
      { c.commit d.slot with hst.orphans := c.hst.orphans.drop (d.at 0 2) }.doneWith d.slot (d.at 8 8)
        (c.hst.orphans.take (d.at 0 2)).flatten (pN (c.hst.orphans.take (d.at 0 2)).length))
  ∧ Takes .hstDlqRead rowDlqRead (fun d c =>
      { c.commit d.slot with hst.dlq := c.hst.dlq.drop (d.at 0 2) }.doneWith d.slot (d.at 8 8)
        ((c.hst.dlq.take (d.at 0 2)).flatMap Dead.image) (pN (c.hst.dlq.take (d.at 0 2)).length))
  ∧ Takes .hstPlantRecv rowPlantRecv (fun d c =>
      match c.hst.inbox with
      | [] => { c with hst.recvs := c.hst.recvs ++ [d.slot] }
      | m :: r => { c with hst.inbox := r }.deliver d.slot m)
  ∧ Takes .hstPlantSend rowPlantSend (fun d c =>
      let n := (c.commit d.slot).draw
      (n.2.sendPlant (n.2.sendPort.getD 0) 0x04 (d.at 0 4) ((Config.freeValue n.1).toNat % 8) (d.buf.take (d.at 4 2))).done
        d.slot)
  ∧ Ends .sysDrain rowSysDrain (fun d c c' =>
      (d.byte 0 = 1 → c'.fld SYS_SLOT.REMOVE = 0)
      ∧ (d.byte 0 = 0 → c.fld SYS_SLOT.REMOVE = 0 →
          c'.fld SYS_SLOT.REMOVE = 1 ∧ c'.sys.drainPending = true ∧ c'.sys.drainOps = [d.slot]))

/-- HST_ABORT (R317): an unknown tag, an operation past its commit point, and one that is withdrawn. -/
def Sys2Proof.Claims.AbortOpcode : Prop :=
  Takes .hstAbort rowHstAbort (fun d c =>
    let t := d.at 0 4
    let c := (c.commit d.slot).jrnFree 0x09
    match c.op (t % 2 ^ 16) with
    | none => c.complete d.slot 5 0xA032 (abortResult t 2)
    | some o =>
      if o.desc.tag.toNat % 2 ^ 18 ≠ t then c.complete d.slot 5 0xA032 (abortResult t 2)
      else if o.committed ∨ o.produced then (c.markAbortLost (t % 2 ^ 16)).complete d.slot 5 0xA031 (abortResult t 1)
      else ((c.withdraw (t % 2 ^ 16) o).complete (t % 2 ^ 16) 4 0xA030).done d.slot (abortResult t 0))

/-- The opcodes of the chains and the tiles that act at acceptance (R98, R99, R105, R106, R136). -/
def Sys2Proof.Claims.ChainTileOpcodes : Prop :=
  Ends .chnAdmit rowChnAdmit (fun d c c' =>
    (d.byte 2 = 1 → c'.satState (d.byte 0) (d.byte 1) = 4)
    ∧ (d.byte 2 ≠ 1 → c'.chn = ((c.modSat (d.byte 0) (d.byte 1) fun x => { x with admitOp := some d.slot }).assign
        (d.byte 0) (d.byte 1)).chn))
  ∧ Takes .chnBalManual rowChnBalManual (fun d c =>
      c.request (d.byte 0) (placeOfCell (d.at 2 2)) 0x08
        (be 1 (posInSat (d.at 2 2)) ++ be 1 (d.byte 4) ++ be 2 (d.at 6 2) ++ be 2 (d.at 8 2) ++ be 2 0) (.host d.slot))
  ∧ Takes .chnBalTest rowChnBalTest (fun d c =>
      c.request (d.byte 0) (placeOfCell (d.at 2 2)) 0x09 (be 1 (posInSat (d.at 2 2)) ++ be 2 (d.at 4 2)) (.host d.slot))
  ∧ Takes .chnSatRead rowChnSatRead (fun d c =>
      c.request (d.byte 0) (d.byte 1) 0x06 (be 2 (d.at 2 2) ++ be 1 (d.byte 4)) (.host d.slot))
  ∧ Takes .chnSatWrite rowChnSatWrite (fun d c =>
      c.request (d.byte 0) (d.byte 1) 0x05
        (be 2 (d.at 2 2) ++ slice (d.buf ++ List.replicate 64 0) 0 (d.byte 4)) (.host d.slot))
  ∧ Takes .chnReset rowChnReset (fun d c =>
      (c.requestChainReset (d.byte 0) 0).modChain (d.byte 0) fun x => { x with resetOps := x.resetOps ++ [d.slot] })
  ∧ Ends .chnCensus rowChnCensus (fun d c c' =>
      (c'.chain (d.byte 0)).censusOps = (c.chain (d.byte 0)).censusOps ++ [d.slot] ∧ c'.til = c.til)
  ∧ Ends .tilKernelLoad rowTilKernelLoad (fun d c c' =>
      ∀ k ws, kernelOf (d.at 0 4) (leAt d.buf 18 1) (packPart d.buf 1) = some (k, ws) →
        c'.til = ((c.commit d.slot).stageSet k ws).til)
  ∧ Ends .tilTest rowTilTest (fun d c c' => c'.til = { c.til with tests := c.til.tests ++ [(d.slot, d.at 0 2, false)] })
  ∧ Ends .tilUnretire rowTilUnretire (fun d c c' =>
      c'.til = { c.til with tests := c.til.tests ++ [(d.slot, d.at 0 2, true)] })
  ∧ Ends .tilRetire rowTilRetire (fun d c c' => c'.til = (c.dueRetire (c.phys (d.byte 0)) 4).til)

/-- The opcodes of the estimator, the tracker, the engines and the dispatcher that act at acceptance (R159, R170, R175, R229,
R236, R258). -/
def Sys2Proof.Claims.EstimatorEngineOpcodes : Prop :=
  Ends .estCommit rowEstCommit (fun d c c' =>
    let ss := strings.filter fun n => decide (d.byte 0 / 2 ^ (n - 1) % 2 = 1)
    (ss = [] → c'.est = c.est)
    ∧ (ss ≠ [] → c'.est =
        ({ c with est.commitOps := c.est.commitOps ++ [(d.slot, ss, false)] }.each ss fun c n => c.wantCommit n 5).est))
  ∧ Ends .estSwapDeclare rowEstSwapDeclare (fun d c c' => c'.est = (c.declareSwap (d.byte 0) (d.byte 1)).est)
  ∧ Ends .impPlanLoad rowImpPlanLoad (fun d c c' =>
      c'.imp = (c.each (maskStrings (d.byte 0)) fun c n =>
        c.acceptPlan n (planOf (d.at 4 4) d.buf) (some d.slot)).imp)
  ∧ Ends .cnvCapture rowCnvCapture (fun d c c' =>
      (c'.eng (d.byte 0)).caps = (c.eng (d.byte 0)).caps
        ++ [{ slot := d.slot, fast := decide (d.byte 1 = 1), chan := d.byte 4, left := d.at 2 2 }])
  ∧ Takes .dspRequest rowDspRequest (fun d c => c.takeRequest hostSource (some d.slot) 0 d)
  ∧ Takes .dspAcctRead rowDspAcctRead (fun d c =>
      (c.commit d.slot).doneWith d.slot (d.at 8 8)
        ((List.range (d.at 4 2)).flatMap fun i => (c.closedRecord ((d.at 0 4 + i) % 2 ^ 32)).getD []))

/-- The opcodes of the safety fabric that act at acceptance (R278, R281): a driver test waits for its turn, a coil test
energises its coil, a fault clear clears the records named. -/
def Sys2Proof.Claims.FabricOpcodes : Prop :=
  Ends .safDriverTest rowSafDriverTest (fun d c c' =>
    (c'.safStr (d.byte 0)) = { c.safStr (d.byte 0) with drvOp := some d.slot, drvDone := [], drvBad := false })
  ∧ Ends .safCoilTest rowSafCoilTest (fun d _ c' =>
      (c'.safStr (d.byte 0)).testOp = some (d.slot, d.byte 1))
  ∧ Ends .safFaultClear rowSafFaultClear (fun d c c' =>
      ((d.byte 1 &&& c.faultRecords (d.byte 0)).testBit 0 = true → (c'.safStr (d.byte 0)).weldRec = false)
      ∧ ((d.byte 1 &&& c.faultRecords (d.byte 0)).testBit 1 = true →
          c'.fld ⟨SAF_DRV_FAULT, 5 * (d.byte 0 - 1), 5⟩ = 0))

/-- The opcodes of the field side, the CAN controllers and the recorder that act at acceptance (R380, R384, R385, R388,
R405, R408, R411). -/
def Sys2Proof.Claims.FieldRecorderOpcodes : Prop :=
  Ends .fioCosRead rowFioCosRead (fun d c c' =>
    c'.fio.cos = c.fio.cos.drop (d.at 0 2) ∧ c'.fld FIO_COS_STAT.FILL = (c.fio.cos.drop (d.at 0 2)).length % 2 ^ 9)
  ∧ Takes .canRead rowCanRead (fun d c =>
      let hs := (List.range (d.byte 2)).map (· + d.byte 1)
      let c' := (c.commit d.slot).each hs fun c h => c.modHole (d.byte 0) h fun x => { x with fresh := false }
      c'.showHole.doneWith d.slot (d.at 8 8) (hs.flatMap fun h => c.holeBytes (d.byte 0) h))
  ∧ Takes .canSleep rowCanSleep (fun d c =>
      if (d.byte 1 = 0) = (c.canState (d.byte 0) = 5) then (c.commit d.slot).done d.slot else c)
  ∧ Takes .recRead rowRecRead (fun d c =>
      let m := if d.byte 6 = 0 then c.rcd.store else if d.byte 6 = 1 then c.rcd.mirror else c.rcd.gasp
      let rs := readRecords m (d.at 0 4) (d.at 4 2)
      (c.commit d.slot).doneWith d.slot (d.at 8 8) (rs.flatMap Record.bytes) (pN rs.length))
  ∧ Takes .recBbRead rowRecBbRead (fun d c =>
      let first := BitVec.ofNat 32 (d.at 0 4)
      let l := (c.rcd.blackBox.filter fun x => x.1 = first || after x.1 first).map (·.2)
      let bs := fitEntries (d.at 4 4) l
      if l ≠ [] ∧ bs = [] then c.complete d.slot 3 0xC005
      else (c.commit d.slot).doneWith d.slot (d.at 8 8) bs (pN bs.length))
  ∧ Takes .recReplayMode rowRecReplayMode (fun d c =>
      ((c.commit d.slot).setFld REC_STATUS.REPLAY_NEXT (d.byte 0)).done d.slot)
  ∧ Takes .recReplayLoad rowRecReplayLoad (fun d c =>
      let c := ((c.commit d.slot).loadOrigin d.buf).setFld REC_STATUS.LOADED 1
      { c with rcd.loadedFrame := some (BitVec.ofNat 32 (leAt d.buf 4 4)), rcd.started := false
               rcd.heldTold := false }.done d.slot)
  ∧ Takes .recReplayFeed rowRecReplayFeed (fun d c =>
      let es := splitEntries (d.at 0 4) (d.buf.take (d.at 0 4))
      if es = [] then (c.commit d.slot).done d.slot else { c with rcd.feeds := c.rcd.feeds ++ [(d.slot, es, 0)] })

/-- The opcodes of the lanes and the configuration that act at acceptance (R342, R344, R348, R349, R354, R356, R358, R359,
R361, R363). -/
def Sys2Proof.Claims.LaneOpcodes : Prop :=
  Ends .lanStageBegin rowLanStageBegin (fun d c c' =>
    c'.bank c.standbyBank = { manifest := d.buf.take 4096 } ∧ c'.fld (imgFld c.standbyBank) = 1)
  ∧ Ends .lanParcel rowLanParcel (fun d c c' =>
      (c.hasParcel (d.at 4 2) = true → c'.lan = c.lan)
      ∧ (c.hasParcel (d.at 4 2) = false → c'.lan = ((c.commit d.slot).putParcel (d.at 4 2) d.buf).lan))
  ∧ Takes .lanStageQuery rowLanStageQuery (fun d c =>
      (c.commit d.slot).doneWith d.slot (d.at 8 8) (c.bank c.standbyBank).bitmap (pN (c.bank c.standbyBank).missing))
  ∧ Ends .lanUpdatePrepare rowLanUpdatePrepare (fun d c c' =>
      c'.fld LAN_STATUS.UPD = 1 ∧ c'.lan = { c.lan with prepareOp := some d.slot, prepareDue := true })
  ∧ Ends .lanUpdateAbort rowLanUpdateAbort (fun d c c' => c'.lan = { c.lan with abortOp := some d.slot })
  ∧ Ends .lanLaneReset rowLanLaneReset (fun d c c' =>
      c'.lan = { c.lan with
        resetOps := c.lan.resetOps ++ [(d.slot, d.byte 0)]
        takeoverDue := if d.byte 0 = c.primary then some (1 - d.byte 0, 1) else c.lan.takeoverDue })
  ∧ Ends .lanSatUpdate rowLanSatUpdate (fun d c c' =>
      (c.updPlaces d = [] → c'.lan = c.lan)
      ∧ (c.updPlaces d ≠ [] → ∃ u, c'.satUpd (d.byte 0) = some u ∧ u.op = d.slot ∧ u.places = c.updPlaces d
          ∧ u.bank = c.satBank d ∧ u.step = 0))
  ∧ Ends .lanCfgSave rowLanCfgSave (fun _ c c' =>
      c'.fld SYS_CFG_STAT.A_VALID = 1 ∧ c'.fld SYS_CFG_STAT.B_VALID = 1 ∧ c'.cfgCopy 0 = c'.cfgCopy 1
        ∧ (c'.cfgCopy 0).words = c.liveImage.words ∧ (c'.cfgCopy 0).tables = c.liveImage.tables)
  ∧ Ends .lanCfgChoose rowLanCfgChoose (fun d _ c' =>
      c'.lan.chooseDue = some (d.byte 0) ∧ c'.lan.chooseOp = some d.slot ∧ c'.lan.liveOk = true)
  ∧ Ends .lanBootSplit rowLanBootSplit (fun d c c' =>
      c'.fld LAN_BANK_STAT.SPLIT_NEXT = d.byte 0 % 2 ∧ c'.lan = c.lan)

/-- The opcodes of sessions and keys (R416 to R423, R432): the right answer to a challenge, or the right password, opens a
session of the slot's role; a wrong one counts against its slot; the unlock, the session list, the keys and the verifier. -/
def Sys2Proof.Claims.SessionOpcodes : Prop :=
  Takes .secChallenge rowSecChallenge (fun d c =>
    let x := (c.commit d.slot).challenge (d.byte 0) 0
    x.2.2.doneWith d.slot (d.at 8 8) (le 32 x.2.1.toNat) (pN x.1.toNat))
  ∧ Takes .secRespond rowSecRespond (fun d c =>
      let h := BitVec.ofNat 16 (d.at 0 2)
      match c.findChallenge h 0 with
      | none => c.complete d.slot 3 0xF109
      | some x =>
        let c := c.useChallenge h
        if c.blocked x.slot then c.complete d.slot 3 0xF107
        else if 16 ≤ c.sec.sessions.length then c.complete d.slot 3 0xF108
        else if d.buf.take 32 = c.expected x then
          let y := ((c.commit d.slot).authPass x.slot).openSession (c.key x.slot).role x.slot 0
          y.2.done d.slot (pN y.1.toNat)
        else ((c.commit d.slot).authFail x.slot 0).complete d.slot 8 0xF104)
  ∧ Takes .secPassword rowSecPassword (fun d c =>
      let k := c.key 8
      if pbkdf2 (d.buf.take (d.byte 0)) (le 16 k.salt.toNat) k.iter = k.bytes then
        let y := ((c.commit d.slot).authPass 8).openSession 1 8 0
        y.2.done d.slot (pN y.1.toNat)
      else ((c.commit d.slot).authFail 8 0).complete d.slot 8 0xF105)
  ∧ Takes .secClose rowSecClose (fun d c =>
      let id := BitVec.ofNat 16 (d.at 0 2)
      if id = 0 ∨ id = d.session then ((c.commit d.slot).endSession d.session 0).done d.slot
      else ((c.commit d.slot).endSession id 4).done d.slot)
  ∧ Ends .secUnlock rowSecUnlock (fun d c c' =>
      c'.sec = { c.sec with unlock := if d.byte 0 = 1 then some d.session else none })
  ∧ Takes .secList rowSecList (fun d c =>
      (c.commit d.slot).doneWith d.slot (d.at 8 8)
        ((c.sec.sessions.flatMap (Session.bytes c.tim.clock) ++ List.replicate 256 0).take 256))
  ∧ Ends .secKeySet rowSecKeySet (fun d c c' =>
      (d.byte 2 = 0 → (c'.key (d.byte 0)).role = d.byte 1
        ∧ (c'.key (d.byte 0)).key = BitVec.ofNat 256 (fromLe (d.buf.take 32)))
      ∧ (d.byte 2 = 1 → (c'.key (d.byte 0)).role = 0)
      ∧ (∀ n, n ≠ d.byte 0 → c'.key n = c.key n) ∧ c'.sec.sessions = c.sec.sessions ∧ c'.sec.unlock = c.sec.unlock)
  ∧ Ends .secPasswordSet rowSecPasswordSet (fun d c c' =>
      (d.byte 0 = 0 → (c'.key 8).role = 0)
      ∧ (d.byte 0 ≠ 0 → (c'.key 8).role = 1 ∧ (c'.key 8).iter = d.at 4 4 ∧ (c'.key 8).salt = Config.salt c.free
          ∧ (c'.key 8).key
            = BitVec.ofNat 256 (fromLe (pbkdf2 (d.buf.take (d.byte 0)) (le 16 (Config.salt c.free).toNat) (d.at 4 4))))
      ∧ (∀ n, n ≠ 8 → c'.key n = c.key n) ∧ c'.sec.sessions = c.sec.sessions)

/-- An accepted descriptor becomes the operation in flight of its slot, and one with a trigger waits for it (R312, R313,
R44). -/
def Obligations.DescriptorsAccepted : Prop := Sys2Proof.Claims.DescriptorAccepted ∧ Sys2Proof.Claims.TriggeredCommandsWait

/-- A descriptor that a check refuses completes with the check's status; a FENCE holds it; an undefined opcode completes
ILLEGAL_OPCODE (R312, R314). -/
def Obligations.DescriptorsTurnedAway : Prop := Sys2Proof.Claims.DescriptorRefused ∧ Sys2Proof.Claims.FenceHolds ∧ Sys2Proof.Claims.UndefinedOpcode

/-- The opcodes of the rings and the abort (R317, R331). -/
def Obligations.RingOpcodes : Prop := Sys2Proof.Claims.HostOpcodes ∧ Sys2Proof.Claims.AbortOpcode

/-- The opcodes of the chain, the tile array, the estimator, the tracker and the converters (R106, R136, R170, R195,
R229). -/
def Obligations.CellOpcodes : Prop := Sys2Proof.Claims.ChainTileOpcodes ∧ Sys2Proof.Claims.EstimatorEngineOpcodes

/-- The opcodes of the fabric, of dispatch, of field I/O and of the recorder (R260, R281, R388, R411). -/
def Obligations.PlantOpcodes : Prop := Sys2Proof.Claims.FabricOpcodes ∧ Sys2Proof.Claims.FieldRecorderOpcodes

/-- The opcodes of the lanes and of the sessions (R363, R432). -/
def Obligations.LaneAndSessionOpcodes : Prop := Sys2Proof.Claims.LaneOpcodes ∧ Sys2Proof.Claims.SessionOpcodes

end Descriptors

namespace Sys2Proof.Claims

open Sys2Proof.Machine

/-- The rows whose action waits for a trigger. -/
def triggered : List Row :=
  [rowSysWarmReset, rowTilKernelSwitch, rowThmAoSet, rowCnvStart, rowCnvStop, rowCnvMode, rowCnvSetpoint, rowDspRequest,
   rowSafClose, rowSafOpen, rowFioDoWrite, rowCanSend, rowLanHandover]

/-- A FRAME or POSTMARK trigger of an operation of row `r` in slot `slot` is due, at a slot at which its block accepts
work. -/
def Due (r : Row) (s : State) (slot : Nat) (o : Op) (t : Trig) : Prop :=
  s.card.op slot = some o ∧ o.opcode = r.opcode ∧ o.trig = some t ∧ t.kind ≠ 0 ∧ s.card.trigDue t = true
    ∧ r.slots s.card.tim.slot = true ∧ o.produced = false ∧ ¬(t.kind = 2 ∧ s.card.unqualified = true)

/-- The card once the trigger of the operation in a slot has left the time unit. -/
def released (c : Card) (slot : Nat) : Card := c.modOp slot fun x => { x with trig := none }

end Sys2Proof.Claims

section Triggers

open Sys2Proof Sys2Proof.Machine Sys2Proof.Claims

/-- TRIGGER_FIRE (R44): the due action of each triggered command takes effect; and a trigger that is not due, an empty
slot, and an operation without a trigger stay as they are. -/
def Sys2Proof.Claims.TriggerFires : Prop :=
  (∀ r ∈ triggered, ∀ (s : State) (slot : Nat) (o : Op) (t : Trig), Live s → Due r s slot o t →
    (r.hold && s.card.holding) = false → (r.drain o.desc && s.card.draining) = false →
    Becomes (.triggerFire slot) s (r.fire slot (released s.card slot)))
  ∧ (∀ (s : State) (slot : Nat), Live s → (∀ o, s.card.op slot = some o → o.trig.any s.card.trigDue = false) →
      Becomes (.triggerFire slot) s s.card)

/-- A trigger that comes due while the card holds for configuration or drains is refused (R361): CFG_HOLD comes first. -/
def Sys2Proof.Claims.TriggerRefused : Prop :=
  ∀ r ∈ triggered, ∀ (s : State) (slot : Nat) (o : Op) (t : Trig), Live s → Due r s slot o t →
    ((r.hold && s.card.holding) = true → Becomes (.triggerFire slot) s ((released s.card slot).complete slot 3 0xB0F0))
    ∧ ((r.hold && s.card.holding) = false → (r.drain o.desc && s.card.draining) = true →
        Becomes (.triggerFire slot) s ((released s.card slot).complete slot 3 0x0003))

/-- What firing leaves: a start of an idle engine that meets its conditions begins START_DELAY in the mode asked for; a stop
of a running engine begins STOP_DELAY; a close of an open string energises its first coil; a DO write sets the commands of
its mask. -/
def Obligations.TriggerEffects : Prop :=
  (∀ (s : State) (slot : Nat) (o : Op) (t : Trig), Live s → Due rowCnvStart s slot o t → s.card.holding = false →
    s.card.draining = false → StringNo (o.desc.byte 0) → o.desc.byte 1 ≤ 2 → s.card.cnvState (o.desc.byte 0) = 0 →
    s.card.startCheck (o.desc.byte 0) = none →
    Gives (.triggerFire slot) s fun c' => c'.cnvState (o.desc.byte 0) = 1 ∧ c'.cnvMode (o.desc.byte 0) = o.desc.byte 1)
  ∧ (∀ (s : State) (slot : Nat) (o : Op) (t : Trig), Live s → Due rowCnvStop s slot o t → StringNo (o.desc.byte 0) →
      s.card.cnvState (o.desc.byte 0) = 3 →
      Becomes (.triggerFire slot) s
        (((((released s.card slot).supersede (o.desc.byte 0)).commit slot).setPhase slot 1).setFld
          (CNV_STATUS.STATE (o.desc.byte 0)) 4))
  ∧ (∀ (s : State) (slot : Nat) (o : Op) (t : Trig), Live s → Due rowSafClose s slot o t → s.card.holding = false →
      s.card.draining = false → StringNo (o.desc.byte 0) → s.card.safState (o.desc.byte 0) = 0 →
      s.card.bit SAF_STATUS.ARMED = true → s.card.fld (CHN_LOOP.VERDICT (o.desc.byte 0)) ≠ 2 →
      s.card.bit (CHN_CTRL.MAINT (o.desc.byte 0)) = false →
      (s.card.safStr (o.desc.byte 0)).testOp = none → s.card.fld SAF_DRV_FAULT.FAULT / 2 ^ (5 * (o.desc.byte 0 - 1)) % 32 = 0 →
      Gives (.triggerFire slot) s fun c' => c'.safState (o.desc.byte 0) = 1
        ∧ (c'.safStr (o.desc.byte 0)).closeOp = some slot ∧ (c'.safStr (o.desc.byte 0)).seqAt = s.card.tim.clock)
  ∧ (∀ (s : State) (slot : Nat) (o : Op) (t : Trig), Live s → Due rowFioDoWrite s slot o t → s.card.holding = false →
      s.card.bit FIO_STATUS.LINK_OK = true →
      (s.card.fio.setNow.any fun x => decide (o.order < x.1) && x.2 &&& BitVec.ofNat 8 (o.desc.byte 0) != 0) = false →
      (s.card.running.any fun x => decide (x.2.opcode = 0x90) && decide (o.order < x.2.order)) = false →
      Gives (.triggerFire slot) s fun c' => c'.fld FIO_DO_STATE.CMD
        = ((BitVec.ofNat 8 (s.card.fld FIO_DO_STATE.CMD) &&& ~~~BitVec.ofNat 8 (o.desc.byte 0))
            ||| (BitVec.ofNat 8 (o.desc.byte 0) &&& BitVec.ofNat 8 (o.desc.byte 1))).toNat)

/-- A due trigger fires its command's action, or is refused while the card holds or drains (R44, R361). -/
def Obligations.TriggersFire : Prop := Sys2Proof.Claims.TriggerFires ∧ Sys2Proof.Claims.TriggerRefused

end Triggers

section TimeAndFrame

open Sys2Proof Sys2Proof.Machine Sys2Proof.Claims

/-- What P2 Ethernet brings to the time unit (R28 to R34): a Sync, an Announce, silence of a port, and the two halves of a
delay measurement. -/
def Sys2Proof.Claims.PtpEvents : Prop :=
  (∀ (s : State) (port : Nat) (offset : Int), Live s → s.card.bit TIM_CTRL.PTP_EN = true → port < 2 →
    s.card.tim.moveDue = none →
    Gives (.syncReceived port offset) s fun c' => (c'.port port).link = true
      ∧ (c'.port port).lastSync = s.card.tim.clock
      ∧ (port = s.card.fld TIM_STATUS.ACTIVE_PORT → s.card.laneRuns = true →
          c'.sfld TIM_OFFSET.OFFSET = clampInt (-2147483647) 2147483647 offset))
  ∧ (∀ (s : State) (port : Nat) (a : Announce), Live s → s.card.bit TIM_CTRL.PTP_EN = true → port < 2 →
      a.domain = s.card.fld TIM_CTRL.DOMAIN →
      Gives (.announceReceived port a) s fun c' => (c'.port port).ann = some a ∧ (c'.port port).link = true
        ∧ (port = s.card.fld TIM_STATUS.ACTIVE_PORT → c'.fld TIM_UTC_OFFSET.UTC_OFFSET = a.utcOffset.toNat
            ∧ c'.tim.gm = some a.gm))
  ∧ (∀ (s : State) (port : Nat), Live s → port < 2 →
      Gives (.announceTimeout port) s fun c' => (c'.port port).ann = none
        ∧ ((s.card.port (1 - port)).ann = none → s.card.fld TIM_STATUS.TIME_STATE = 1 →
            s.card.fld TIM_HOLDOVER_CFG.HOLDOVER_LIMIT ≠ 0 → c'.fld TIM_STATUS.TIME_STATE = 2))
  ∧ (∀ (s : State) (port : Nat), Live s → port < 2 →
      Gives (.portLinkLoss port) s fun c' => (c'.port port).link = false
        ∧ c'.fld TIM_STATUS.TIME_STATE = s.card.fld TIM_STATUS.TIME_STATE)
  ∧ (∀ s : State, Live s → s.card.fld TIM_STATUS.TIME_STATE = 2 →
      Gives .holdoverLimitExpiry s fun c' => c'.fld TIM_STATUS.TIME_STATE = 0 ∧ c'.tim.qualified = s.card.tim.qualified)
  ∧ (∀ (s : State) (port seqId : Nat), Live s → (∀ x ∈ s.card.tim.tsq, ¬(x.1 = seqId ∧ x.2.1 = port)) →
      s.card.tim.tsq.length < 32 →
      Gives (.delayReqEgress port seqId) s fun c' => c'.tim.tsq = s.card.tim.tsq ++ [(seqId, port, s.card.pm)]
        ∧ c'.fld TIM_TSQ_STAT.FILL = s.card.tim.tsq.length + 1)
  ∧ (∀ (s : State) (port seqId : Nat) (delay : Int), Live s →
      (s.card.tim.tsq.any fun x => decide (x.1 = seqId ∧ x.2.1 = port)) = true →
      Gives (.delayRespReceived port seqId delay) s fun c' => (c'.port port).delay = delay
        ∧ (∀ x ∈ c'.tim.tsq, ¬(x.1 = seqId ∧ x.2.1 = port)))

/-- A full transmit stamp queue, or a key that stands in it, loses a stamp (R34): TSQ_OVF is set, and the first loss since
it was clear is recorded. -/
def Sys2Proof.Claims.StampQueueOverflow : Prop :=
  ∀ (s : State) (port seqId : Nat), Live s →
    ((∀ x ∈ s.card.tim.tsq, ¬(x.1 = seqId ∧ x.2.1 = port)) → 32 ≤ s.card.tim.tsq.length →
      s.card.bit TIM_STATUS.TSQ_OVF = false →
      Becomes (.delayReqEgress port seqId) s
        (((s.card.count TIM_TSQ_STAT.LOST).stick TIM_STATUS.TSQ_OVF).record 0x1011 [pN seqId, pN port]))
    ∧ ((∃ x ∈ s.card.tim.tsq, x.1 = seqId ∧ x.2.1 = port) →
        Gives (.delayReqEgress port seqId) s fun c' => c'.bit TIM_STATUS.TSQ_OVF = true
          ∧ c'.tim.tsq.getLast? = some (seqId, port, s.card.pm))

/-- The chassis frame pulse (R39, R40): the first valid edge in the window of a boundary ends FLYWHEEL; any other edge is
spurious; MISS_LIMIT frames without one make the state LOST. -/
def Obligations.FramePulse : Prop :=
  (∀ (s : State) (delta : Int), Live s → delta.natAbs ≤ s.card.fld TIM_PULSE_CFG.WINDOW → 0 ≤ delta →
    s.card.tim.gotCur = false → s.card.fld TIM_STATUS.PULSE_STATE ≠ 3 →
    Gives (.framePulseEdge delta) s fun c' => c'.fld TIM_STATUS.PULSE_STATE = 1 ∧ c'.tim.gotCur = true
      ∧ c'.tim.missRun = 0 ∧ c'.tim.validRun = s.card.tim.validRun + 1)
  ∧ (∀ (s : State) (delta : Int), Live s → s.card.fld TIM_PULSE_CFG.WINDOW < delta.natAbs →
      Becomes (.framePulseEdge delta) s ((s.card.jrnTime 2 delta).spuriousPulse delta))
  ∧ (∀ s : State, Live s → s.card.fld TIM_STATUS.PULSE_STATE ≠ 3 →
      s.card.fld TIM_PULSE_CFG.MISS_LIMIT ≤ s.card.tim.missRun →
      Becomes .pulseLost s
        ((s.card.setFld TIM_STATUS.PULSE_STATE 3).record 0x1020 [p32 (s.card.sfld TIM_PULSE_STAT.ERR)]))

/-- The snapshots of the time unit (R5, R53): one command shows the whole postmark, or the frame's postmark with its
number. -/
def Sys2Proof.Claims.TimeSnapshots : Prop :=
  (∀ s : State, Live s → Gives .timNowSnapshot s fun c' =>
    c'.fld TIM_NOW_LO.NOW + 2 ^ 32 * c'.fld TIM_NOW_HI.NOW = s.card.pm)
  ∧ (∀ s : State, Live s → s.card.tim.framePm < 2 ^ 64 → Gives .timFramePmSnapshot s fun c' =>
      c'.fld TIM_FRAME_PM_LO.FRAME_PM + 2 ^ 32 * c'.fld TIM_FRAME_PM_HI.FRAME_PM = s.card.tim.framePm
        ∧ c'.fld TIM_FRAME_NUM.FRAME_NUM = s.card.tim.frame.toNat)

/-- A step of plant time takes effect in slot 7 (R30, R47): the time counter moves by the step, STEP_SEEN is set. -/
def Sys2Proof.Claims.PlantTimeSteps : Prop :=
  ∀ (s : State) (d : Int), Live s → s.card.tim.slot = 7 → s.card.tim.stepDue = some d →
    Becomes .plantTimeStep s
      ((((({ s.card with tim.now := ((s.card.tim.now : Int) + d * 2 ^ 32).toNat, tim.stepDue := none }.jrnTime 3 d).stick
        TIM_STATUS.STEP_SEEN).record 0x1004 (pLoHi (code 64 d))).passTriggers s.card.pm).acctStep (decide (d < 0)))

/-- A slot boundary (R37): the rest of the slot's 125 µs passes, the ending slot's work ends, and the next slot begins with
its own. -/
def Sys2Proof.Claims.SlotBoundaries : Prop :=
  ∀ (s : State) (overrun : Bool), Live s → s.card.tim.slot < 7 →
    let c := (s.card.advance (125000 - s.card.tim.elapsed)).leaveSlot s.card.tim.slot overrun
    Becomes (.slotBoundary overrun) s
      ((({ c with tim.slot := s.card.tim.slot + 1, tim.elapsed := 0 }.everySlot).enterSlot (s.card.tim.slot + 1)
        overrun).fireImmediate)

/-- A frame boundary (R35, R36): slot 7 ends, the frame's journal entry closes, the frame counter advances by one mod 2^32
and slot 0 begins. A boundary that comes in another slot does nothing. -/
def Sys2Proof.Claims.FrameBoundaries : Prop :=
  (∀ (s : State) (overrun : Bool) (sensors : List Sensor) (ecc : List EccEvent), Live s → s.card.tim.slot = 7 →
    s.card.replayHolds = false →
    let c := s.card.advance (s.card.slot7Length - s.card.tim.elapsed)
    let c := if overrun then (c.overrun TIM_OVERRUN_CNT.PUBLISH 7).holdPages else c
    Becomes (.frameBoundary overrun sensors ecc) s
      (((c.endEntry.laneFrame.nextFrame.beginFrame sensors ecc).everySlot).fireImmediate))
  ∧ (∀ c : Card, c.rcd.loadedFrame = none → c.rcd.entry = none →
      c.nextFrame.tim.frame = c.tim.frame + 1 ∧ c.nextFrame.tim.slot = 0 ∧ c.nextFrame.tim.elapsed = 0
        ∧ c.nextFrame.tim.framePm = c.pm)
  ∧ (∀ (s : State) (overrun : Bool) (sensors : List Sensor) (ecc : List EccEvent), Live s → s.card.tim.slot ≠ 7 →
      Becomes (.frameBoundary overrun sensors ecc) s s.card)

/-- The frame's length (R35): slot 7 lasts 125 µs but for a correction of at most FRAME_SLEW either way. -/
def Sys2Proof.Claims.FrameSlewBound : Prop :=
  ∀ c : Card, c.fld TIM_STATUS.TIME_STATE = 1 → c.fld TIM_FRAME_CFG.FRAME_SLEW ≤ 400 →
    125000 - c.fld TIM_FRAME_CFG.FRAME_SLEW ≤ c.slot7Length
      ∧ c.slot7Length ≤ 125000 + c.fld TIM_FRAME_CFG.FRAME_SLEW

/-- Plant time from P2 Ethernet, and the transmit stamp queue (R28 to R34). -/
def Obligations.PtpAndStamps : Prop := Sys2Proof.Claims.PtpEvents ∧ Sys2Proof.Claims.StampQueueOverflow

/-- The snapshots of time, and steps of plant time (R5, R30, R31). -/
def Obligations.TimeReadingsAndSteps : Prop := Sys2Proof.Claims.TimeSnapshots ∧ Sys2Proof.Claims.PlantTimeSteps

/-- The slots and frames of the tick (R35 to R37, R43). -/
def Obligations.SlotsAndFrames : Prop := Sys2Proof.Claims.SlotBoundaries ∧ Sys2Proof.Claims.FrameBoundaries ∧ Sys2Proof.Claims.FrameSlewBound

end TimeAndFrame

section Chains

open Sys2Proof Sys2Proof.Machine Sys2Proof.Claims

/-- Upload segments (R84): a segment that passes every check enters the chain's frame with its journal item; a CRC error and
a mismatch of frame, length or train set their flags and nothing else of the chain. A chain that is not enabled, and a
late segment, are ignored. -/
def Sys2Proof.Claims.UploadSegments : Prop :=
  ∀ (s : State) (n port : Nat) (late : Bool) (bytes : List Byte), Live s → StringNo n → port < 2 →
    (s.card.bit (CHN_CTRL.EN n) = false ∨ late = true → Becomes (.uploadSegment n port late bytes) s s.card)
    ∧ (s.card.bit (CHN_CTRL.EN n) = true → late = false → crcBody bytes = none →
        Gives (.uploadSegment n port late bytes) s fun c' => c'.bit (CHN_STICKY.CRC_ERR n) = true ∧ c'.chn = s.card.chn)
    ∧ (∀ b, s.card.bit (CHN_CTRL.EN n) = true → late = false → crcBody bytes = some b →
        let good := bytes.length = segmentLength (beAt b 1 1 / 4 % 4) ∧ beAt b 1 1 / 16 = s.card.frame.toNat % 16
          ∧ s.card.trainNext n port (beAt b 0 1) = true
        (good → Becomes (.uploadSegment n port late bytes) s
          ((s.card.jrn 0x02 (n + 8 * port) bytes).takeSegment n port (beAt b 0 1) b))
        ∧ (¬good → Becomes (.uploadSegment n port late bytes) s (s.card.stick (CHN_STICKY.FRAME_MISMATCH n))))

/-- A chain's links, its probes and its census (R74, R78, R92): a change of link shows and makes a census due; a probe's
turn-around gives the delay compensation of its side; a ring found broken opens the string. -/
def Sys2Proof.Claims.ChainLinksAndCensus : Prop :=
  (∀ (s : State) (n port : Nat) (up : Bool) (viol : Nat), Live s → StringNo n → port < 2 →
    let f := if port = 0 then CHN_STATUS.HEAD_LINK n else CHN_STATUS.TAIL_LINK n
    s.card.bit f ≠ up →
    Gives (.chainLinkChange n port up viol) s fun c' => c'.bit f = up ∧ (c'.chain n).censusDue = true)
  ∧ (∀ (s : State) (n place delay : Nat), Live s → StringNo n → 1 ≤ place → place ≤ 32 →
      ((s.card.sat n place).probeH = true → Gives (.probeTurnAround n 0 place delay) s fun c' =>
        c'.sat n place = { s.card.sat n place with probeH := false, dcompH := code 16 (quot ((delay : Int) - 1000) 2) })
      ∧ ((s.card.sat n place).probeT = true → Gives (.probeTurnAround n 1 place delay) s fun c' =>
        c'.sat n place = { s.card.sat n place with probeT := false, dcompT := code 16 (quot ((delay : Int) - 1000) 2) }))
  ∧ (∀ (s : State) (n : Nat) (head tail : List CensusEntry), Live s → StringNo n →
      let c := s.card.takeCensus n head tail
      Becomes (.census n head tail) s
        (if s.card.fld (CHN_STATUS.RING_STATE n) ≠ 3 ∧ c.fld (CHN_STATUS.RING_STATE n) = 3 then c.fabricOpen n 9 true else c))

/-- A chain that has been silent for 8 frames is reset with cause 1, and again every 64 frames (R104). -/
def Sys2Proof.Claims.ChainControllerResets : Prop :=
  ∀ (s : State) (n : Nat), Live s → StringNo n →
    ((s.card.chain n).downFrames = 8 ∨ (8 < (s.card.chain n).downFrames ∧ ((s.card.chain n).downFrames - 8) % 64 = 0) →
      Becomes (.chainControllerReset n) s (s.card.requestChainReset n 1))
    ∧ (((s.card.chain n).downFrames < 8) → Becomes (.chainControllerReset n) s s.card)

/-- A chain reset (R104): its requests and censuses end, its ring state and links clear, and event 0x2007 names its
cause. -/
def Sys2Proof.Claims.ChainResets : Prop :=
  ∀ (s : State) (n cause : Nat), Live s → StringNo n → (s.card.chain n).resetCause = some cause →
    let x := s.card.chain n
    let c := s.card.each places fun c p => c.flushSat n p
    let c := c.each x.censusOps fun c slot => c.complete slot 0x0A 0x2005
    let c := c.setChain n { x with
      resetCause := none, censusOps := [], censusDue := true, resumeSeq := true, resetFrames := 0
      trainHead := 33, trainTail := 0 }
    let c := c.each x.resetOps fun c slot => c.commit slot
    let c := (c.setFld (CHN_STATUS.RING_STATE n) 0).setFld (CHN_STATUS.BREAK_AFTER n) 0
    let c := (c.setBit (CHN_STATUS.HEAD_LINK n) false).setBit (CHN_STATUS.TAIL_LINK n) false
    Becomes (.chainReset n) s ((c.isolate n).recordStr n 0x2007 [pN n, pN cause])

/-- Answers of satellites (R85, R87, R91): one that fails its CRC is counted; one that answers the outstanding request of
its satellite ends the request; a time-out resends up to RETRY times and then gives the request up. -/
def Obligations.SatelliteAnswers : Prop :=
  (∀ (s : State) (n port : Nat) (bytes : List Byte), Live s → StringNo n → port < 2 →
    s.card.bit (CHN_CTRL.EN n) = true → crcBody bytes = none →
    Becomes (.satResponse n port bytes) s ((s.card.count (CHN_ERR_CNT.CRC n)).stick (CHN_STICKY.CRC_ERR n)))
  ∧ (∀ (s : State) (n port : Nat) (bytes b : List Byte) (p : Nat) (r : Req), Live s → StringNo n → port < 2 →
      s.card.bit (CHN_CTRL.EN n) = true → crcBody bytes = some b → responseType (beAt b 0 1) = true → beAt b 0 1 ≠ 0x87 →
      beAt b 1 1 = 0xFF → b.length = 6 + beAt b 4 2 → beAt b 4 2 ≠ 0 →
      s.card.answering n (beAt b 0 1) (beAt b 2 1) (beAt b 3 1) = some (p, r) →
      let status := min (beAt b 6 1) 5
      let c := (s.card.jrnPacket n bytes).modSat n p fun x => { x with out := none }
      let c := if status ≤ 1 then c.goodAnswer n p status r (b.drop 7) else c.refusedReq n p status r
      Becomes (.satResponse n port bytes) s (if 3 ≤ c.tim.slot then c.pumpRequests n else c))
  ∧ (∀ (s : State) (n place : Nat) (r : Req), Live s → StringNo n → 1 ≤ place → place ≤ 32 →
      (s.card.sat n place).out = some r → s.card.fld (CHN_TIMING.RSP_TIMEOUT n) ≤ framesSince s.card.frame r.sentAt →
      (r.resends < s.card.fld (CHN_TIMING.RETRY n) → Gives (.satRspTimeout n place) s fun c' =>
        ∃ r', (c'.sat n place).out = some r' ∧ r'.resends = r.resends + 1 ∧ r'.seq = r.seq ∧ r'.typ = r.typ
          ∧ r'.payload = r.payload ∧ r'.sentAt = s.card.frame)
      ∧ (s.card.fld (CHN_TIMING.RETRY n) ≤ r.resends → Becomes (.satRspTimeout n place) s
          ((s.card.setSat n place { s.card.sat n place with out := none }).unanswered n place r)))

/-- A satellite that has been silent for SILENT_LIMIT frames is LOST (R96): its requests end, and so do the operations and
the update that address it. -/
def Sys2Proof.Claims.SatelliteLoss : Prop :=
  ∀ (s : State) (n place : Nat), Live s → StringNo n → 1 ≤ place → place ≤ 32 →
    s.card.satState n place = 2 ∨ s.card.satState n place = 5 →
    s.card.fld (CHN_TIMING.SILENT_LIMIT n) ≤ (s.card.sat n place).silent →
    let reason := 0x2100 + placeKey n place
    let c := (s.card.setSatState n place 3).recordStr n 0x2005 [pN n, pN place, (s.card.sat n place).lastFrame]
    let c := c.modSat n place fun x => { x with out := none, queue := [], admitting := false, admitOp := none }
    let c := c.each c.running fun c y => if y.2.addresses n place then c.complete y.1 0x0B reason else c
    Becomes (.satelliteLost n place) s
      (match c.satUpd n with
       | some u => if u.places.headD 0 = place then c.endUpdate n u 0x0B reason else c
       | none => c)

/-- The safety loop of a chain (R102): the end's code and the verdict over both ends show; a verdict of 2 opens the string
at once, and a verdict of 1 is recorded. -/
def Sys2Proof.Claims.LoopCodes : Prop :=
  ∀ (s : State) (n : Nat) (tailEnd : Bool) (k : Nat), Live s → StringNo n → k ≤ 4 →
    let f := if tailEnd then CHN_LOOP.TAIL_CODE n else CHN_LOOP.HEAD_CODE n
    let c := (s.card.setFld f k).jrnField (2 * (n - 1) + (if tailEnd then 1 else 0)) k
    let h := c.fld (CHN_LOOP.HEAD_CODE n)
    let t := c.fld (CHN_LOOP.TAIL_CODE n)
    let old := s.card.fld (CHN_LOOP.VERDICT n)
    let c := c.setFld (CHN_LOOP.VERDICT n) (loopVerdict h t)
    (loopVerdict h t = 2 → old ≠ 2 → Becomes (.loopCodeChange n tailEnd k) s (c.fabricOpen n 0 true))
    ∧ (loopVerdict h t = 1 → old ≠ 1 →
        Becomes (.loopCodeChange n tailEnd k) s (c.recordStr n 0x200A [pN n, pN h, pN t]))
    ∧ (loopVerdict h t = 0 ∨ loopVerdict h t = old → Becomes (.loopCodeChange n tailEnd k) s c)

/-- The chain's uploads, links, probes and census (R74, R78, R84, R92). -/
def Obligations.ChainTraffic : Prop := Sys2Proof.Claims.UploadSegments ∧ Sys2Proof.Claims.ChainLinksAndCensus

/-- Chain resets and what causes them (R104, R105). -/
def Obligations.ChainResetsAndCauses : Prop := Sys2Proof.Claims.ChainControllerResets ∧ Sys2Proof.Claims.ChainResets

/-- The loss of a satellite, and the safety loop's codes (R96, R102). -/
def Obligations.SatelliteLossAndLoop : Prop := Sys2Proof.Claims.SatelliteLoss ∧ Sys2Proof.Claims.LoopCodes

end Chains

namespace Sys2Proof.Claims

open Sys2Proof.Machine

/-- Logical tile `x.tile` runs a batch and stalls on nothing, and no memory error or residue error meets the
instruction. -/
def Ready (x : TileOp) (s : State) : Prop :=
  x.tile < 256 ∧ s.card.noTile x.tile = false ∧ (s.card.tile (s.card.phys x.tile)).run = 1
    ∧ (s.card.tile (s.card.phys x.tile)).stall = none ∧ x.hw.uncorrectable = none ∧ x.hw.laneCheck = none

/-- The card once the instruction is fetched: its cycle and its corrected errors are counted. -/
def fetched (x : TileOp) (c : Card) : Card :=
  (c.modTile (c.phys x.tile) fun y => { y with
    cycles := y.cycles.set (fun _ => 0) y.batch (y.cycles.get (fun _ => 0) y.batch + 1), stepped := true }).corrected
      (c.phys x.tile) x.hw.corrected

/-- The tile as the instruction finds it. -/
def tileAt (x : TileOp) (c : Card) : Tile := (fetched x c).tile (c.phys x.tile)

/-- Instruction `i` on a ready tile: wherever `g` gives an outcome, that is what the tile does, and the instruction's free
value is used up. -/
def Does (i : TileOp → Instr) (g : TileCtx → Tile → TileOp → Option TileOut) : Prop :=
  ∀ (s : State) (x : TileOp) (o : TileOut), Live s → Ready x s →
    g ((fetched x s.card).tileCtx x.tile) (tileAt x s.card) x = some o →
    Becomes (i x) s ((fetched x s.card).tileOut x.tile (tileAt x s.card) o).draw.2

/-- The outcome where the instruction's fields meet its row. -/
def fields (ok : Bool) (o : TileOut) : Option TileOut := if ok then some o else none

/-- D takes `v` in the lanes `ls`, and `f` and the INPUT flags of the sources go into their flag words, where no operand
traps. -/
def writes (k : TileCtx) (t : Tile) (x : TileOp) (srcs : List (BitVec 9)) (ls : List Nat) (v f : Nat → Nat) :
    Option TileOut :=
  if t.range srcs = none ∧ t.writeTrap k.cls x.d ls = none then
    some (.ok ((t.writeD x.d ls v).mapLanes ls fun l y =>
      y.flag (srcs.foldl (fun a s => a ||| t.inputFlag s l) (f l))))
  else none

/-- In every lane whose P is 1 the accumulator that V selects becomes `g` of it, held to 48 bits with the ACC flag. -/
def accumulates (t : Tile) (x : TileOp) (srcs : List (BitVec 9)) (g : Nat → Int → Int) : Option TileOut :=
  if t.range srcs = none then
    some (.ok (t.mapLanes t.on fun l y =>
      let r := clampAcc (g l (if x.v.getLsbD 2 then y.acc1 else y.acc0))
      let y := y.flag (srcs.foldl (fun a s => a ||| t.inputFlag s l) (if r.2 then 1 else 0))
      if x.v.getLsbD 2 then { y with acc1 := r.1 } else { y with acc0 := r.1 }))
  else none

/-- The value of a lane's operand, signed or unsigned. -/
def val (t : Tile) (sgn : Bool) (f : BitVec 9) (l : Nat) : Int := val18 sgn (t.read f l)

/-- D takes the result of an 18-bit operation, clamped to its format, with the ALU flag where it was clamped. -/
def computes (k : TileCtx) (t : Tile) (x : TileOp) (srcs : List (BitVec 9)) (dst : Bool) (g : Nat → Int) : Option TileOut :=
  writes k t x srcs t.on (fun l => (clamp18 dst (g l)).1) (fun l => if (clamp18 dst (g l)).2 then 4 else 0)

/-- P of every lane becomes `g`, where no operand traps. -/
def predicates (t : Tile) (srcs : List (BitVec 9)) (g : Nat → Bool → Bool) : Option TileOut :=
  if t.range srcs = none then
    some (.ok (t.mapLanes lanes8 fun l y =>
      { (y.flag (srcs.foldl (fun a s => a ||| t.inputFlag s l) 0)) with p := g l y.p }))
  else none

/-- A comparison of A and B in every lane; `conj` ANDs it into P. -/
def compares (t : Tile) (x : TileOp) (sgn conj : Bool) : Option TileOut :=
  if x.v.toNat ≤ 5 ∧ x.d = 0 then
    predicates t [x.a, x.b] fun l p =>
      let r := (condition x.v.toNat (val t sgn x.a l) (val t sgn x.b l)).getD false
      if conj then p && r else r
  else none

/-- The fields that each tile instruction's row admits (R118); where they do not meet it, RESERVED traps. -/
def rowFields : List ((TileOp → Instr) × (TileOp → Bool)) :=
  [(.tileNop, bare), (.halt, bare),
   (.setb, fun x => decide (x.v = 0 ∧ x.d.toNat % 64 = 0 ∧ immOf x < 65536)),
   (.addb, fun x => decide (x.v = 0 ∧ x.d.toNat % 64 = 0)),
   (.setl, fun x => decide (x.v = 0 ∧ x.d.toNat < 4 ∧ 1 ≤ immOf x ∧ immOf x < 65536)),
   (.loop, fun x => decide (x.v = 0 ∧ x.d.toNat < 4 ∧ immOf x < 2048)),
   (.jmp, fun x => decide (x.v = 0 ∧ x.d = 0 ∧ immOf x < 2048)),
   (.bany, fun x => decide (x.v = 0 ∧ x.d = 0 ∧ immOf x < 2048)),
   (.bnone, fun x => decide (x.v = 0 ∧ x.d = 0 ∧ immOf x < 2048)),
   (.wait, fun x => decide (x.v.toNat ≤ 1 ∧ x.d = 0 ∧ x.a = 0 ∧ x.b = 0)),
   (.flagrd, fun x => decide (x.v = 0 ∧ x.a = 0 ∧ x.b = 0)),
   (.flagclr, fun x => decide (x.v = 0 ∧ x.d = 0 ∧ x.a = 0 ∧ x.b.toNat < 16)),
   (.frmrd, fun x => decide (x.v.toNat ≤ 1 ∧ x.a = 0 ∧ x.b = 0)),
   (.laneid, fun x => decide (x.v = 0 ∧ x.a = 0 ∧ x.b = 0)),
   (.mac, fun x => decide (x.d = 0)), (.msu, fun x => decide (x.d = 0)), (.mul, fun x => decide (x.d = 0)),
   (.accld, fun x => decide (x.d = 0 ∧ x.b.toNat ≤ 41 ∧ x.v.toNat % 2 = 0)),
   (.accadd, fun x => decide (x.d = 0 ∧ x.b.toNat ≤ 41 ∧ x.v.toNat % 2 = 0)),
   (.narrow, fun x => decide (x.a = 0 ∧ x.b.toNat ≤ 41)),
   (.add, fun x => decide (x.v.toNat ≤ 1)), (.sub, fun x => decide (x.v.toNat ≤ 1)),
   (.min, fun x => decide (x.v.toNat ≤ 1)), (.max, fun x => decide (x.v.toNat ≤ 1)),
   (.neg, fun x => decide (x.v = 1 ∧ x.b = 0)), (.abs, fun x => decide (x.v = 1 ∧ x.b = 0)),
   (.shl, fun x => decide (x.v.toNat ≤ 1 ∧ x.b.toNat ≤ 17)), (.shr, fun x => decide (x.v.toNat ≤ 1 ∧ x.b.toNat ≤ 17)),
   (.conv, fun x => decide (x.v.toNat ≤ 3 ∧ x.b = 0)), (.mov, fun x => decide (x.v = 0 ∧ x.b = 0)),
   (.and, fun x => decide (x.v = 0)), (.or, fun x => decide (x.v = 0)), (.xor, fun x => decide (x.v = 0)),
   (.sel, fun x => decide (x.v = 0)),
   (.cmps, fun x => decide (x.v.toNat ≤ 5 ∧ x.d = 0)), (.cmpu, fun x => decide (x.v.toNat ≤ 5 ∧ x.d = 0)),
   (.cmpsa, fun x => decide (x.v.toNat ≤ 5 ∧ x.d = 0)), (.cmpua, fun x => decide (x.v.toNat ≤ 5 ∧ x.d = 0)),
   (.setp, fun x => decide (x.v.toNat ≤ 3 ∧ x.d = 0 ∧ x.a = 0 ∧ x.b = 0)),
   (.xchg, fun x => decide (x.v.toNat ≤ 4 ∧ x.b = 0)),
   (.reduce, fun x => decide (x.v.toNat ≤ 4 ∧ x.d.toNat < 64 ∧ x.b = 0))]

/-- The instructions that read A and B and write D, with their sources. -/
def twoSources : List (TileOp → Instr) := [.add, .sub, .min, .max, .and, .or, .xor]

/-- The tile instructions. -/
def tileInstrs : List (TileOp → Instr) := rowFields.map (·.1) ++ [.lut]

end Sys2Proof.Claims

section Tiles

open Sys2Proof Sys2Proof.Machine Sys2Proof.Claims

/-- What an outcome does to the tile (R115, R118): it goes on at the next instruction or at the branch target with its stall
ended, and an index past 2,047 traps PC_OVERFLOW; a stall keeps the program counter. -/
def Sys2Proof.Claims.TileOutcomes : Prop :=
  ∀ (c : Card) (t : Nat) (y y' : Tile) (pc : Nat),
    (pc < 2048 → (c.tileOut t y (.goto y' pc)).tile (c.phys t) = { y' with pc := pc, stall := none })
    ∧ (y.pc < 2047 → (c.tileOut t y (.ok y')).tile (c.phys t) = { y' with pc := y.pc + 1, stall := none })
    ∧ (y.pc = 2047 → c.tileOut t y (.ok y')
        = (c.setTile (c.phys t) { y' with pc := 0, stall := none }).trapTile t 9 2047 0)
    ∧ (c.tileOut t y (.stall y' .input)).tile (c.phys t) = { y' with stall := some .input }
    ∧ ∀ n, n ≠ c.phys t → (c.tileOut t y (.goto y' (pc % 2048))).tile n = c.tile n

/-- Control of a batch (R118): the base registers, the loop counters, the branches, WAIT, the flags, NOP and HALT. -/
def Obligations.TileControl : Prop :=
  Does .tileNop (fun _ t x => fields (bare x) (.ok t))
  ∧ Does .halt (fun _ _ x => fields (bare x) .halt)
  ∧ Does .setb (fun _ t x => fields (decide (x.v = 0 ∧ x.d.toNat % 64 = 0 ∧ immOf x < 65536))
      (.ok { t with b := t.b.set (fun _ => 0) (x.d.toNat / 64) (immOf x) }))
  ∧ Does .addb (fun _ t x => fields (decide (x.v = 0 ∧ x.d.toNat % 64 = 0))
      (let v := code 16 ((t.base (x.d.toNat / 64) : Int) + val18 true (immOf x))
       .ok { t with b := t.b.set (fun _ => 0) (x.d.toNat / 64) v }))
  ∧ Does .setl (fun _ t x => fields (decide (x.v = 0 ∧ x.d.toNat < 4 ∧ 1 ≤ immOf x ∧ immOf x < 65536))
      (.ok { t with l := t.l.set (fun _ => 0) x.d.toNat (immOf x) }))
  ∧ Does .loop (fun _ t x => fields (decide (x.v = 0 ∧ x.d.toNat < 4 ∧ immOf x < 2048))
      (if t.count x.d.toNat = 0 then .ok t
       else if t.count x.d.toNat = 1 then .ok { t with l := t.l.set (fun _ => 0) x.d.toNat 0 }
       else .goto { t with l := t.l.set (fun _ => 0) x.d.toNat (t.count x.d.toNat - 1) } (immOf x)))
  ∧ Does .jmp (fun _ t x => fields (decide (x.v = 0 ∧ x.d = 0 ∧ immOf x < 2048)) (.goto t (immOf x)))
  ∧ Does .bany (fun _ t x => fields (decide (x.v = 0 ∧ x.d = 0 ∧ immOf x < 2048))
      (if t.on ≠ [] then .goto t (immOf x) else .ok t))
  ∧ Does .bnone (fun _ t x => fields (decide (x.v = 0 ∧ x.d = 0 ∧ immOf x < 2048))
      (if t.on = [] then .goto t (immOf x) else .ok t))
  ∧ Does .wait (fun k t x => fields (decide (x.v = 0 ∧ x.d = 0 ∧ x.a = 0 ∧ x.b = 0))
      (if k.filled then .ok t else .stall t .input))
  ∧ Does .wait (fun k t x => fields (decide (x.v = 1 ∧ x.d = 0 ∧ x.a = 0 ∧ x.b = 0))
      (if t.contributed.all k.complete then .ok t else .stall t .reductions))
  ∧ Does .flagclr (fun _ t x => fields (decide (x.v = 0 ∧ x.d = 0 ∧ x.a = 0 ∧ x.b.toNat < 16))
      (.ok (t.mapLanes t.on fun _ y => { y with flags := y.flags &&& (15 - x.b.toNat) })))

/-- Moves into D (R110, R118, R119): the flag word, the frame number, the lane's identity, a copy, the bitwise operations, a
selection by P (through a shared D the lane whose P is 1 writes, and with none the lanes' common value), and a table's
interpolated value. -/
def Sys2Proof.Claims.TileMoves : Prop :=
  Does .flagrd (fun k t x => if x.v = 0 ∧ x.a = 0 ∧ x.b = 0
    then writes k t x [] t.on (fun l => (t.lane l).flags) (fun _ => 0) else none)
  ∧ Does .frmrd (fun k t x => if x.v = 0 ∧ x.a = 0 ∧ x.b = 0
      then writes k t x [] t.on (fun _ => k.frame.toNat % 2 ^ 18) (fun _ => 0) else none)
  ∧ Does .frmrd (fun k t x => if x.v = 1 ∧ x.a = 0 ∧ x.b = 0
      then writes k t x [] t.on (fun _ => k.frame.toNat / 2 ^ 18 % 2 ^ 18) (fun _ => 0) else none)
  ∧ Does .laneid (fun k t x => if x.v = 0 ∧ x.a = 0 ∧ x.b = 0
      then writes k t x [] t.on (fun l => cellOf k.t l % 1024 + 1024 * (stringOf k.t - 1)
        + (if k.unassigned.contains l then 2 ^ 17 else 0)) (fun _ => 0) else none)
  ∧ Does .mov (fun k t x => if x.v = 0 ∧ x.b = 0
      then writes k t x [x.a] t.on (fun l => t.read x.a l) (fun _ => 0) else none)
  ∧ Does .and (fun k t x => if x.v = 0
      then writes k t x [x.a, x.b] t.on (fun l => t.read x.a l &&& t.read x.b l) (fun _ => 0) else none)
  ∧ Does .or (fun k t x => if x.v = 0
      then writes k t x [x.a, x.b] t.on (fun l => t.read x.a l ||| t.read x.b l) (fun _ => 0) else none)
  ∧ Does .xor (fun k t x => if x.v = 0
      then writes k t x [x.a, x.b] t.on (fun l => t.read x.a l ^^^ t.read x.b l) (fun _ => 0) else none)
  ∧ Does .sel (fun k t x => if x.v = 0
      then
        let v (l : Nat) := if (t.lane l).p then t.read x.a l else t.read x.b l
        if ¬(4 ≤ x.d.toNat / 64 ∧ x.d.toNat / 64 ≤ 6) then writes k t x [x.a, x.b] lanes8 v (fun _ => 0)
        else if t.on ≠ [] then writes k t x [x.a, x.b] t.on v (fun _ => 0)
        else if ∀ l ∈ lanes8, v l = v 0 then writes k t x [x.a, x.b] lanes8 v (fun _ => 0) else none
      else none)
  ∧ Does .lut (fun k t x =>
      let base := (t.base (x.b.toNat / 64) + x.b.toNat % 64) % 65536
      if 4 ≤ x.b.toNat / 64 ∧ x.b.toNat / 64 ≤ 6 ∧ 0xC000 ≤ base ∧ base + 2 ^ (x.v.toNat + 2) + 1 ≤ 0xF000
      then writes k t x [x.a] t.on (fun l => lutValue (x.v.toNat + 2) (t.read x.a l) fun i => t.word (base + i))
        (fun _ => 0) else none)

/-- Arithmetic (R56, R58, R60, R118): products and scaled values into an accumulator, its narrowing, and the 18-bit
operations. Each result is exact and then clamped, and a clamp sets its flag. An accumulator is clamped to −2^41 or
2^41 − 1 when the true result lies outside that range (R57), and it then holds the bound. -/
def Obligations.TileArithmetic : Prop :=
  (∀ v : Int, clampAcc v = (if v < -(2 ^ 41) then (-(2 ^ 41), true) else if 2 ^ 41 - 1 < v then (2 ^ 41 - 1, true)
    else (v, false)))
  ∧ Does .mac (fun _ t x => if x.d = 0 then accumulates t x [x.a, x.b] (fun l acc =>
    acc + val t (x.v.getLsbD 1) x.a l * val t (x.v.getLsbD 0) x.b l) else none)
  ∧ Does .msu (fun _ t x => if x.d = 0 then accumulates t x [x.a, x.b] (fun l acc =>
      acc - val t (x.v.getLsbD 1) x.a l * val t (x.v.getLsbD 0) x.b l) else none)
  ∧ Does .mul (fun _ t x => if x.d = 0 then accumulates t x [x.a, x.b] (fun l _ =>
      val t (x.v.getLsbD 1) x.a l * val t (x.v.getLsbD 0) x.b l) else none)
  ∧ Does .accld (fun _ t x => if x.d = 0 ∧ x.b.toNat ≤ 41 ∧ x.v.toNat % 2 = 0
      then accumulates t x [x.a] (fun l _ => val t (x.v.getLsbD 1) x.a l * (2 ^ x.b.toNat : Nat)) else none)
  ∧ Does .accadd (fun _ t x => if x.d = 0 ∧ x.b.toNat ≤ 41 ∧ x.v.toNat % 2 = 0
      then accumulates t x [x.a] (fun l acc => acc + val t (x.v.getLsbD 1) x.a l * (2 ^ x.b.toNat : Nat)) else none)
  ∧ Does .narrow (fun k t x => if x.a = 0 ∧ x.b.toNat ≤ 41 then
      let r (l : Nat) := narrow18 (x.v.getLsbD 0) (x.v.getLsbD 1) x.b.toNat
        (if x.v.getLsbD 2 then (t.lane l).acc1 else (t.lane l).acc0)
      writes k t x [] t.on (fun l => (r l).1) (fun l => if (r l).2 then 2 else 0) else none)
  ∧ Does .add (fun k t x => if x.v.toNat ≤ 1 then computes k t x [x.a, x.b] (x.v.getLsbD 0) (fun l =>
      val t (x.v.getLsbD 0) x.a l + val t (x.v.getLsbD 0) x.b l) else none)
  ∧ Does .sub (fun k t x => if x.v.toNat ≤ 1 then computes k t x [x.a, x.b] (x.v.getLsbD 0) (fun l =>
      val t (x.v.getLsbD 0) x.a l - val t (x.v.getLsbD 0) x.b l) else none)
  ∧ Does .min (fun k t x => if x.v.toNat ≤ 1 then computes k t x [x.a, x.b] (x.v.getLsbD 0) (fun l =>
      Min.min (val t (x.v.getLsbD 0) x.a l) (val t (x.v.getLsbD 0) x.b l)) else none)
  ∧ Does .max (fun k t x => if x.v.toNat ≤ 1 then computes k t x [x.a, x.b] (x.v.getLsbD 0) (fun l =>
      Max.max (val t (x.v.getLsbD 0) x.a l) (val t (x.v.getLsbD 0) x.b l)) else none)
  ∧ Does .neg (fun k t x => if x.v = 1 ∧ x.b = 0 then computes k t x [x.a] true (fun l => -val t true x.a l) else none)
  ∧ Does .abs (fun k t x => if x.v = 1 ∧ x.b = 0
      then computes k t x [x.a] true (fun l => ((val t true x.a l).natAbs : Int)) else none)
  ∧ Does .shl (fun k t x => if x.v.toNat ≤ 1 ∧ x.b.toNat ≤ 17 then computes k t x [x.a] (x.v.getLsbD 0) (fun l =>
      val t (x.v.getLsbD 0) x.a l * (2 ^ x.b.toNat : Nat)) else none)
  ∧ Does .shr (fun k t x => if x.v.toNat ≤ 1 ∧ x.b.toNat ≤ 17 then computes k t x [x.a] (x.v.getLsbD 0) (fun l =>
      truncShift (val t (x.v.getLsbD 0) x.a l) x.b.toNat) else none)
  ∧ Does .conv (fun k t x => if x.v.toNat ≤ 3 ∧ x.b = 0
      then computes k t x [x.a] (x.v.getLsbD 0) (fun l => val t (x.v.getLsbD 1) x.a l) else none)

/-- The predicate P (R114, R118): comparisons replace it or are ANDed into it, in every lane, and SETP sets it. -/
def Sys2Proof.Claims.TilePredicates : Prop :=
  Does .cmps (fun _ t x => compares t x true false)
  ∧ Does .cmpu (fun _ t x => compares t x false false)
  ∧ Does .cmpsa (fun _ t x => compares t x true true)
  ∧ Does .cmpua (fun _ t x => compares t x false true)
  ∧ Does .setp (fun k t x => if x.v.toNat ≤ 3 ∧ x.d = 0 ∧ x.a = 0 ∧ x.b = 0 then
      predicates t [] (fun l p => if x.v = 0 then true else if x.v = 1 then !p else if x.v = 2 then false
        else !k.unassigned.contains l) else none)

/-- Traffic between tiles (R119): an exchange offers its edge value and waits for its neighbour, a reduction's contribution
joins the string's channel, and a channel's result is read once it is complete. -/
def Sys2Proof.Claims.TileTraffic : Prop :=
  Does .xchg (fun k t x => if x.v.toNat ≤ 4 ∧ x.b = 0 ∧ t.range [x.a] = none ∧ t.writeTrap k.cls x.d t.on = none then
    some (.stall (t.mapLanes t.on fun l y => y.flag (t.inputFlag x.a l))
      (.exchange x (lanes8.map fun l => t.read x.a l))) else none)
  ∧ Does .reduce (fun _ t x =>
      if x.v.toNat ≤ 4 ∧ x.d.toNat < 64 ∧ x.b = 0 ∧ t.contributed.contains x.d.toNat = false ∧ t.range [x.a] = none then
        let vals := t.on.map fun l => val t (decide (x.v.toNat ≠ 2 ∧ x.v.toNat ≠ 3)) x.a l
        some (.contribute (t.mapLanes t.on fun l y => y.flag (t.inputFlag x.a l)) x.d.toNat (x.v == 4)
          (match vals with
           | [] => none
           | v :: r => some (r.foldl (reduceOp x.v.toNat) v)) (reduceOp x.v.toNat))
      else none)
  ∧ (∀ (s : State) (x : TileOp), Live s → Ready x s →
      let c := fetched x s.card
      let t := tileAt x s.card
      x.v = 0 → x.a = 0 → x.b.toNat < 64 → t.contributed.contains x.b.toNat = true →
      (c.tileCtx x.tile).complete x.b.toNat = false →
      Becomes (.rdred x) s (c.tileOut x.tile t (.stall t (.channel x))).draw.2)
  ∧ (∀ (s : State) (x : TileOp) (v : Int), Live s → Ready x s →
      let c := fetched x s.card
      let k := c.tileCtx x.tile
      let t := tileAt x s.card
      x.v = 0 → x.a = 0 → x.b.toNat < 64 → t.contributed.contains x.b.toNat = true → k.complete x.b.toNat = true →
      (k.chan x.b.toNat).val = some v →
      ∀ o, (let r := if (k.chan x.b.toNat).sum then clamp18 true v else (code 18 v, false)
        writes k t x [] t.on (fun _ => r.1) (fun _ => if r.2 then 2 else 0)) = some o →
      Becomes (.rdred x) s (c.tileOut x.tile t o).draw.2)
  ∧ (∀ (s : State) (tile : Nat) (x : TileOp) (vals : List Nat), Live s → tile < 256 → s.card.noTile tile = false →
      (s.card.tile (s.card.phys tile)).run = 1 →
      (s.card.tile (s.card.phys tile)).stall = some (.exchange x vals) →
      Becomes (.xchgPartnerMet tile) s (s.card.finishExchange tile (s.card.tile (s.card.phys tile)) x vals))
  ∧ (∀ (s : State) (n ch : Nat), Live s → StringNo n → ch < 64 → s.card.chanComplete n ch = true →
      Becomes (.reductionComplete n ch) s (s.card.each (tilesOf n) fun c t => c.unstall t ch))
  ∧ (∀ (s : State) (tile : Nat) (b : Nat × Nat × Nat), Live s → tile < 256 →
      (s.card.tile (s.card.phys tile)).run = 2 → s.card.batchFrom (s.card.tile (s.card.phys tile)).batch = some b →
      Becomes (.batchPauseEnd tile) s
        (s.card.setTile (s.card.phys tile) ((s.card.tile (s.card.phys tile)).startBatch b.1 b.2.1)))

/-- Traps (R116, R117, R120): fields outside an instruction's row trap RESERVED, an undefined opcode ILLEGAL_OP, and an
operand or a write that its rule forbids its own code and lane, in place of the instruction's effect. -/
def Obligations.TileTraps : Prop :=
  (∀ r ∈ rowFields, ∀ (s : State) (x : TileOp), Live s → Ready x s → r.2 x = false →
    Becomes (r.1 x) s ((fetched x s.card).trapTile x.tile 2 (tileAt x s.card).pc 0).draw.2)
  ∧ (∀ (s : State) (x : TileOp) (opc : Nat), Live s → Ready x s →
      opc = 0x0E ∨ opc = 0x0F ∨ (0x2D ≤ opc ∧ opc ≤ 0x3F) →
      Becomes (.tileUndefinedOpcode x opc) s ((fetched x s.card).trapTile x.tile 1 (tileAt x s.card).pc 0).draw.2)
  ∧ (∀ i ∈ twoSources, ∀ (s : State) (x : TileOp) (e : Nat × Nat), Live s → Ready x s → x.v = 0 →
      (tileAt x s.card).range [x.a, x.b] = some e →
      Becomes (i x) s ((fetched x s.card).trapTile x.tile e.1 (tileAt x s.card).pc e.2).draw.2)
  ∧ (∀ i ∈ twoSources, ∀ (s : State) (x : TileOp) (e : Nat × Nat), Live s → Ready x s → x.v = 0 →
      (tileAt x s.card).range [x.a, x.b] = none →
      (tileAt x s.card).writeTrap ((fetched x s.card).tileCtx x.tile).cls x.d (tileAt x s.card).on = some e →
      Becomes (i x) s ((fetched x s.card).trapTile x.tile e.1 (tileAt x s.card).pc e.2).draw.2)

/-- A logical tile without state, a tile that runs no batch, and a tile that stalls execute nothing (R110, R119, R133). -/
def Sys2Proof.Claims.TileAtRest : Prop :=
  ∀ i ∈ tileInstrs, ∀ (s : State) (x : TileOp), Live s →
    256 ≤ x.tile ∨ s.card.noTile x.tile = true ∨ (s.card.tile (s.card.phys x.tile)).run ≠ 1
      ∨ (s.card.tile (s.card.phys x.tile)).stall.isSome = true →
    Becomes (i x) s s.card

/-- The array's events (R122, R131): the filled input window releases the tiles that wait for it, once in a frame; a tile
whose retirement is due is retired, but for a TIL_RETIRE (cause 4) without a spare. -/
def Sys2Proof.Claims.ArrayEvents : Prop :=
  (∀ s : State, Live s → 3 ≤ s.card.tim.slot → s.card.tim.slot ≤ 5 → s.card.til.filled = false →
    Becomes .inputWindowFilled s
      ((s.card.each strings fun c n =>
        c.each (cellsFrom 1 512) fun c k => if c.noTile (tileOfCell n k) then c else c.fillPosition n k).releaseInput))
  ∧ (∀ (s : State) (ph cause : Nat), Live s → s.card.til.retireDue.find? (·.1 == ph) = some (ph, cause) →
      let c := { s.card with til.retireDue := s.card.til.retireDue.filter fun y => y.1 ≠ ph }
      c.retired ph = false → ¬(cause = 4 ∧ c.spares = []) → Becomes (.tileRetirement ph) s (c.retire ph cause))

/-- What an instruction's outcome does to its tile, and tiles that execute nothing (R115, R118, R119, R133). -/
def Obligations.TileRunsAndRests : Prop := Sys2Proof.Claims.TileOutcomes ∧ Sys2Proof.Claims.TileAtRest

/-- The moves, the bitwise operations, the tables, and the predicates (R114, R118, R119). -/
def Obligations.TileMovesAndPredicates : Prop := Sys2Proof.Claims.TileMoves ∧ Sys2Proof.Claims.TilePredicates

/-- Exchanges, reductions and the array's events (R119, R122, R131). -/
def Obligations.TileTrafficAndArray : Prop := Sys2Proof.Claims.TileTraffic ∧ Sys2Proof.Claims.ArrayEvents

end Tiles

section Estimation

open Sys2Proof Sys2Proof.Machine Sys2Proof.Claims

/-- The safe state of the limits (R159): five missed frames of a string that has had a fresh frame zero its limits once,
with event 0x4001; and a lookahead that the plan has not renewed for VALID_FR tens of frames falls back, with LA_VALID 0,
LA_FALLBACK set and event 0x4030 (R161). -/
def Sys2Proof.Claims.LimitFallbacks : Prop :=
  (∀ (s : State) (n : Nat), Live s → StringNo n → (s.card.estStr n).everFresh = true → 5 ≤ (s.card.estStr n).missed →
    (s.card.estStr n).zeroed = false →
    Becomes (.limitsZero n) s ((s.card.modEst n fun x => { x with zeroed := true }).recordStr n 0x4001 [pN n])
    ∧ Gives (.limitsZero n) s fun c' => (c'.estStr n).zeroed = true)
  ∧ (∀ (s : State) (n : Nat), Live s → StringNo n → (s.card.estStr n).laFallback = false →
      10 * s.card.fld EST_LA_CFG.VALID_FR ≤ (s.card.estStr n).laFrames →
      Gives (.laFallback n) s fun c' => (c'.estStr n).laFallback = true ∧ c'.fld (EST_STATUS.LA_VALID n) = 0
        ∧ c'.bit EST_STICKY.LA_FALLBACK = true)
  ∧ (∀ (s : State) (n : Nat), Live s → StringNo n →
      (s.card.estStr n).laFallback = true ∨ (s.card.estStr n).laFrames < 10 * s.card.fld EST_LA_CFG.VALID_FR →
      Becomes (.laFallback n) s s.card)

/-- The commit of learned values (R163, R171): a cause that is due starts it, or waits while one runs; a copy that reads
back is the new one and event 0x4021 names it; the first copy that does not starts a second attempt, and the second ends
the commit. -/
def Sys2Proof.Claims.LearnedValueCommits : Prop :=
  (∀ (s : State) (n cause : Nat), Live s → StringNo n →
    (s.card.estStr n).due.contains cause = true ∨ (cause = 0 ∧ 600000 ≤ (s.card.estStr n).since) →
    ((s.card.estStr n).phase = 0 → Gives (.learnedValueCommit n cause) s fun c' => (c'.estStr n).phase = 1
      ∧ (c'.estStr n).causes = [cause] ∧ (c'.estStr n).attempt = 1 ∧ c'.fld (EST_STATUS.COMMIT_BUSY n) = 1)
    ∧ (2 ≤ (s.card.estStr n).phase → (s.card.estStr n).snap.frame ≠ s.card.frame →
      Gives (.learnedValueCommit n cause) s fun c' =>
        (c'.estStr n).phase = (s.card.estStr n).phase
          ∧ (c'.estStr n).queued = (s.card.estStr n).queued ++ [cause]))
  ∧ (∀ (s : State) (n : Nat), Live s → StringNo n → (s.card.estStr n).phase = 4 →
      let x := s.card.estStr n
      let c := s.card.jrnFree 0x0B
      let failed := (c.stick EST_STICKY.COMMIT_FAIL).recordStr n 0x4022 [pN n, pN x.snap.seq, pN x.attempt]
      Becomes (.commitReadBack n true) s
        (((((c.setCopy n (c.commitTarget n) x.snap).setFld (EST_COMMIT_STAT.SEQ_LOW n) (x.snap.seq % 256)).recordStr n 0x4021
          [pN n, pN x.snap.seq, pN x.snap.cause]).modEst n fun x => { x with since := 0 }).commitEnds n false |>.nextCommit n)
      ∧ (x.attempt = 1 →
          Becomes (.commitReadBack n false) s (failed.modEst n fun x => { x with phase := 2, attempt := 2 }))
      ∧ (x.attempt ≠ 1 → Becomes (.commitReadBack n false) s ((failed.commitEnds n true).nextCommit n)))

/-- The pages (R165, R193): with bus mastering, a due page goes to its ring's next buffer, the sequence number advances and
its vector fires; without it the page is skipped. The plan of balancing (R153) is made by the primary lane in slot 6
of a frame divisible by 1,024. -/
def Obligations.PagesAndPlans : Prop :=
  (∀ s : State, Live s → s.card.tim.slot = 7 → s.card.est.pageHeld = [] → s.card.stateDue = true →
    Becomes .statePage s ({ s.card with est.pageAt := some s.card.frame }.publishState
      (s.card.statePage (nextSeq (s.card.fld EST_PAGE_SEQ.SEQ))))
    ∧ (s.card.masters = false → Gives .statePage s fun c' => c'.bit EST_STICKY.PAGE_SKIPPED = true
        ∧ c'.fld EST_STATUS.PAGE_SUSPENDED = 1 ∧ c'.est.pageB = s.card.est.pageB)
    ∧ (s.card.masters = true → Gives .statePage s fun c' => c'.est.pageB = !s.card.est.pageB))
  ∧ (∀ s : State, Live s → s.card.tim.slot = 7 → s.card.imp.pageHeld = [] → s.card.impDue = true →
      (s.card.impPageWork.bit IMP_CTRL.PAGE_EN = true → Becomes .impedancePage s
        (s.card.impPageWork.publishImp (s.card.impPageWork.impPage (nextSeq (s.card.impPageWork.fld IMP_PAGE_SEQ.SEQ)))))
      ∧ (s.card.impPageWork.bit IMP_CTRL.PAGE_EN = false → Becomes .impedancePage s s.card.impPageWork))
  ∧ (∀ s : State, Live s → s.card.bit EST_CTRL.BAL_EN = true → s.card.laneRuns = true → s.card.frame.toNat % 1024 = 0 → s.card.tim.slot = 6 →
      Becomes .balancingPlan s (s.card.each strings fun c n => c.planString n))

/-- The injection (R176, R178, R185): a pending plan becomes the plan at its frame, the ramp starts from silence after 16
frames clear of faults, and the history takes a value in every 65,536th frame. -/
def Obligations.InjectionPlans : Prop :=
  (∀ (s : State) (n : Nat) (p : Plan), Live s → StringNo n → (s.card.impStr n).pend = some p → p.at' = s.card.frame →
    Gives (.planActivation n) s fun c' => (c'.impStr n).plan = some p ∧ (c'.impStr n).pend = none
      ∧ (c'.impStr n).confPend = [] ∧ (p.en = 0 → c'.fld (IMP_STATUS.INJ_STATE n) = 0))
  ∧ (∀ (s : State) (n : Nat), Live s → (s.card.impStr n).pend = none → Becomes (.planActivation n) s s.card)
  ∧ (∀ (s : State) (n : Nat), Live s → StringNo n → 16 ≤ (s.card.impStr n).clear →
      s.card.fld (IMP_STATUS.INJ_STATE n) = 2 →
      Gives (.injectionRampUp n) s fun c' => c'.fld (IMP_STATUS.INJ_STATE n) = 3 ∧ (c'.impStr n).ramp = 0
        ∧ (c'.impStr n).down = false)
  ∧ (∀ s : State, Live s → s.card.frame.toNat % 65536 = 0 → 3 ≤ s.card.tim.slot → s.card.tim.slot ≤ 5 →
      s.card.imp.histAt ≠ some s.card.frame → classRuns (s.card.fld TIL_STATUS.THROTTLE) s.card.frame 1 = true →
      Becomes .historyUpdate s ({ s.card with imp.histAt := some s.card.frame }.each (strings.filter s.card.runsKernels)
        fun c n => c.each (c.laneCells n) fun c j => c.each (((c.impStr n).seen.getD {}).enabled) fun c k =>
          c.updateHistory n j k))

/-- The estimator's fallbacks and its commits of learned values (R16, R152, R161 to R163). -/
def Obligations.EstimatorEvents : Prop := Sys2Proof.Claims.LimitFallbacks ∧ Sys2Proof.Claims.LearnedValueCommits

end Estimation

namespace Sys2Proof.Claims

open Sys2Proof.Machine

/-- The card once a plant datagram is in the journal. -/
def heard (typ : Nat) (e : Envelope) (c : Card) : Card := c.jrnPlant typ e

/-- Plant messages are enabled and the datagram is for the module's port. -/
def ForUs (e : Envelope) (c : Card) : Prop := c.bit HST_PM_CFG.PM_EN = true ∧ e.udp = c.fld HST_PM_CFG.PORT

/-- The datagram passes every check of an envelope (R327, R328). -/
def PlantAccepted (typ : Nat) (e : Envelope) (c : Card) : Prop :=
  ForUs e c ∧ (heard typ e c).plantCheck2 typ e = none

/-- The card once an authentic plant message is noted. -/
def authentic (typ : Nat) (e : Envelope) (c : Card) : Card :=
  ((heard typ e c).noteSource e).record 0xF012 [pN (e.keyId.toNat % 8), e.src, pN typ, e.seq]

end Sys2Proof.Claims

section Power

open Sys2Proof Sys2Proof.Machine Sys2Proof.Claims

/-- A sample of a sense channel whose modulator runs (R202, R210, R211): the channel is no longer lost, a value beyond the
code's range sets SENSE_SAT, and the engine takes the sample in its path's code; the fast sample of a string's current also
reaches the fabric's comparators (R265). -/
def Sys2Proof.Claims.SenseSamples : Prop :=
  ∀ (s : State) (ch : Nat) (v : Int), Live s → ch < 36 →
    let n := (chanOf ch).1
    let j := (chanOf ch).2
    (s.card.bit (CNV_SD_CFG.CLK_EN n) = true →
      let k := s.card.preciseCode ch v (s.card.pm - 600)
      let l := s.card.preciseCode ch v (s.card.pm - 19200)
      let found (k : Int × Int) : Card := (if k.1 ≠ k.2 then s.card.senseSat ch else s.card).modEng n fun e =>
        { e with lost := e.lost - (if e.lost.testBit j then 2 ^ j else 0) }
      let f := (found k).fastEngine n j (fastCode (isVolt j) k.2)
      let p := (found l).preciseEngine n j l.2 ((found l).pm - 19200)
      Becomes (.fastSample ch v) s (if j = 6 then f.fabricCurrent n (fastCode (isVolt j) k.2) else f)
      ∧ Becomes (.preciseSample ch v) s (if j = 6 ∨ j = 7 then p.pairSample n j l.2 else p))
    ∧ (s.card.bit (CNV_SD_CFG.CLK_EN n) = false →
        Becomes (.fastSample ch v) s s.card ∧ Becomes (.preciseSample ch v) s s.card)
    ∧ ((s.card.eng n).lost.testBit j = false → Becomes (.senseLost ch) s (s.card.loseChannel ch))
    ∧ ((s.card.eng n).lost.testBit j = true → Becomes (.senseLost ch) s s.card)

/-- The ends of a converter's delays (R206): START_DELAY leaves for RAMP_UP with the setpoint at zero, where the conditions
of a start still hold; STOP_DELAY leaves a gating engine in RAMP_DOWN. -/
def Sys2Proof.Claims.ConverterDelays : Prop :=
  (∀ (s : State) (n : Nat), Live s → StringNo n → s.card.cnvState n = 1 → s.card.startCheck n = none →
    Gives (.startDelayElapsed n) s fun c' => c'.cnvState n = 2 ∧ (c'.eng n).eff = 0 ∧ (c'.eng n).trim = 0
      ∧ (c'.eng n).phases = [])
  ∧ (∀ (s : State) (n : Nat), Live s → StringNo n → s.card.cnvState n ≠ 1 → Becomes (.startDelayElapsed n) s s.card)
  ∧ (∀ (s : State) (n : Nat), Live s → StringNo n → s.card.cnvState n = 4 →
      Becomes (.stopDelayElapsed n) s (s.card.rampDown n))
  ∧ (∀ (s : State) (n : Nat), Live s → StringNo n → s.card.cnvState n ≠ 4 → Becomes (.stopDelayElapsed n) s s.card)

/-- Plant requests and cancellations (R238, R260, R261): a request that its checks pass enters the table, one that they do
not is answered with its status and reason; a cancellation waits for the dispatcher. -/
def Sys2Proof.Claims.PlantDispatch : Prop :=
  (∀ (s : State) (e : Envelope), Live s → PlantAccepted 1 e s.card →
    let c := authentic 1 e s.card
    let d : Desc := { area := BitVec.ofNat 384 (fromLe e.body) }
    let bad (status reason : Nat) := c.notice e.port e.src.toNat (d.at 2 2) (d.byte 0) status reason 0
    (requestBad d = true → Becomes (.dispatchRequest e) s (bad 7 0x7001))
    ∧ (requestBad d = false → c.rcd.replay = true →
        Becomes (.dispatchRequest e) s (bad 3 0xC00D))
    ∧ (requestBad d = false → c.rcd.replay = false → c.lan.recovery = true →
        Becomes (.dispatchRequest e) s (bad 3 0xB015))
    ∧ (requestBad d = false → c.rcd.replay = false → c.lan.recovery = false →
        Becomes (.dispatchRequest e) s (c.takeRequest e.src.toNat none e.port d)))
  ∧ (∀ (s : State) (e : Envelope), Live s → PlantAccepted 2 e s.card →
      let c := authentic 2 e s.card
      Becomes (.dispatchCancel e) s
        { c with dsp.cancels := c.dsp.cancels ++ [(e.src.toNat, leAt e.body 0 2, e.port)] })

/-- Plant messages (R328): a HOST_FORWARD goes to the oldest waiting HST_PLANT_RECV, else into the inbox with source 84; a
datagram that fails a check is turned away with the check's reason. -/
def Obligations.PlantMessages : Prop :=
  (∀ (s : State) (e : Envelope), Live s → PlantAccepted 4 e s.card →
    let c := authentic 4 e s.card
    (c.hst.recvs = [] →
      Becomes (.hostForward e) s ({ c with hst.inbox := c.hst.inbox ++ [envBytes 4 e] }.fire 84))
    ∧ (∀ r rest, c.hst.recvs = r :: rest →
        Becomes (.hostForward e) s ({ c with hst.recvs := rest }.deliver r (envBytes 4 e))))
  ∧ (∀ (s : State) (typ : Nat) (e : Envelope) (r : Nat), Live s → ForUs e s.card →
      (s.card.plantCheck2 typ e).isSome = true → (heard typ e s.card).plantCheck2 typ e = some r →
      Becomes (.plantMessageInvalid typ e) s ((heard typ e s.card).plantFail r typ e))
  ∧ (∀ (s : State) (e : Envelope), Live s → ¬ForUs e s.card → Becomes (.hostForward e) s s.card)

/-- A request leaves the table when its duration has passed, and a waiting one when it has been deferred for MAX_DEFER
frames (R247, R249). -/
def Sys2Proof.Claims.RequestExpiries : Prop :=
  (∀ (s : State) (e : Nat) (r : DspReq), Live s → s.card.entry e = some r →
    (r.state = 3 → s.card.remaining r = 0 → Gives (.requestExpiry e) s fun c' => c'.entry e = none)
    ∧ (r.state ≠ 3 ∨ s.card.remaining r ≠ 0 → Becomes (.requestExpiry e) s s.card)
    ∧ (r.state = 2 → r.maxDefer ≤ framesSince s.card.frame r.decided →
        Becomes (.deferExpiry e) s (s.card.dropRequests [(e, r)] (0x7030 + r.last)))
    ∧ (r.state ≠ 2 ∨ framesSince s.card.frame r.decided < r.maxDefer → Becomes (.deferExpiry e) s s.card))

/-- The accounts (R5, R255, R258, R259): in slot 7 a closed interval becomes a record, with event 0x7010 and source 90 and, after a gap, a gap record and
event 0x7013, and the accounts are committed, as they are every 1,000 frames; the snapshots read the high-water mark and the
open interval into their registers. -/
def Obligations.Accounts : Prop :=
  (∀ s : State, Live s → 1000 ≤ s.card.dsp.since → Becomes .accountCommit s s.card.commitAccounts)
  ∧ (∀ s : State, Live s → s.card.dsp.since < 1000 → Becomes .accountCommit s s.card)
  ∧ (∀ (s : State) (x y : Ivl) (r : List Ivl), Live s → s.card.tim.slot = 7 → s.card.dsp.ivls = x :: y :: r →
      let c := { s.card with dsp.ivls := y :: r }.putRecord x.start ((x.stop - x.start) / second) x.flags x.frames x.mwh
      let c := (c.record 0x7010 ([pN s.card.dsp.seq, pN x.flags] ++ pLoHi (code 64 x.start))).fire 90
      let g := (c.putRecord x.stop ((y.start - x.stop) / second) 2 0 []).stick DSP_STICKY.GAP
      Becomes .intervalClose s
        (if y.skipped = 0 then c.commitAccounts else (g.record 0x7013 [pN c.dsp.seq, pN y.skipped]).commitAccounts))
  ∧ (∀ s : State, Live s → s.card.tim.slot ≠ 7 ∨ s.card.dsp.ivls.length < 2 →
      Becomes .intervalClose s s.card)
  ∧ (∀ s : State, Live s → Gives .dspHwmSnapshot s fun c' => c'.fld DSP_HWM_LO.HWM = s.card.dsp.hwm % 2 ^ 32
      ∧ c'.fld DSP_HWM_HI.HWM = s.card.dsp.hwm / 2 ^ 32 % 2 ^ 32)
  ∧ (∀ s : State, Live s → Gives .dspAcctSnapshot s fun c' =>
      c'.fld DSP_ACCT_PM_LO.ACCT_PM = s.card.dsp.shownPm % 2 ^ 32
      ∧ c'.fld DSP_ACCT_PM_HI.ACCT_PM = s.card.dsp.shownPm / 2 ^ 32 % 2 ^ 32
      ∧ ∀ n, StringNo n → ∀ k < 4,
          c'.fld (DSP_ACCT_WORD.WORD n (2 * k)) = s.card.dsp.shown.get (fun _ => 0) (4 * (n - 1) + k) % 2 ^ 32
          ∧ c'.fld (DSP_ACCT_WORD.WORD n (2 * k + 1))
            = s.card.dsp.shown.get (fun _ => 0) (4 * (n - 1) + k) / 2 ^ 32 % 2 ^ 32)

/-- The converter's samples and delays (R202, R203, R206). -/
def Obligations.ConverterEvents : Prop := Sys2Proof.Claims.SenseSamples ∧ Sys2Proof.Claims.ConverterDelays

/-- Plant requests, cancellations and the ends of requests (R236 to R250, R260). -/
def Obligations.DispatchRequests : Prop := Sys2Proof.Claims.PlantDispatch ∧ Sys2Proof.Claims.RequestExpiries

end Power

section Safety

open Sys2Proof Sys2Proof.Machine Sys2Proof.Claims

/-- The emergency stop (R268, R269): an input that changes shows its level; one that opens opens every string; a discrepancy
opens every string too; and ARMING ends once both inputs have read closed for 10 ms after a complete open period. -/
def Sys2Proof.Claims.EmergencyStop : Prop :=
  (∀ (s : State) (b : Bool), Live s →
    let f := if b then SAF_STATUS.ESTOP_B else SAF_STATUS.ESTOP_A
    let g := if b then SAF_STATUS.ESTOP_A else SAF_STATUS.ESTOP_B
    s.card.seqDone = false →
    (s.card.bit f = true → Gives (.estopInputChange b false) s fun c' => c'.bit f = false ∧ c'.bit g = s.card.bit g)
    ∧ (s.card.bit f = false → Gives (.estopInputChange b true) s fun c' => c'.bit f = true ∧ c'.bit g = s.card.bit g)
    ∧ ∀ x, s.card.bit f = x → Becomes (.estopInputChange b x) s s.card)
  ∧ (∀ s : State, Live s → s.card.saf.diff.isSome = true →
      Becomes .discrepancy s ({ s.card with saf.disc := true }.fabricOpenAll 5 true))
  ∧ (∀ s : State, Live s → s.card.saf.openDone = true → s.card.saf.closedSince.isSome = true →
      s.card.bit SAF_STATUS.ARMED = false →
      Becomes .fabricArmed s ((({ s.card with saf.openDone := false, saf.closedSince := none, saf.disc := false }).setFld
        SAF_STATUS.ARMED 1).record 0x8005 [s.card.frame]))
  ∧ (∀ s : State, Live s → s.card.saf.openDone = false → Becomes .fabricArmed s s.card)

/-- The reset input (R270): its level shows; a pulse of 100 ms to 5 s after an idle time is a reset edge; an input that
stays energised is stuck, with RESET_STUCK and event 0x8004. -/
def Sys2Proof.Claims.ResetInput : Prop :=
  (∀ s : State, Live s → s.card.seqDone = false → s.card.bit SAF_STATUS.RESET_IN = false →
    Gives (.resetInChange true) s fun c' => c'.bit SAF_STATUS.RESET_IN = true
      ∧ c'.saf.resetSince = some (s.card.tim.clock, s.card.frame))
  ∧ (∀ (s : State) (t : Nat) (f : BitVec 32), Live s → s.card.seqDone = false → s.card.bit SAF_STATUS.RESET_IN = true →
      s.card.saf.resetSince = some (t, f) →
      let c := (s.card.setBit SAF_STATUS.RESET_IN false).jrnField 10 0
      let c := { c with
        saf.resetSince := none, saf.idleSince := c.tim.clock, saf.needIdle := c.saf.needIdle || c.saf.stuck
        saf.stuck := false }
      Becomes (.resetInChange false) s
        (if s.card.saf.resetCounts = true ∧ s.card.saf.stuck = false ∧ 100000000 ≤ s.card.tim.clock - t
            ∧ s.card.tim.clock - t ≤ 5000000000 then c.resetEdge else c))
  ∧ (∀ (s : State) (t : Nat) (f : BitVec 32), Live s → s.card.saf.resetSince = some (t, f) → s.card.saf.stuck = false →
      Becomes .resetStuck s (({ s.card with saf.stuck := true }.stick SAF_STICKY.RESET_STUCK).record 0x8004 [f]))
  ∧ (∀ s : State, Live s → s.card.saf.resetSince = none → Becomes .resetStuck s s.card)

/-- The fabric's watch of the lanes (R271): LH_LIMIT silent pulses open every string with cause 6. -/
def Sys2Proof.Claims.LaneHealthWatch : Prop :=
  ∀ s : State, Live s →
    (s.card.saf.watching = true → s.card.fld SAF_INPUT_CFG.LH_LIMIT ≤ s.card.saf.lh →
      Becomes .laneHealth s (s.card.fabricOpenAll 6 false))
    ∧ (s.card.saf.watching = false ∨ s.card.saf.lh < s.card.fld SAF_INPUT_CFG.LH_LIMIT → Becomes .laneHealth s s.card)

/-- The closing sequence (R274, R275): the first coil that has pulled in starts PRECHARGE with the precharge coil; the
voltage across the main contact within PRE_DONE starts TRANSFER with coil 0; TRANSFER ends CLOSED, with event 0x8010 and
its operation done, where both voltages are within CLOSED_V, and fails with event 0x8013 where they are not; PRECHARGE that
does not end in time fails with event 0x8012. -/
def Sys2Proof.Claims.ClosingSequence : Prop :=
  (∀ (s : State) (n k : Nat) (r : List Nat), Live s → StringNo n → (s.card.safStr n).pulling = k :: r →
    let c := s.card.modSaf n fun x => { x with held := x.held ++ [k] }
    Becomes (.tCloseElapsed n) s (if s.card.safState n = 1 then (c.energise n 2).setSafState n 2 else c))
  ∧ (∀ (s : State) (n : Nat) (vpm vnm : Int), Live s → StringNo n →
      let c := (s.card.modSaf n fun x => { x with vpm := vpm, vnm := vnm }).jrnWeld n vpm vnm
      let c := if 1 ≤ s.card.safState n ∧ s.card.safState n ≤ 4 then c.showWeldV n vpm vnm else c
      Becomes (.weldSenseSample n vpm vnm) s
        (if s.card.safState n = 2 ∧ vpm.natAbs ≤ 10 * c.fld SAF_SEQ_CFG.PRE_DONE then
          (c.energise n 0).setSafState n 3 else c))
  ∧ (∀ (s : State) (n : Nat), Live s → StringNo n →
      (s.card.safState n = 2 → Becomes (.prechargeTimeout n) s
        (((s.card.stick SAF_STICKY.PRECHARGE_FAIL).record 0x8012
          [pN n, pN (voltsOf (s.card.safStr n).vpm)]).closeFails n 0x8007))
      ∧ (s.card.safState n ≠ 2 → Becomes (.prechargeTimeout n) s s.card))
  ∧ (∀ (s : State) (n : Nat), Live s → StringNo n →
      let x := s.card.safStr n
      let good := x.vpm.natAbs ≤ 10 * s.card.fld SAF_SEQ_CFG.CLOSED_V ∧ x.vnm.natAbs ≤ 10 * s.card.fld SAF_SEQ_CFG.CLOSED_V
      (s.card.safState n = 3 → good → Gives (.transferElapsed n) s fun c' => c'.safState n = 4
        ∧ (c'.safStr n).closeOp = none)
      ∧ (s.card.safState n = 3 → ¬good → Becomes (.transferElapsed n) s
          (((s.card.stick SAF_STICKY.PRECHARGE_FAIL).record 0x8013
            [pN n, pN (voltsOf x.vpm), pN (voltsOf x.vnm)]).closeFails n 0x8008))
      ∧ (s.card.safState n = 3 → Becomes (.transferOverlapLimit n) s (s.card.dropCoil n 2))
      ∧ (s.card.safState n ≠ 3 →
          Becomes (.transferElapsed n) s s.card ∧ Becomes (.transferOverlapLimit n) s s.card))

/-- The opening sequence (R265, R275): the wait ends with the coils broken, the delay with every coil dropped. -/
def Sys2Proof.Claims.OpeningSequence : Prop :=
  ∀ (s : State) (n : Nat), Live s → StringNo n →
    (s.card.safState n = 5 → (s.card.safStr n).drivers ≠ [] → Becomes (.openWaitElapsed n) s (s.card.breakCoils n))
    ∧ (s.card.safState n ≠ 5 → Becomes (.openWaitElapsed n) s s.card)
    ∧ (s.card.safState n = 6 → (s.card.safStr n).offDue = true → Becomes (.openDelayElapsed n) s (s.card.dropAll n))
    ∧ (s.card.safState n ≠ 6 → Becomes (.openDelayElapsed n) s s.card)

/-- The weld check and the driver tests (R276, R278, R281): a check is inconclusive where the string's cells are too low or were
not measured, passes where both voltages show open contacts, and else records each welded contact and opens the string; a
driver that fails its test or its hold edge fails; a coil test ends with its coils dropped. -/
def Obligations.ContactorTests : Prop :=
  (∀ (s : State) (n : Nat) (vpm vnm : Int), Live s → StringNo n → s.card.bit (SAF_STR_STATE.WELD_PEND n) = true →
    let c := (s.card.setFld (SAF_STR_STATE.WELD_PEND n) 0).showWeldV n vpm vnm
    let c := (c.modSaf n fun x => { x with vpm := vpm, vnm := vnm }).jrnWeld n vpm vnm
    let w := s.card.fld SAF_WELD_CFG.WELD_V
    let low := (s.card.safStr n).vch < 4 * w ∨ c.bit (SAF_STR_STATE.MEASURED n) = false
    (low → Becomes (.weldCheck n vpm vnm) s
      (((c.stick SAF_STICKY.WELD_INCONCL).record 0x8021 [pN n, pN ((s.card.safStr n).vch)]).weldEnds n))
    ∧ (¬low → 10 * w ≤ vpm.natAbs → 10 * w ≤ vnm.natAbs → Becomes (.weldCheck n vpm vnm) s (c.weldEnds n))
    ∧ (¬low → vpm.natAbs < 10 * w → 10 * w ≤ vnm.natAbs → Becomes (.weldCheck n vpm vnm) s
        (((c.record 0x8020 [pN n, 0, pN (voltsOf vpm), pN ((s.card.safStr n).vch)]).modSaf n
          fun x => { x with weldRec := true }).fabricOpen n 8 true)))
  ∧ (∀ (s : State) (n k : Nat), Live s → StringNo n → k < 5 → s.card.tim.slot = 7 →
      s.card.frame.toNat % 256 = 40 * (n - 1) + 8 * k → s.card.safState n = 0 → (s.card.safStr n).testOp = none →
      (s.card.safStr n).drvOp = none → (s.card.safStr n).holds k = false →
      Becomes (.driverTest n k true) s (s.card.count SAF_TEST_CNT.RUN)
      ∧ Becomes (.driverTest n k false) s ((s.card.count SAF_TEST_CNT.RUN).driverFails n k
          (if (s.card.safStr n).drivers.contains k then 0 else 1)))
  ∧ (∀ (s : State) (n k : Nat) (pass : Bool), Live s → StringNo n → k < 5 → s.card.tim.slot = 7 →
      s.card.frame.toNat % 256 = 40 * (n - 1) + 8 * k → s.card.safState n = 2 →
      Becomes (.driverTest n k pass) s (s.card.count SAF_TEST_CNT.SKIPPED))
  ∧ (∀ (s : State) (n k : Nat), Live s → StringNo n → (s.card.safStr n).holds k = true →
      Becomes (.holdPwmEdge n k false) s (s.card.driverFails n k 2) ∧ Becomes (.holdPwmEdge n k true) s s.card)
  ∧ (∀ (s : State) (n slot coil : Nat), Live s → StringNo n → (s.card.safStr n).testOp = some (slot, coil) →
      (s.card.safStr n).drivers ≠ [] →
      Becomes (.coilTestEnd n) s
        (if coil = 2 then ((s.card.dropAll n).modSaf n fun x => { x with testOp := none }).done slot
         else s.card.dropAll n))

/-- The inputs of the safety fabric (R266, R268 to R271). -/
def Obligations.FabricInputs : Prop := Sys2Proof.Claims.EmergencyStop ∧ Sys2Proof.Claims.ResetInput ∧ Sys2Proof.Claims.LaneHealthWatch

/-- The closing and opening sequences (R274 to R276). -/
def Obligations.ContactorSequences : Prop := Sys2Proof.Claims.ClosingSequence ∧ Sys2Proof.Claims.OpeningSequence

end Safety

section Field

open Sys2Proof Sys2Proof.Machine Sys2Proof.Claims

/-- Field inputs and outputs (R394 to R400): a sample reaches every input's filter while the link is up; a broken wire shows
and its input reads OFF; a fault of an output that drives turns it off, and shows; the supply's state shows, and its loss is
recorded. The analogue outputs' range sequence (R296) takes its steps. -/
def Sys2Proof.Claims.FieldPoints : Prop :=
  (∀ (s : State) (l : BitVec 16), Live s →
    (s.card.bit FIO_STATUS.LINK_OK = true → s.card.fio.powered = true →
      Becomes (.diSample l) s (s.card.each (List.range 16) fun c i => c.diSample i (l.getLsbD i)))
    ∧ (s.card.bit FIO_STATUS.LINK_OK = false ∨ s.card.fio.powered = false → Becomes (.diSample l) s s.card))
  ∧ (∀ (s : State) (i : Nat), Live s → i < 16 → s.card.bit (FIO_DI_CFG.WB_EN i) = true →
      s.card.bit FIO_STATUS.LINK_OK = true →
      (s.card.diBroken i = false → Gives (.wireBreak i true) s fun c' =>
        c'.diBroken i = true ∧ c'.bit FIO_STICKY.BROKEN = true ∧ c'.diLevel i = false)
      ∧ (s.card.diBroken i = true → Gives (.wireBreak i false) s fun c' =>
          c'.diBroken i = false ∧ ∀ j < 16, j ≠ i → c'.diBroken j = s.card.diBroken j))
  ∧ (∀ (s : State) (k : Nat) (th : Bool), Live s → k < 8 →
      (s.card.fio.drive.getLsbD k = true → Gives (.doFault k th) s fun c' =>
        c'.fio.drive = s.card.fio.drive &&& ~~~BitVec.ofNat 8 (2 ^ k) ∧ c'.bit FIO_STICKY.DO_FAULT = true
          ∧ (c'.fld FIO_DO_STATE.FAULT).testBit k = true ∧ c'.fio.tripped = s.card.fio.tripped ||| BitVec.ofNat 8 (2 ^ k))
      ∧ (s.card.fio.drive.getLsbD k = false → Becomes (.doFault k th) s s.card))
  ∧ (∀ (s : State) (ok : Bool) (v : Nat), Live s → Gives (.doSupChange ok v) s fun c' => c'.bit FIO_STATUS.SUP_OK = ok
      ∧ (ok = false → c'.bit FIO_STICKY.SUP_LOW = true))
  ∧ (∀ (s : State) (k : Nat), Live s → k < 4 →
      Becomes (.aoRangeSequence k) s (((s.card.aoStep k).aoStep k).aoStep k))

/-- The link to the field side (R391 to R393, R401): a valid frame acts, an invalid one does not; silence clears LINK_OK and
frames that return set it; the safe state takes the table's levels; and the field side's power clears its outputs and its
table. -/
def Sys2Proof.Claims.FieldLink : Prop :=
  (∀ (s : State) (up ok : Bool) (rb : BitVec 8) (n : BitVec 32), Live s →
    (s.card.fio.powered = true → Becomes (.fieldLinkFrame up true ok rb n) s
      (if up then s.card.frameToField else s.card.frameFromField ok rb n))
    ∧ Becomes (.fieldLinkFrame up false ok rb n) s (if up then s.card.tableSent else s.card))
  ∧ (∀ s : State, Live s → s.card.bit FIO_STATUS.LINK_OK = true →
      Gives .fieldSideSilent s fun c' => c'.bit FIO_STATUS.LINK_OK = false ∧ c'.bit FIO_STICKY.LINK_LOST = true
        ∧ c'.fio.lostAt = s.card.frame ∧ c'.fio.drive = s.card.fio.drive)
  ∧ (∀ s : State, Live s → s.card.bit FIO_STATUS.LINK_OK = false → s.card.fio.powered = true → s.card.fio.silent = false →
      Gives .linkRestored s fun c' => c'.bit FIO_STATUS.LINK_OK = true ∧ c'.fio.report = none)
  ∧ (∀ (s : State) (t : SafeTable), Live s → s.card.fio.silent = false → s.card.fio.powered = true →
      s.card.fio.table = some t →
      Gives .safeState s fun c' => c'.fio.silent = true ∧ c'.fio.safeDo = 0xFF
        ∧ ∀ i < 8, c'.fio.drive.getLsbD i = (!s.card.fio.tripped.getLsbD i
            && (if t.actions / 4 ^ i % 4 = 0 then false else if t.actions / 4 ^ i % 4 = 1 then true
                else s.card.fio.drive.getLsbD i)))
  ∧ (∀ s : State, Live s →
      Becomes .fieldPowerLost s { s.card with fio.powered := false, fio.drive := 0, fio.table := none })
  ∧ (∀ s : State, Live s → s.card.fio.powered = false →
      Becomes .fieldPowerUp s { s.card with fio.powered := true, fio.silent := false })

/-- CAN traffic (R403 to R405): a controller on the bus stores the frames it receives; the pigeonhole that sends is done once
its frame is on the bus, and in loopback receives it too; a frame not sent within TX_TO ends its operation with 0xE006; the
time snapshot reads the captured pair into its registers. -/
def Sys2Proof.Claims.CanTraffic : Prop :=
  (∀ (s : State) (n : Nat) (f : CanFrame), Live s → n < 2 → s.card.bit FIO_STATUS.LINK_OK = true →
    s.card.fio.powered = true → (f.fdf = true → s.card.bit (CAN_CTRL.FD_EN n) = true) → s.card.fld (CAN_CTRL.MODE n) ≠ 2 →
    (s.card.canState n = 2 ∨ s.card.canState n = 3 ∨ (s.card.canState n = 5 ∧ s.card.wakeMatch n f = true) →
      Becomes (.canFrameReceived n f) s ((s.card.jrnField (35 + n) f.id.toNat f.data).storeFrame n f))
    ∧ (s.card.canState n < 2 ∨ s.card.canState n = 4 → Becomes (.canFrameReceived n f) s s.card))
  ∧ (∀ (s : State) (n h slot : Nat), Live s → n < 2 → s.card.canSends n = true → s.card.sendHole n = some h →
      s.card.fld (CAN_CTRL.MODE n) ≠ 2 → (s.card.hole n h).op = some slot →
      Becomes (.canFrameSent n) s
        ((({ s.card with can.lastFrames := s.card.can.lastFrames.filter (· ≠ n) }.endSend n h).commit slot).done slot))
  ∧ (∀ (s : State) (n h slot : Nat), Live s → n < 2 → h < 128 → (s.card.hole n h).asked = true →
      s.card.fld (CAN_CTRL.TX_TO n) ≤ framesSince s.card.frame (s.card.hole n h).at' →
      (s.card.hole n h).op = some slot →
      let c := s.card.endSend n h
      Becomes (.canSendTimeout n h) s
        ((((c.stick (CAN_STICKY.TX_TIMEOUT n)).record 0xE007 [pN n, pN h]).commit slot).complete slot 0x0C 0xE006))
  ∧ (∀ s : State, Live s → Gives .canTsSnapshot s fun c' =>
      c'.fld CAN_TS_PM_LO.PM = s.card.can.cap.2 % 2 ^ 32 ∧ c'.fld CAN_TS_PM_HI.PM = s.card.can.cap.2 / 2 ^ 32 % 2 ^ 32
        ∧ c'.fld CAN_TS_CNT.CNT = s.card.can.cap.1.toNat ∧ c'.fld CAN_TS_FRAME.FRAME = s.card.can.capFrame.toNat)

/-- The states of a CAN controller (R406 to R408): the error counters show and lead to error passive above 127, bus-off above
255, and back; bus-off ends by itself only with AUTO_RECOVER; integration ends on the bus; sleep is entered for the
operations that wait for it and left by a cause that wakes. -/
def Sys2Proof.Claims.CanStates : Prop :=
  ∀ (s : State) (n : Nat), Live s → n < 2 →
    (∀ tec rc, s.card.canState n = 2 ∨ s.card.canState n = 3 →
      (tec ≤ 127 → rc ≤ 127 → Gives (.canError n tec rc) s fun c' => c'.fld (CAN_STATUS.TEC n) = tec
        ∧ c'.fld (CAN_STATUS.REC n) = rc ∧ c'.canState n = 2)
      ∧ (tec ≤ 255 → 127 < tec ∨ 127 < rc → Gives (.canError n tec rc) s fun c' => c'.fld (CAN_STATUS.TEC n) = tec
          ∧ c'.fld (CAN_STATUS.REC n) = Min.min rc 255 ∧ c'.canState n = 3
          ∧ (s.card.canState n = 2 → c'.bit (CAN_STICKY.ERR_PASSIVE n) = true))
      ∧ (255 < tec → Gives (.canError n tec rc) s fun c' => c'.canState n = 4 ∧ c'.bit (CAN_STICKY.BUS_OFF n) = true))
    ∧ (s.card.canState n = 4 → s.card.bit (CAN_CTRL.AUTO_RECOVER n) = true →
        Gives (.canBusOffRecovery n) s fun c' => c'.canState n = 2 ∧ c'.fld (CAN_STATUS.TEC n) = 0
          ∧ c'.fld (CAN_STATUS.REC n) = 0)
    ∧ (s.card.canState n = 4 → s.card.bit (CAN_CTRL.AUTO_RECOVER n) = false → Becomes (.canBusOffRecovery n) s s.card)
    ∧ (s.card.canState n = 1 → Gives (.canIntegrationEnd n) s fun c' => c'.canState n = 2)
    ∧ (s.card.sleepOps n 0 ≠ [] → s.card.canState n = 2 → Gives (.canSleepEntry n) s fun c' => c'.canState n = 5)
    ∧ (∀ cause, s.card.canState n = 5 → s.card.wakes n cause = true → Gives (.canWake n cause) s fun c' =>
        c'.canState n = 1 ∧ c'.bit (CAN_STICKY.WAKE n) = true)

/-- Field points and the link to the field side (R391 to R401). -/
def Obligations.FieldPointsAndLink : Prop := Sys2Proof.Claims.FieldPoints ∧ Sys2Proof.Claims.FieldLink

/-- The CAN controllers' traffic and states (R402 to R409). -/
def Obligations.CanController : Prop := Sys2Proof.Claims.CanTraffic ∧ Sys2Proof.Claims.CanStates

end Field

namespace Sys2Proof.Claims

open Sys2Proof.Machine

/-- The byte at `a` once `bs` are stored from `at'` on. -/
def stored (c : Card) (at' : Nat) (bs : List Byte) (a : Nat) : Byte :=
  if at' ≤ a ∧ a < at' + bs.length then bs.getD (a - at') 0 else c.hst.mem.get noByte a

/-- A sticky or pending bit is set and nothing else of its register changes. -/
def SetsBit (f : Fld) (c c' : Card) : Prop :=
  c'.bit f = true ∧ ∀ k < 32, k ≠ f.lo → (c'.reg f.off).getLsbD k = (c.reg f.off).getLsbD k

end Sys2Proof.Claims

section Host

open Sys2Proof Sys2Proof.Machine Sys2Proof.Claims

/-- Host memory (R302): what the module writes reads back, every other byte is unchanged, the memory keeps its canonical
form, and without bus mastering nothing is written. -/
def Sys2Proof.Claims.HostMemoryWrites : Prop :=
  ∀ (c : Card) (at' : Nat) (bs : List Byte),
    (c.masters = true → ∀ a, (c.dma at' bs).hst.mem.get noByte a = stored c at' bs a)
    ∧ (c.masters = false → c.dma at' bs = c)
    ∧ (c.hst.mem.wf noByte = true → (c.dma at' bs).hst.mem.wf noByte = true)

/-- A completion (R311, R313, R316, R325): posted, its 16 bytes stand at the tail of its completion ring, and no other byte
of host memory changes; the ring's tail goes on and PHASE changes as it passes the end; the operation's slot falls free; and
the ring's source fires. Produced while the ring is full, another waits for it or the module masters nothing, it waits. -/
def Sys2Proof.Claims.CompletionEntries : Prop :=
  ∀ (c : Card) (p : Cpl),
    (c.masters = true → p.noEvent = false →
      (∀ a, (c.post p).hst.mem.get noByte a
        = stored c ((c.cq p.cq).base + 16 * (c.cq p.cq).tail) (p.bytes (c.cq p.cq).phase (c.sq p.sq).head) a)
      ∧ ((c.post p).cq p.cq).tail = ((c.cq p.cq).tail + 1) % 2 ^ (c.cq p.cq).log2
      ∧ (((c.cq p.cq).tail + 1) % 2 ^ (c.cq p.cq).log2 = 0 → ((c.post p).cq p.cq).phase = !(c.cq p.cq).phase)
      ∧ (∀ n, n ≠ p.cq → (c.post p).cq n = c.cq n)
      ∧ (∀ slot, p.owner = some slot → (c.post p).op slot = none)
      ∧ (p.cq < 64 → (c.post p).bit ⟨HST_EV_PEND (p.cq / 32), p.cq % 32, 1⟩ = true))
    ∧ (p.bytes (c.cq p.cq).phase (c.sq p.sq).head).length = 16
    ∧ (c.masters = false ∨ (c.cq p.cq).isFull = true ∨ (c.hst.waiting.any fun w => w.cq == p.cq) = true →
        c.produce p = { c with hst.waiting := c.hst.waiting ++ [p] })

/-- Event sources and their vectors (R325, R326): a source that fires sets its pending bit and no other register; with EN
its vector is pending while it is masked or nothing is mastered, is sent where MOD has passed since its last message, and
else is merged. -/
def Sys2Proof.Claims.SourcesAndVectors : Prop :=
  ∀ (c : Card) (n : Nat), n < 512 →
    let v := c.fld (HST_EV_MAP.VECTOR n)
    SetsBit ⟨HST_EV_PEND (n / 32), n % 32, 1⟩ c (c.fire n)
    ∧ (∀ off, off ≠ HST_EV_PEND (n / 32) → (c.fire n).reg off = c.reg off)
    ∧ (c.bit (HST_EV_MAP.EN n) = false → ∀ w, (c.fire n).vec w = c.vec w)
    ∧ (c.bit (HST_EV_MAP.EN n) = true → (∀ w, w ≠ v → (c.fire n).vec w = c.vec w)
        ∧ ((c.vec v).masked = true ∨ c.masters = false → (c.fire n).vec v = { c.vec v with pending := true })
        ∧ ((c.vec v).masked = false → c.masters = true → c.modPassed v = true →
            ((c.fire n).vec v).sent = (c.vec v).sent + 1 ∧ ((c.fire n).vec v).last = some c.tim.clock)
        ∧ ((c.vec v).masked = false → c.masters = true → c.modPassed v = false →
            (c.fire n).vec v = { c.vec v with merged := true }))

/-- The commands of the vectors (R326): a merged vector sends once MOD has passed; an unmasked one that is pending sends at
once. -/
def Sys2Proof.Claims.VectorMessages : Prop :=
  ∀ (s : State) (v : Nat), Live s → v < 64 →
    ((s.card.vec v).merged = true → (s.card.vec v).masked = false → s.card.masters = true → s.card.modPassed v = true →
      Becomes (.msixMessage v) s (s.card.sendVec v))
    ∧ ((s.card.vec v).merged = false → Becomes (.msixMessage v) s s.card)
    ∧ (let c := s.card.setVec v { s.card.vec v with masked := false }
       Becomes (.msixUnmask v) s (if (s.card.vec v).pending = true ∧ s.card.masters = true then c.sendVec v else c))

/-- Doorbells (R308, R309, R316): a tail within the ring is stored, one outside it puts a running ring into ERROR; a head
within its ring is stored (one just past the tail makes the ring full), and the completions that wait are posted while
there is room; a doorbell of no ring is discarded. -/
def Obligations.Doorbells : Prop :=
  (∀ (s : State) (n : Nat) (v : BitVec 32), Live s → n < 64 →
    (s.card.sq n).state = 1 ∨ (s.card.sq n).state = 2 → v.toNat < 2 ^ (s.card.sq n).log2 →
    Becomes (.sqTailDoorbell n v) s ((s.card.jrnFree 0x06).setSq n { s.card.sq n with tail := v.toNat }))
  ∧ (∀ (s : State) (n : Nat) (v : BitVec 32), Live s → n < 64 → (s.card.sq n).state = 1 →
      2 ^ (s.card.sq n).log2 ≤ v.toNat →
      Becomes (.sqTailDoorbell n v) s ((s.card.jrnFree 0x06).sqError n 0 v))
  ∧ (∀ (s : State) (n : Nat) (v : BitVec 32), Live s → n < 64 → (s.card.cq n).present = true →
      v.toNat < 2 ^ (s.card.cq n).log2 →
      let q : Cq := { s.card.cq n with head := v.toNat }
      let c := (s.card.jrnFree 0x06).setCq n { q with full := q.isFull }
      let c := if q.isFull = true ∧ (s.card.cq n).full = false then c.cqFull n else c
      Becomes (.cqHeadDoorbell n v) s (Card.drainWaiting c.hst.waiting.length c))
  ∧ (∀ (s : State) (off : Nat) (v : BitVec 32), Live s →
      (s.card.hst.dbNoRingInFrame = true →
        Becomes (.doorbellDiscarded off v) s (s.card.stick HST_STICKY.DB_NO_RING))
      ∧ (s.card.hst.dbNoRingInFrame = false → Becomes (.doorbellDiscarded off v) s
          ({ s.card.stick HST_STICKY.DB_NO_RING with hst.dbNoRingInFrame := true }.record 0xA011 [pN off, v]))
      ∧ (∀ n, (s.card.sq n).state = 0 → Becomes (.sqTailDoorbell n v) s (s.card.discardDoorbell (8 * n) v))
      ∧ (∀ n, (s.card.cq n).present = false → Becomes (.cqHeadDoorbell n v) s (s.card.discardDoorbell (8 * n + 4) v)))

/-- The PCIe side (R302, R315, R319 to R323): fetching serves the held descriptors and then the rings; a reset, a link that
comes up, bus mastering, the power state and a failed read act as their rules say; and HOST_READY is announced once. -/
def Obligations.HostLink : Prop :=
  (∀ s : State, Live s →
    let c := Card.retryHeld s.card.hst.held.length s.card
    Becomes .descriptorFetch s (if c.masters then Card.fetchAll 64 c else c)
    ∧ Becomes .busMasterEnable s { s.card with hst.busMaster := true }.resumeMaster
    ∧ Becomes .pcieLinkUp s { s.card with hst.linkUp := true }
    ∧ (∀ d, Becomes (.d3hotTransition d) s { s.card with hst.d3 := d }.resumeMaster)
    ∧ (s.card.hst.ready = false → s.card.sys.restarting = false → Becomes .hostReady s
        (({ s.card with hst.ready := true }.record 0xA002 [pN s.card.frame.toNat]).fire 89))
    ∧ (s.card.hst.ready = true → Becomes .hostReady s s.card))
  ∧ (∀ (s : State) (k : Nat), Live s → k ≤ 2 → Becomes (.hostInterfaceReset k) s (s.card.hostReset k)
      ∧ Gives (.hostInterfaceReset k) s fun c' => c'.hst.sqs = [] ∧ c'.bit HST_STICKY.HOST_RESET = true)
  ∧ (∀ (s : State) (n p : Nat) (r : List (Nat × Nat)), Live s →
      (s.card.hst.arriving.filter fun x => x.1 == n) = (n, p) :: r →
      let c := { s.card with hst.arriving := s.card.hst.arriving.filter fun x => x.1 != n }
      let c := c.setSq n { s.card.sq n with head := p }
      Becomes (.dmaReadError true n) s
        ((if (s.card.sq n).state = 1 then c.sqError n 1 0 else c).stick HST_STICKY.DMA_ERROR))
  ∧ (∀ (s : State) (slot : Nat) (o : Op), Live s → s.card.op slot = some o → o.committed = false → o.produced = false →
      readers.contains o.opcode = true →
      Becomes (.dmaReadError false slot) s
        (((s.card.withdraw slot o).complete slot 3 0xA050).stick HST_STICKY.DMA_ERROR))

/-- Host memory and the completions in it (R302, R311, R313, R316). -/
def Obligations.HostMemoryAndCompletions : Prop := Sys2Proof.Claims.HostMemoryWrites ∧ Sys2Proof.Claims.CompletionEntries

end Host

section Lanes

open Sys2Proof Sys2Proof.Machine Sys2Proof.Claims

/-- Disagreement and agreement of a lane's cores (R336, R337): the core is marked and counted, fails when it has just been
resynchronised or at RESYNC_LIMIT faults, and the lane fails without a second good copy; at a frame's start a marked core
takes an agreeing core's state; a trap saves its context, or is fatal. -/
def Obligations.CoreEvents : Prop :=
  (∀ (s : State) (l k : Nat), Live s → l < 2 → k < 3 → s.card.lan.split = false → s.card.lan.recovery = false →
    2 ≤ s.card.laneState l → s.card.laneState l ≤ 5 → (∀ i < 3, s.card.coreState l i = 0) →
    let c := ((s.card.count LAN_CNT.RESYNC).stick LAN_STICKY.RESYNC).laneEvent 0xB001 [pN l, pN k, s.card.frame]
    let fs := ((s.card.lane l).faults.filter fun y => decide (framesSince s.card.frame (BitVec.ofNat 32 y.2) < 65536))
      ++ [(k, s.card.frame.toNat)]
    let m := c.modLane l fun x => { x with faults := fs }
    let r := if (s.card.lane l).resynced.contains k = true then m.failCore l k 1
      else if m.fld LAN_CFG.RESYNC_LIMIT ≤ (fs.filter (·.1 == k)).length then m.failCore l k 0
      else m.setFld (coreFld l k) 1
    Becomes (.coreDisagree l k true) s r ∧ Becomes (.coreDisagree l k false) s (r.failLane l 2))
  ∧ (∀ (s : State) (l k a : Nat), Live s → l < 2 → s.card.lan.split = false → s.card.tim.slot = 0 →
      s.card.laneState l ≠ 6 → ¬(l = 0 ∧ s.card.halted = true) → (s.card.coresIn l 0).head? = some a →
      s.card.coresIn l 1 = [k] → (∀ y ∈ (s.card.lane l).faults, y.1 = k → y.2 ≠ s.card.frame.toNat) →
      let c := (s.card.setCore l k (s.card.core l a)).setFld (coreFld l k) 0
      Becomes (.coreResync l) s ((c.modLane l fun x => { x with resynced := x.resynced ++ [k] }).laneEvent 0xB002 [pN l, pN k]))
  ∧ (∀ (s : State) (l k : Nat) (int : Bool) (code : Nat), Live s → l < 2 → k < 3 → s.card.laneState l ≠ 0 →
      s.card.laneState l ≠ 6 → (s.card.core l k).stopped = false →
      ((s.card.core l k).csrGet 0x7C0).getLsbD 1 = false ∨ int = true →
      let t := (s.card.core l k).trap int code
      (((s.card.core l k).csrGet 0x7C0).getLsbD 0 = false →
        Becomes (.contextSave l k int code false) s (s.card.setCore l k t))
      ∧ (((s.card.core l k).csrGet 0x7C0).getLsbD 0 = true → t.pushValid = true →
          Becomes (.contextSave l k int code false) s
            ((s.card.setCore l k (t.set 2 (BitVec.ofNat 32 ((t.get 2).toNat - 80)))).modLane l fun x =>
              { x with mem := x.mem.setRange x.left ((t.get 2).toNat - 80) (t.saved.flatMap fun w => le 4 w.toNat) }))
      ∧ (((s.card.core l k).csrGet 0x7C0).getLsbD 0 = true → t.pushValid = false → s.card.lan.split = false →
          Becomes (.contextSave l k int code false) s
            ((((s.card.setCore l k t.fatal).stick LAN_STICKY.FATAL).laneEvent 0xB020
              [pN l, (s.card.core l k).pc, (s.card.core l k).get 2, t.csrGet 0x342]).failLane l 3)))

/-- The shadow (R342 to R344, R357): a takeover that is due makes the other lane primary and the shadow state is no longer
valid; an import that catches up makes the shadow valid, one that does not starts again; a prepared update is ready after
SHADOW_MIN frames; and a boot that has run 10,000 frames clears BOOT_CNT. -/
def Obligations.ShadowLane : Prop :=
  (∀ (s : State) (l cause : Nat), Live s → s.card.tim.slot = 0 → s.card.lan.takeoverDue = some (l, cause) →
    (s.card.canTakeOver l = true → s.card.laneState l = 3 → cause ≠ 1 → Becomes .laneTakeover s
      (((({ s.card with lan.takeoverDue := none }.makePrimary l).stick LAN_STICKY.TAKEOVER).laneEvent 0xB012
        [pN l, pN cause]).setFld LAN_STATUS.SHADOW_VALID 0))
    ∧ (s.card.canTakeOver l = false → cause ≠ 1 → Becomes .laneTakeover s { s.card with lan.takeoverDue := none }))
  ∧ (∀ (s : State) (l : Nat), Live s → l < 2 → l ≠ s.card.primary → s.card.lan.split = false →
      s.card.lan.recovery = false → s.card.laneState l = 1 ∨ s.card.laneState l = 2 → s.card.upd = 0 →
      s.card.laneState s.card.primary = 4 → (s.card.lane l).resetDue = false → s.card.lan.prepareDue = false →
      Becomes (.stateImport l true) s (s.card.imported l)
      ∧ Becomes (.stateImport l false) s (s.card.importFailed l)
      ∧ Gives (.stateImport l true) s fun c' => c'.fld LAN_STATUS.SHADOW_VALID = 1 ∧ c'.laneState l = 3)
  ∧ (∀ s : State, Live s → s.card.upd = 2 → s.card.fld LAN_CFG.SHADOW_MIN ≤ s.card.lan.updFrames →
      Gives .updShadowReady s fun c' => c'.upd = 3 ∧ c'.lan.prepareOp = none)
  ∧ (∀ s : State, Live s → s.card.upd ≠ 2 → Becomes .updShadowReady s s.card)
  ∧ (∀ s : State, Live s → 10000 ≤ s.card.lan.bootFrames →
      Gives .bootCntClear s fun c' => c'.fld LAN_BANK_STAT.BOOT_CNT = 0)
  ∧ (∀ s : State, Live s → s.card.lan.bootFrames < 10000 → Becomes .bootCntClear s s.card)

/-- Images and satellites (R351 to R354, R358): a staged bank whose parts all verify becomes VERIFIED with event 0xB040, one
that does not sets BAD_HASH and names its bad parts; a network piece enters the bank; an update of a satellite asks for its
reset in slot 6 once its neighbours are ready. -/
def Obligations.ImageEvents : Prop :=
  (∀ s : State, Live s →
    let k := s.card.standbyBank
    let b := s.card.bank k
    s.card.imgState k = 1 → b.manifest ≠ [] → b.missing = 0 →
    (b.badParts = [] → Becomes .imageVerify s
      (((s.card.jrnFree 0x0B).setFld (imgFld k) 2).record 0xB040 [pN k, pN (leAt b.manifest 4 4)]))
    ∧ (∀ q, b.badParts = [q] → Becomes .imageVerify s
        ((((((s.card.jrnFree 0x0B).setFld (imgFld k) 3).stick LAN_STICKY.BAD_HASH).record 0xB041 [pN k, pN q]).setBank k
          (b.erasePart q)).showStage)))
  ∧ (∀ s : State, Live s → s.card.imgState s.card.standbyBank ≠ 1 → Becomes .imageVerify s s.card)
  ∧ (∀ (s : State) (e : Envelope), Live s → s.card.bit LAN_CTRL.NET_UPD = true → e.udp = s.card.fld LAN_CTRL.UPD_PORT →
      leAt e.body 6 1 ≤ 7 → (heard 0x20 e s.card).plantCheck 0x20 e = none →
      Becomes (.networkParcel e) s ((authentic 0x20 e s.card).addPiece (BitVec.ofNat 32 (leAt e.body 0 4)) (leAt e.body 4 2)
        (leAt e.body 6 1) (slice e.body 8 512)))
  ∧ (∀ (s : State) (n : Nat) (u : SatUpd), Live s → StringNo n → s.card.satUpd n = some u → u.step = 7 →
      s.card.tim.slot = 6 → s.card.updPending n (u.places.headD 0) = false →
      s.card.bit (CHN_STATUS.RESETTING n) = false →
      (∀ q ∈ places, q ≠ u.places.headD 0 → q ≤ s.card.satCount n →
        s.card.inService n q = true ∧ s.card.bit (CHN_SAT_STATE.STALE n q) = false) →
      Becomes (.satReset n) s ((s.card.request n (u.places.headD 0) 0x0D [0] .update).pumpRequests n))
  ∧ (∀ (s : State) (n : Nat), Live s → s.card.satUpd n = none → Becomes (.satReset n) s s.card)

end Lanes

section Recorder

open Sys2Proof Sys2Proof.Machine Sys2Proof.Claims

/-- The intake (R366, R367, R369): a record of a listed code bears its severity and its first four parameters, and one of no
table is never made; the records of a command enter a queue of 64 in block order, and a record that finds the queue full
is dropped, and DROPPED set. -/
def Sys2Proof.Claims.RecordIntake : Prop :=
  (∀ (c : Card) (ev : Nat) (ps : List Word),
    (∀ sev, eventSev ev = some sev →
      ∃ r, (c.record ev ps).rcd.handed = c.rcd.handed ++ [r] ∧ r.code = ev ∧ r.sev = sev ∧ r.pm = c.pm
        ∧ r.p = (ps ++ List.replicate 4 0).take 4 ∧ (∀ off, (c.record ev ps).reg off = c.reg off))
    ∧ (eventSev ev = none → c.record ev ps = c))
  ∧ (∀ c : Card, c.takeHanded.rcd.handed = []
      ∧ c.takeHanded.rcd.intake = (c.rcd.intake ++ blockOrder c.rcd.handed).take (max 64 c.rcd.intake.length)
      ∧ (64 < c.rcd.intake.length + (blockOrder c.rcd.handed).length → blockOrder c.rcd.handed ≠ [] →
          c.takeHanded.bit REC_STICKY.DROPPED = true))
  ∧ (∀ (l : List Record) (r : Record), r.code < 0x10000 → (r ∈ blockOrder l ↔ r ∈ l))
  ∧ (∀ l : List Record, (blockOrder l).Pairwise fun a b => a.code / 0x1000 ≤ b.code / 0x1000)

/-- RECORD_STORE and the drops (R368, R370, R371): the oldest record leaves the intake with the next SEQ, and SEQ_NEXT goes
on, to 1 after its greatest value; a good write stands in the lowest free place of a store that has one. -/
def Sys2Proof.Claims.RecordStoring : Prop :=
  (∀ (s : State) (r : Record) (rest : List Record), Live s → NoDeletes s.card → s.card.rcd.handed = [] →
      s.card.rcd.intake = r :: rest →
    Gives (.recordStore false) s fun c' => c'.rcd.intake = rest
      ∧ c'.fld REC_SEQ_NEXT.SEQ_NEXT = (if s.card.fld REC_SEQ_NEXT.SEQ_NEXT = 2 ^ 32 - 1 then 1
        else s.card.fld REC_SEQ_NEXT.SEQ_NEXT + 1)
      ∧ ∀ k, s.card.storeLeft = true → firstFree 32768 s.card.rcd.store (fun k => !s.card.regionRetired (k / 128)) 0 = some k →
          c'.rcd.store.get (fun _ => none) k = some { r with seq := s.card.fld REC_SEQ_NEXT.SEQ_NEXT })
  ∧ (∀ (s : State) (bad : Bool), Live s → s.card.rcd.intake = [] → Becomes (.recordStore bad) s s.card)
  ∧ (∀ (s : State) (code sev : Nat), Live s → eventSev code = some sev →
      (64 ≤ s.card.rcd.intake.length → Becomes (.recordIntakeDrop code) s (s.card.countDrop sev))
      ∧ (s.card.rcd.intake.length < 64 → Becomes (.recordIntakeDrop code) s s.card))

/-- Origins (R380 to R382): one that is asked for begins, unless another is under way, and ORIGIN_BUSY is set; without
mastering or time it fails; a complete one goes to its buffer, with event 0xC021, and ORIGIN_BUSY is cleared. -/
def Sys2Proof.Claims.Origins : Prop :=
  (∀ (s : State) (fast : Bool), Live s → s.card.rcd.origin.isSome = true ∨ s.card.tim.slot ≠ 0 →
      Becomes (.originStart fast) s s.card)
  ∧ (∀ (s : State) (slot : Nat), Live s → s.card.tim.slot = 0 → s.card.rcd.origin = none → s.card.originOp = some slot →
      (s.card.masters = true → Gives (.originStart true) s fun c' => c'.bit REC_STATUS.ORIGIN_BUSY = true
        ∧ ∃ o, c'.rcd.origin = some o ∧ o.op = some slot ∧ o.frame = s.card.frame)
      ∧ Becomes (.originStart false) s ((s.card.originFail s.card.frame 0).complete slot 3 0xC003))
  ∧ (∀ (s : State) (o : Origin), Live s → s.card.rcd.origin = some o →
      Becomes (.originComplete true) s (s.card.endOrigin o 1)
      ∧ (64 < framesSince s.card.frame o.frame → Becomes (.originComplete false) s (s.card.endOrigin o 2))
      ∧ (framesSince s.card.frame o.frame ≤ 64 → o.op = none →
          (∀ n ∈ strings, (o.parts.any fun x => x.1 == 1 && x.2.1 == n) = true) →
          let bs := s.card.originBytes o (s.card.rcd.orgSeq + 1)
          let c := { s.card with rcd.origin := none, rcd.orgSeq := (s.card.rcd.orgSeq + 1) % 2 ^ 32 }
          Becomes (.originComplete false) s
            (((c.setFld REC_STATUS.ORIGIN_BUSY 0).record 0xC021 [o.frame, pN bs.length]).dma o.buffer bs)))

/-- The recorder's intake, store and origins (R366 to R371, R380 to R383). -/
def Obligations.RecorderStore : Prop := Sys2Proof.Claims.RecordIntake ∧ Sys2Proof.Claims.RecordStoring ∧ Sys2Proof.Claims.Origins

end Recorder

section CardPower

open Sys2Proof Sys2Proof.Machine Sys2Proof.Claims

/-- Cold starts (R3, R433, R434): power on a card that had none, or a card seated with a feed in range, starts from the cold
values with what the card keeps; a card that has power is only seated. -/
def Obligations.ColdStarts : Prop :=
  ∀ (s : State) (pins : BitVec 11) (failed : List Nat),
    Becomes (.coldReset pins failed) s (s.card.powerUp pins failed)
    ∧ (s.card.sys.powered = true ∨ (s.card.sys.lostFeeds.contains 0 = true ∧ s.card.sys.lostFeeds.contains 1 = true) →
        Becomes (.cardSeated pins failed) s { s.card with sys.seated := true })
    ∧ (s.card.sys.powered = false → s.card.sys.lostFeeds.contains 0 = false →
        Becomes (.cardSeated pins failed) s (s.card.powerUp pins failed))

/-- Warm resets (R451, R459): the front button resets with cause 1; the restart completes once, with event 0x0016 and the
cause. -/
def Obligations.WarmResets : Prop :=
  (∀ s : State, Live s → Becomes .resetButton s (s.card.warmReset 1))
  ∧ (∀ (s : State) (l : Nat), Live s → l < 2 → s.card.sys.restarting = true → s.card.lan.recovery = true →
      s.card.sys.requestsEnded = 0 → s.card.sys.sessionsEnded = [] →
      Becomes (.warmRestartComplete l) s
        (({ s.card with sys.restarting := false }.record 0xA003 [pN s.card.sys.opsEnded]).record 0x0016
          [pN s.card.sys.resetCause]))
  ∧ (∀ (s : State) (l : Nat), Live s → s.card.sys.restarting = false → Becomes (.warmRestartComplete l) s s.card)

/-- The feeds (R435 to R437): a feed that is lost shows, is recorded and commits the accounts; the loss of the active feed A
moves the card to feed B, and the loss of both begins hold-up; a feed that returns shows, and RETURN_PEND moves the card
back at FEED_RETURN; a spent hold-up bank leaves the card without power. -/
def Sys2Proof.Claims.Feeds : Prop :=
  (∀ (s : State) (k v b : Nat), Live s → k < 2 → s.card.sys.lostFeeds.contains k = false →
    let c := { s.card with sys.lostFeeds := s.card.sys.lostFeeds ++ [k] }
    let c := (c.showFeeds.setFld (feedV k) v).stick (if k = 0 then SYS_STICKY.A_LOST else SYS_STICKY.B_LOST)
    let c := (c.record 0x0001 [pN k, pN v]).commitAccounts
    (s.card.sys.lostFeeds ≠ [] → Becomes (.feedLost k v b) s (c.holdUp b))
    ∧ (s.card.sys.lostFeeds = [] → k = 0 → (c.setFld SYS_FEED_STAT.RETURN_PEND 0).fld SYS_FEED_STAT.ACTIVE ≠ 1 →
        Becomes (.feedLost k v b) s (c.setFld SYS_FEED_STAT.RETURN_PEND 0).toFeedB)
    ∧ (s.card.sys.lostFeeds = [] → k = 1 → c.fld SYS_FEED_STAT.ACTIVE ≠ 1 → Becomes (.feedLost k v b) s c))
  ∧ (∀ (s : State) (k v b : Nat), s.card.sys.powered = false → k < 2 → s.card.sys.lostFeeds.contains k = false →
      Becomes (.feedLost k v b) s { s.card with sys.lostFeeds := s.card.sys.lostFeeds ++ [k] })
  ∧ (∀ (s : State) (k v : Nat), Live s → k < 2 →
      let c := { s.card with sys.lostFeeds := s.card.sys.lostFeeds.filter (· ≠ k) }
      let c := c.showFeeds.setFld (feedV k) v
      (s.card.sys.lostFeeds.contains k = false → Becomes (.feedInRange k v) s c)
      ∧ (s.card.sys.lostFeeds.contains k = true → k = 0 → c.fld SYS_FEED_STAT.ACTIVE = 1 →
          c.bit SYS_FEED_STAT.HOLDUP = false → Gives (.feedInRange k v) s fun c' =>
            c'.bit SYS_FEED_STAT.RETURN_PEND = true ∧ 0 ∉ c'.sys.lostFeeds ∧ c'.bit SYS_FEED_STAT.A_OK = true))
  ∧ (∀ s : State, Live s →
      (s.card.bit SYS_FEED_STAT.RETURN_PEND = true → Becomes .feedReturn s s.card.toFeedA)
      ∧ (s.card.bit SYS_FEED_STAT.RETURN_PEND = false → Becomes .feedReturn s s.card)
      ∧ (s.card.bit SYS_FEED_STAT.HOLDUP = true → Becomes .holdupSpent s { s.card with sys.powered := false })
      ∧ (s.card.bit SYS_FEED_STAT.HOLDUP = false → Becomes .holdupSpent s s.card))

/-- Removal (R445 to R450): an opened latch shows and starts the drain; the drain completes once every string is open, with
DRAINED and its operations done; a card pulled before that writes its power-loss record. -/
def Sys2Proof.Claims.Removal : Prop :=
  (∀ s : State, Live s →
    (s.card.fld SYS_SLOT.REMOVE = 0 → Becomes .ejectorLatchOpen s
      (((s.card.setFld SYS_SLOT.LATCH 0).stick SYS_STICKY.EJECT).startDrain 0))
    ∧ Becomes .ejectorLatchClose s (s.card.setFld SYS_SLOT.LATCH 1)
    ∧ (s.card.fld SYS_SLOT.REMOVE = 2 → Becomes .cardUnseated s { s.card with sys.seated := false })
    ∧ (s.card.fld SYS_SLOT.REMOVE ≠ 2 → Becomes .cardUnseated s { s.card with sys.seated := false }.writeLoss))
  ∧ (∀ s : State, Live s → s.card.fld SYS_SLOT.REMOVE = 1 → s.card.sys.drainPending = false →
      (∀ n ∈ strings, (s.card.safState n = 0 ∨ s.card.safState n = 6) ∧ s.card.bit (SAF_STR_STATE.WELD_PEND n) = false) →
      Gives .drainComplete s fun c' => c'.fld SYS_SLOT.REMOVE = 2 ∧ c'.bit SYS_STICKY.DRAINED = true
        ∧ c'.sys.drainOps = [])
  ∧ (∀ s : State, Live s → s.card.fld SYS_SLOT.REMOVE ≠ 1 → Becomes .drainComplete s s.card)

/-- The feeds, hold-up and removal of the card (R435 to R437, R445 to R450). -/
def Obligations.FeedsAndRemoval : Prop := Sys2Proof.Claims.Feeds ∧ Sys2Proof.Claims.Removal

end CardPower

namespace Sys2Proof.Claims

open Sys2Proof.Machine

/-- The card once the debug register takes a command. -/
def addressed (x : DbgCmd) (c : Card) : Card := { c.tap 10 with sec.dbg.data := x.data }

/-- A debug command, the role it needs, the range of its operands and the states that it is valid in (R427, R428). -/
noncomputable def debugCmds : List ((DbgCmd → Instr) × Nat × (DbgCmd → Bool) × List Nat) :=
  [(.attach, 2, fun _ => true, [0]), (.detach, 2, fun _ => true, [1, 2]), (.debugHalt, 2, fun _ => true, [1]),
   (.resume, 2, fun _ => true, [2]), (.step, 2, fun _ => true, [2]), (.bpSet, 2, fun _ => true, [1, 2]),
   (.bpClr, 2, fun _ => true, [1, 2]), (.regRd, 2, regOk, [2]), (.regWr, 3, regOk, [2]), (.memRd, 2, memOk, [2]),
   (.memWr, 3, memOk, [2])]

/-- An open J9 session of the role, zero fields, operands in range, a state that the command is valid in and no command
under way. -/
def DebugReady (x : DbgCmd) (role : Nat) (range : Bool) (states : List Nat) (c : Card) : Prop :=
  (∃ y, (addressed x c).j9Session = some y ∧ role ≤ y.role) ∧ x.zero = 0 ∧ range = true
    ∧ (addressed x c).sec.dbg.state ∈ states ∧ (addressed x c).sec.dbg.busy = none

/-- The card once a debug command is accepted. -/
def begun (x : DbgCmd) (c : Card) : Card := { addressed x c with sec.dbg.error := 0 }

end Sys2Proof.Claims

section Security

open Sys2Proof Sys2Proof.Machine Sys2Proof.Claims

/-- Sessions and blocked key slots (R419, R421): a session that is open ends with its cause, and event 0xF002; a block that
expires ends. -/
def Sys2Proof.Claims.SessionEnds : Prop :=
  (∀ (s : State) (n : Nat) (x : Session), Live s → s.card.session (BitVec.ofNat 16 n) = some x →
    let life := x.opened + s.card.fld SEC_CFG.LIFE * 3600 * 1000000000 ≤ s.card.tim.clock
    let idle := x.last + s.card.fld SEC_CFG.IDLE * 60 * 1000000000 ≤ s.card.tim.clock
    (life → Becomes (.sessionExpiry n) s (s.card.endSession (BitVec.ofNat 16 n) 2))
    ∧ (¬ life → idle → Becomes (.sessionExpiry n) s (s.card.endSession (BitVec.ofNat 16 n) 1))
    ∧ (¬ life → ¬ idle → Becomes (.sessionExpiry n) s s.card)
    ∧ (life ∨ idle → Gives (.sessionExpiry n) s fun c' => (∀ y ∈ c'.sec.sessions, y.id ≠ BitVec.ofNat 16 n)
        ∧ (∀ y ∈ s.card.sec.sessions, y.id ≠ BitVec.ofNat 16 n → y ∈ c'.sec.sessions)
        ∧ c'.sec.unlock ≠ some (BitVec.ofNat 16 n)))
  ∧ (∀ (s : State) (n : Nat), Live s → s.card.session (BitVec.ofNat 16 n) = none → Becomes (.sessionExpiry n) s s.card)
  ∧ (∀ (s : State) (n : Nat), Live s → n ≤ 8 → s.card.blocked n = false →
      Gives (.slotBlockExpiry n) s fun c' => (c'.key n).blockEnd = 0
      ∧ ∀ m, m ≠ n → c'.key m = s.card.key m)

/-- The TAP (R425, R426): each instruction loads or drives what its rule says; EXTEST drives only with an open maker session
and every string open; and Test-Logic-Reset selects IDCODE and ends the J9 session. -/
def Sys2Proof.Claims.TapInstructions : Prop :=
  (∀ (s : State) (bits : BitVec 612), Live s →
    (((s.card.tap 0).j9Session.any fun x => decide (x.role = 3)) = true → (s.card.tap 0).stringsDead = true →
      Becomes (.extest bits) s { s.card.tap 0 with sec.dbg.boundary := bits, sec.dbg.driving := true })
    ∧ (((s.card.tap 0).j9Session.any fun x => decide (x.role = 3)) = false ∨ (s.card.tap 0).stringsDead = false →
        Gives (.extest bits) s fun c' => c'.sec.dbg.driving = false ∧ c'.sec.dbg.boundary = s.card.sec.dbg.boundary
          ∧ c'.sec.dbg.bypass = bits.getLsbD 611 ∧ c'.bit SEC_STICKY.DBG_REFUSED = true)
    ∧ Becomes (.samplePreload bits) s { s.card.tap 2 with sec.dbg.boundary := bits })
  ∧ (∀ s : State, Live s → Becomes .idcode s { s.card.tap 1 with sec.dbg.tdr := 0x32048F29 }
      ∧ (∀ b, Becomes (.bypass b) s ((s.card.tap 31).shiftBypass b))
      ∧ (s.card.sec.dbg.j9 = none →
          Becomes .testLogicReset s { s.card with sec.dbg.ir := 1, sec.dbg.driving := false })
      ∧ (∀ id, s.card.sec.dbg.j9 = some id → Gives .testLogicReset s fun c' => c'.sec.dbg.ir = 1
          ∧ c'.sec.dbg.driving = false ∧ ∀ y ∈ c'.sec.sessions, y.id ≠ id))

/-- Authentication through J9 (R417, R419, R426): SEC_CHAL answers with a nonce, or with the status of its refusal; SEC_RESP
opens a session on the response that the key gives, within 10 s, and else fails with status 5 or 6. -/
def Sys2Proof.Claims.J9Authentication : Prop :=
  (∀ (s : State) (dr : BitVec 264), Live s →
    let c := s.card.tap 8
    let n := dr.toNat % 8
    ((c.key n).role < 2 → Becomes (.secChal dr) s { c with sec.dbg.chalStatus := 2 })
    ∧ (2 ≤ (c.key n).role → c.blocked n = true → Becomes (.secChal dr) s { c with sec.dbg.chalStatus := 3 })
    ∧ (2 ≤ (c.key n).role → c.blocked n = false → 16 ≤ c.sec.sessions.length →
        Becomes (.secChal dr) s { c with sec.dbg.chalStatus := 4 })
    ∧ (2 ≤ (c.key n).role → c.blocked n = false → c.sec.sessions.length < 16 →
        Gives (.secChal dr) s fun c' => c'.sec.dbg.chalStatus = 0
          ∧ ∃ x ∈ c'.sec.challenges, x.path = 1 ∧ x.slot = n ∧ x.nonce = c'.sec.dbg.chalNonce))
  ∧ (∀ (s : State) (dr : BitVec 264), Live s →
      let c := s.card.tap 9
      let open' := c.sec.challenges.find? fun x => x.path == 1 && decide (c.tim.clock ≤ x.issued + 10000000000)
      (open' = none → Becomes (.secResp dr) s { c with sec.dbg.respStatus := 6 })
      ∧ (∀ x, open' = some x →
          let c := c.useChallenge x.handle
          c.blocked x.slot = false → c.sec.sessions.length < 16 →
          (le 32 dr.toNat = c.expected x → Becomes (.secResp dr) s
            (let p := (c.authPass x.slot).openSession (c.key x.slot).role x.slot 1
             p.2.replaceJ9 p.1))
          ∧ (le 32 dr.toNat ≠ c.expected x →
              Becomes (.secResp dr) s { c.authFail x.slot 1 with sec.dbg.respStatus := 5 })))

/-- The checks of a debug command, in their order (R427): no session, too low a role, nonzero reserved fields, a range, a
state, a command under way; each sets its error and DBG_REFUSED and nothing else happens. -/
def Obligations.DebugRefusals : Prop :=
  ∀ k ∈ debugCmds, ∀ (s : State) (x : DbgCmd), Live s →
    let c := addressed x s.card
    (c.j9Session = none → Becomes (k.1 x) s (c.debugError 1))
    ∧ ∀ y, c.j9Session = some y →
      (y.role < k.2.1 → Becomes (k.1 x) s (c.debugError 2))
      ∧ (k.2.1 ≤ y.role → x.zero ≠ 0 → Becomes (k.1 x) s (c.debugError 3))
      ∧ (k.2.1 ≤ y.role → x.zero = 0 → k.2.2.1 x = false → Becomes (k.1 x) s (c.debugError 6))
      ∧ (k.2.1 ≤ y.role → x.zero = 0 → k.2.2.1 x = true → c.sec.dbg.state ∉ k.2.2.2 → Becomes (k.1 x) s (c.debugError 7))
      ∧ (k.2.1 ≤ y.role → x.zero = 0 → k.2.2.1 x = true → c.sec.dbg.state ∈ k.2.2.2 → c.sec.dbg.busy.isSome = true →
          Becomes (k.1 x) s (c.debugError 8))

/-- What the debug commands do (R428 to R430): attach and detach begin; halt freezes lane A; resume runs it; a register or a
word of memory is read into the data register, or written in the three cores alike; a breakpoint is set, cleared, and when
it is hit the lane halts. -/
def Obligations.DebugCommands : Prop :=
  (∀ (s : State) (x : DbgCmd), Live s →
    (DebugReady x 2 true [0] s.card → Becomes (.attach x) s { begun x s.card with sec.dbg.busy := some 1 })
    ∧ (DebugReady x 2 true [1, 2] s.card →
        let bps := (begun x s.card).sec.dbg.bps
        Becomes (.detach x) s { begun x s.card with sec.dbg.busy := some 2, sec.dbg.detachCause := 0 }
        ∧ Becomes (.bpSet x) s 
          { begun x s.card with sec.dbg.bps := bps.set (fun _ => none) (bpOf x) (some (x.arg.toNat / 16 % 4, x.addr)) }
        ∧ Becomes (.bpClr x) s { begun x s.card with sec.dbg.bps := bps.set (fun _ => none) (bpOf x) none })
    ∧ (DebugReady x 2 true [1] s.card → Becomes (.debugHalt x) s ((begun x s.card).freezeLane.haltLane 0 0))
    ∧ (DebugReady x 2 true [2] s.card → Becomes (.resume x) s { begun x s.card with sec.dbg.state := 1 }))
  ∧ (∀ (s : State) (x : DbgCmd), Live s →
      (DebugReady x 2 (regOk x) [2] s.card →
        let k := s.card.core 0 0
        Gives (.regRd x) s fun c' => c'.sec.dbg.error = 0 ∧ c'.core 0 0 = k
          ∧ (x.arg.toNat < 32 → c'.sec.dbg.data = k.get x.arg.toNat)
          ∧ (x.arg.toNat = 32 → c'.sec.dbg.data = k.pc)
          ∧ (32 < x.arg.toNat → c'.sec.dbg.data = k.csrGet (x.addr.toNat % 4096)))
      ∧ (DebugReady x 3 (regOk x) [2] s.card → x.arg.toNat = 32 →
          Gives (.regWr x) s fun c' => ∀ i < 3, c'.core 0 i = { s.card.core 0 i with pc := x.data })
      ∧ (DebugReady x 3 (regOk x) [2] s.card → x.arg.toNat < 32 →
          Gives (.regWr x) s fun c' => ∀ i < 3, c'.core 0 i = (s.card.core 0 i).set x.arg.toNat x.data)
      ∧ (DebugReady x 2 (memOk x) [2] s.card →
          let v := fromLe ((List.range 4).map fun i => (begun x s.card).laneByte (x.addr.toNat + i))
          Becomes (.memRd x) s { begun x s.card with sec.dbg.data := pN v })
      ∧ (DebugReady x 3 (memOk x) [2] s.card →
          Becomes (.memWr x) s (((begun x s.card).laneStore x.addr.toNat (le 4 x.data.toNat)).debugWrite x.addr x.data)))
  ∧ (∀ (s : State) (x : DbgCmd), Live s → DebugReady x 2 true [2] s.card →
      Gives (.step x) s fun c' => c'.sec.dbg.error = 0 ∧ ∀ i < 3, ∃ load : Nat → Nat → Nat,
        c'.core 0 i = ((s.card.core 0 i).step load).core)
  ∧ (∀ (s : State) (b kind : Nat) (a : BitVec 32), Live s → b < 8 → s.card.sec.dbg.state = 1 →
      s.card.sec.dbg.bps.get (fun _ => none) b = some (kind, a) →
      let c := s.card.freezeLane
      (kind = 0 → Becomes (.breakpointHit b) s
        ((c.each [0, 1, 2] fun c i => c.setCore 0 i { c.core 0 i with pc := a }).haltLane 1 b))
      ∧ (kind ≠ 0 → Becomes (.breakpointHit b) s (c.haltLane 1 b)))

/-- The ends of sessions, the TAP and authentication through J9 (R417 to R421, R425, R426). -/
def Obligations.SessionsAndTap : Prop := Sys2Proof.Claims.SessionEnds ∧ Sys2Proof.Claims.TapInstructions ∧ Sys2Proof.Claims.J9Authentication

end Security

namespace Sys2Proof.Claims

open Sys2Proof.Machine

/-- Host memory, the operations in flight and the rings are as they were. -/
def HostKept (c c' : Card) : Prop :=
  c'.hst.mem = c.hst.mem ∧ c'.hst.ops = c.hst.ops ∧ c'.hst.sqs = c.hst.sqs ∧ c'.hst.cqs = c.hst.cqs

/-- The counter clears, with the fields that each clears. -/
noncomputable def counterClears : List (Instr × List Fld) :=
  [(.pulseCnt, [TIM_PULSE_STAT.MISSED, TIM_PULSE_STAT.SPURIOUS]), (.ovrCnt, [⟨TIM_OVERRUN_CNT, 0, 32⟩]),
   (.tsqCnt, [TIM_TSQ_STAT.LOST, TIM_TRIG_STAT.LATE]),
   (.tilSatClrFrames, [⟨TIL_SAT_FRAMES_12, 0, 32⟩, ⟨TIL_SAT_FRAMES_34, 0, 32⟩]),
   (.chnCntClrErr 1, [⟨CHN_ERR_CNT 1, 0, 32⟩]), (.chnCntClrErr 2, [⟨CHN_ERR_CNT 2, 0, 32⟩]),
   (.chnCntClrErr 3, [⟨CHN_ERR_CNT 3, 0, 32⟩]), (.chnCntClrErr 4, [⟨CHN_ERR_CNT 4, 0, 32⟩]),
   (.tilCntClrTrap, [⟨TIL_TRAP_CNT, 0, 32⟩]), (.tilCntClrEcc, [⟨TIL_ECC_CNT, 0, 32⟩]),
   (.estCntClrLearn, strings.map fun n => ⟨EST_LEARN_CNT n, 0, 32⟩),
   (.impCntClrGate, [⟨IMP_GATE_CNT12, 0, 32⟩, ⟨IMP_GATE_CNT34, 0, 32⟩]),
   (.cnvCntClrReg, strings.map fun n => ⟨CNV_REG_CNT n, 0, 32⟩), (.dspCntClrOutcome, [⟨DSP_OUTCOME_CNT, 0, 32⟩]),
   (.safCntClrTest, [⟨SAF_TEST_CNT, 0, 32⟩]), (.safCntClrOpen, strings.map fun n => ⟨SAF_OPEN_CNT n, 0, 32⟩),
   (.hstCntClrDlq, [HST_DLQ_STAT.LOST]), (.hstCntClrRecur, [0, 1, 2, 3].map fun k => ⟨HST_RECUR k, 0, 32⟩),
   (.lanCntClrCnt, [⟨LAN_CNT, 0, 32⟩]),
   (.recCntClrDrop, ([0, 1, 2, 3].map fun j => ⟨REC_DROP j, 0, 32⟩) ++ [REC_MIRROR_STAT.DROP]),
   (.recCntClrSkip, [⟨REC_JNL_SKIP, 0, 32⟩]), (.fioCntClrCos, [FIO_COS_STAT.LOST]),
   (.canCntClrCnt 0, [⟨CAN_CNT 0, 0, 32⟩]), (.canCntClrCnt 1, [⟨CAN_CNT 1, 0, 32⟩]),
   (.secCntClrCnt, [⟨SEC_CNT, 0, 32⟩]), (.sysCntClrCnt, [⟨SYS_CNT, 0, 32⟩])]

/-- The word that a register holds after an accepted write (R5, R306, R423): RW bits as written unless the lock holds them,
W1C bits cleared where 1 is written unless the hardware sets them in the same cycle, and no other bit changed. -/
def wordAfter (c : Card) (r : RegClass) (off : Nat) (w same : Word) : Word :=
  let m : Word := if c.locked off = true then 0 else BitVec.ofNat 32 r.rw
  let k : Word := BitVec.ofNat 32 r.w1c
  ((((c.reg off) &&& ~~~m) ||| (w &&& m)) &&& ~~~(w &&& k)) ||| (same &&& k)

/-- A write of `w` with all byte enables meets none of the refusals of R304 and R305. -/
def WriteAccepted (c : Card) (r : RegClass) (off : Nat) (w : Word) : Prop :=
  Sys2Proof.Machine.classOf off = some r ∧ w &&& ~~~BitVec.ofNat 32 (r.rw ||| r.w1c ||| r.wo ||| r.ro) = 0
    ∧ (c.locked off = true ∨ (outOfRange r.base w = false ∧ c.crossBad off w = false))

end Sys2Proof.Claims

section Registers

open Sys2Proof Sys2Proof.Machine Sys2Proof.Claims

/-- The refusals of a register write, in their order (R304, R305, R423): an unassigned offset, missing byte enables, reserved
bits, a value that the block rejects; each sets its flag and changes no other register of the card's blocks. A write that
meets none of them is checked against the lock and applied. -/
def Obligations.RegisterWriteChecks : Prop :=
  ∀ (s : State) (off : Nat) (w : Word) (be : BitVec 4) (same : Word), Live s →
    (Sys2Proof.Machine.classOf off = none →
      Becomes (.registerWrite off w be same) s (s.card.stick HST_STICKY.UNMAPPED))
    ∧ ∀ r, Sys2Proof.Machine.classOf off = some r →
      (be ≠ 0xF → Becomes (.registerWrite off w be same) s (s.card.stick HST_STICKY.PARTIAL_WRITE))
      ∧ (w &&& ~~~BitVec.ofNat 32 (r.rw ||| r.w1c ||| r.wo ||| r.ro) ≠ 0 →
          Becomes (.registerWrite off w 0xF same) s
            (((s.card.stick HST_STICKY.RSVD_WRITE).setFld HST_RSVD_ADDR.OFFSET off).record 0xA010 [pN off, w]))
      ∧ (w &&& ~~~BitVec.ofNat 32 (r.rw ||| r.w1c ||| r.wo ||| r.ro) = 0 → s.card.locked off = false →
          outOfRange r.base w = true ∨ s.card.crossBad off w = true →
          Becomes (.registerWrite off w 0xF same) s (s.card.stick (rejectFlag off)))
      ∧ (WriteAccepted s.card r off w →
          Becomes (.registerWrite off w 0xF same) s ((s.card.lockCheck r off w).applyWrite r off w same))

/-- The word of a register after an accepted write, for every register of the blocks but those of the host interface, the
recorder and the sessions, the live registers, and the registers whose writes set more going. -/
def Sys2Proof.Claims.RegisterWriteValues : Prop :=
  ∀ (s : State) (r : RegClass) (off : Nat) (w same : Word), Live s → NoDeletes s.card →
    WriteAccepted s.card r off w → blockOf off ∉ [10, 12, 15] → off ∉ liveRegs →
    off ∉ [TIM_CTRL, CNV_SD_CFG, CAN_CTRL 0, CAN_CTRL 1, CAN_WIN_SEL, CAN_WIN_STAT, CHN_CTRL 1, CHN_CTRL 2, CHN_CTRL 3, CHN_CTRL 4] →
    Gives (.registerWrite off w 0xF same) s fun c' => c'.reg off = wordAfter s.card r off w same

/-- Rejected writes (R54, R108, R139, R173, R233, R301, R334, R365, R434): a write that would place a value marked "rejected"
into a field, and that the lock does not hold, leaves the whole register unchanged and sets REJECT, CFG_REJECT in the time
unit, in the sticky register of its block; and nothing else of the card changes. -/
def Obligations.RejectedWrites : Prop :=
  ∀ (s : State) (r : RegClass) (off : Nat) (w : Word), Live s → NoDeletes s.card →
    Sys2Proof.Machine.classOf off = some r → w &&& ~~~BitVec.ofNat 32 (r.rw ||| r.w1c ||| r.wo ||| r.ro) = 0 →
    s.card.locked off = false → outOfRange r.base w = true ∨ s.card.crossBad off w = true →
    Gives (.registerWrite off w 0xF 0) s fun c' => c'.bit (rejectFlag off) = true
      ∧ InsideKept s.card c' ∧ HostKept s.card c' ∧ c'.rcd = s.card.rcd
      ∧ ∀ o, o ∉ liveRegs → ¬(HST_EV_PEND 0 ≤ o ∧ o < HST_EV_PEND 16) → o ≠ (rejectFlag off).off →
          c'.reg o = s.card.reg o

/-- Recurrences (R306): where the hardware sets, in the cycle of the write, one bit `b` that the write clears, the bit reads
1, the recurrence is counted for the block and named in HST_RECUR_LAST, and the block's summary source fires; for a pending
bit its own source fires instead. -/
def Sys2Proof.Claims.Recurrences : Prop :=
  ∀ (s : State) (r : RegClass) (off b : Nat) (w : Word), Live s → NoDeletes s.card → WriteAccepted s.card r off w →
    off ≠ CAN_WIN_STAT → b < 32 → r.w1c.testBit b = true → w.getLsbD b = true →
    let k := blockOf off
    let f := HST_RECUR.COUNT (k / 4) (k % 4)
    Gives (.registerWrite off w 0xF (BitVec.ofNat 32 (2 ^ b))) s fun c' => (c'.reg off).getLsbD b = true
      ∧ c'.fld f = Min.min (s.card.fld f + 1) 255
      ∧ c'.fld HST_RECUR_LAST.OFFSET = off ∧ c'.fld HST_RECUR_LAST.BIT = b
      ∧ (¬(HST_EV_PEND 0 ≤ off ∧ off < HST_EV_PEND 16) →
          c'.bit ⟨HST_EV_PEND ((64 + k) / 32), (64 + k) % 32, 1⟩ = true)

/-- A write that the lock holds (R423): where it would change an RW field, LOCKED_WRITE is set and event 0xF013 names the
offset and the word. -/
def Sys2Proof.Claims.LockedWrites : Prop :=
  ∀ (s : State) (r : RegClass) (off : Nat) (w : Word), Live s → WriteAccepted s.card r off w → s.card.sec.unlock = none →
    blockOf off ≠ 10 → (s.card.reg off ^^^ w) &&& BitVec.ofNat 32 r.rw ≠ 0 →
    Becomes (.registerWrite off w 0xF 0) s
      ((((s.card.stick SEC_STICKY.LOCKED_WRITE).count SEC_CNT.LOCKED_WRITE).record 0xF013 [pN off, w]).applyWrite r off w 0)

/-- The rows that are writes of one register are that write (R29, R32, R104, R204, R257, R295, R296, R306, R379, R407), and
ADMIN_EN with both bases set activates the admin pair (R307). -/
def Sys2Proof.Claims.RegisterCommands : Prop :=
  (∀ (s : State) (v : Word), Live s →
    Becomes (.portPrefWrite v) s (s.card.put TIM_CTRL v) ∧ Becomes (.ptpEnWrite v) s (s.card.put TIM_CTRL v)
    ∧ Becomes (.intervalLenWrite v) s (s.card.put DSP_INTERVAL v)
    ∧ Becomes (.recJnlHeadWrite v) s (s.card.put REC_JNL_HEAD v)
    ∧ (∀ n, StringNo n → Becomes (.chnCtrlReset n v) s (s.card.put (CHN_CTRL n) (v ||| 8)))
    ∧ (∀ ch, ch < 36 → Becomes (.senseCfgWrite ch true v) s (s.card.put (CNV_SENSE_OFS ch) v)
        ∧ Becomes (.senseCfgWrite ch false v) s (s.card.put (CNV_SENSE_GAIN ch) v))
    ∧ (∀ k, k < 4 → Becomes (.aoRangeWrite k v) s (s.card.put (THM_AO_CFG k) v)
        ∧ Becomes (.aoSafeWrite k v) s (s.card.put (THM_AO_CFG k) v))
    ∧ (∀ n, n < 2 → Becomes (.canEnWrite n v) s (s.card.put (CAN_CTRL n) v))
    ∧ (∀ k same, k < 16 → Becomes (.hstEvPendClear k v same) s (s.card.busWrite (HST_EV_PEND k) v 0xF same)))
  ∧ (∀ s : State, Live s → NoDeletes s.card → s.card.hst.adminActive = false → s.card.bit HST_CTRL.ADMIN_EN = false →
      ¬(s.card.fld HST_ASQ_BASE_LO.ADDR_LO = 0 ∧ s.card.fld HST_ASQ_BASE_HI.ADDR_HI = 0) →
      ¬(s.card.fld HST_ACQ_BASE_LO.ADDR_LO = 0 ∧ s.card.fld HST_ACQ_BASE_HI.ADDR_HI = 0) →
      Gives .adminEn s fun c' => c'.hst.adminActive = true ∧ c'.bit HST_CTRL.ADMIN_EN = true ∧ (c'.sq 0).state = 1
        ∧ (c'.sq 0).prio = 0 ∧ (c'.sq 0).weight = 16 ∧ (c'.cq 0).present = true ∧ (c'.cq 0).phase = true)

/-- The counter clears (R34, R37, R40, R65, R74, R112, R120, R155, R181, R209, R246, R265, R278, R306, R330, R336, R370):
each counter that the command names becomes zero, and no other register changes. -/
def Sys2Proof.Claims.CounterClears : Prop :=
  ∀ x ∈ counterClears, ∀ s : State, Live s → NoDeletes s.card →
    Gives x.1 s fun c' => (∀ f ∈ x.2, c'.fld f = 0)
      ∧ ∀ off, off ∉ x.2.map (·.off) → off ∉ liveRegs → c'.reg off = s.card.reg off

/-- What an accepted write leaves in a register, what the lock holds, and recurrences (R5, R306, R423). -/
def Obligations.RegisterValues : Prop := Sys2Proof.Claims.RegisterWriteValues ∧ Sys2Proof.Claims.LockedWrites ∧ Sys2Proof.Claims.Recurrences

/-- The rows that write one register, and the counter clears. -/
def Obligations.RegisterCommandsAndClears : Prop := Sys2Proof.Claims.RegisterCommands ∧ Sys2Proof.Claims.CounterClears

end Registers

namespace Sys2Proof.Claims

open Sys2Proof.Machine

/-- Outside the blocks listed, and but for the live registers, every register is as it was. -/
def RegsKept (bs : List Nat) (c c' : Card) : Prop :=
  ∀ off, off ∉ liveRegs → off / 0x1000 ∉ bs → c'.reg off = c.reg off

/-- The blocks of cells, strings and power are as they were. -/
def StringsKept (c c' : Card) : Prop :=
  c'.chn = c.chn ∧ c'.est = c.est ∧ c'.imp = c.imp ∧ c'.cnv = c.cnv ∧ c'.saf = c.saf ∧ c'.dsp = c.dsp

/-- The events of card time, of P2 Ethernet and of the frame pulse, and the snapshots of time. -/
def timeEvent (i : Instr) : Bool :=
  match i with
  | .syncReceived .. | .announceReceived .. | .announceTimeout .. | .portLinkLoss .. | .holdoverLimitExpiry
  | .delayReqEgress .. | .delayRespReceived .. | .framePulseEdge .. | .pulseLost | .timNowSnapshot
  | .timFramePmSnapshot => true
  | _ => false

/-- The tile that an instruction's command names; `none` for every other command. -/
def tileOfInstr (i : Instr) : Option Nat :=
  match i with
  | .tileNop x | .halt x | .setb x | .addb x | .setl x | .loop x | .jmp x | .bany x | .bnone x | .wait x | .flagrd x
  | .flagclr x | .frmrd x | .laneid x | .mac x | .msu x | .mul x | .accld x | .accadd x | .narrow x | .add x | .sub x
  | .min x | .max x | .neg x | .abs x | .shl x | .shr x | .conv x | .mov x | .and x | .or x | .xor x | .sel x | .cmps x
  | .cmpu x | .cmpsa x | .cmpua x | .setp x | .lut x | .xchg x | .reduce x | .rdred x | .tileUndefinedOpcode x _ =>
    some x.tile
  | _ => none

/-- The commands of doorbells, vectors and the PCIe link. -/
def hostEvent (i : Instr) : Bool :=
  match i with
  | .sqTailDoorbell .. | .cqHeadDoorbell .. | .doorbellDiscarded .. | .busMasterEnable | .pcieLinkUp | .d3hotTransition ..
  | .hostReady | .msixMessage .. | .msixUnmask .. => true
  | _ => false

/-- The events of the field points and of the link to the field side. -/
def fieldEvent (i : Instr) : Bool :=
  match i with
  | .diSample .. | .wireBreak .. | .doFault .. | .doSupChange .. | .fieldLinkFrame .. | .fieldSideSilent | .safeState
  | .linkRestored | .fieldPowerLost | .fieldPowerUp | .aoRangeSequence .. => true
  | _ => false

/-- The events of the CAN controllers. -/
def canEvent (i : Instr) : Bool :=
  match i with
  | .canFrameReceived .. | .canFrameSent .. | .canSendTimeout .. | .canError .. | .canBusOffRecovery .. | .canSleepEntry ..
  | .canWake .. | .canIntegrationEnd .. | .canTsSnapshot => true
  | _ => false

/-- The TAP instructions and the debug commands. -/
def debugEvent (i : Instr) : Bool :=
  match i with
  | .extest .. | .idcode | .samplePreload .. | .bypass .. | .secChal .. | .secResp .. | .testLogicReset | .attach ..
  | .detach .. | .debugHalt .. | .resume .. | .step .. | .bpSet .. | .bpClr .. | .regRd .. | .regWr .. | .memRd ..
  | .memWr .. | .breakpointHit .. => true
  | _ => false

end Sys2Proof.Claims

section Frames

open Sys2Proof Sys2Proof.Machine Sys2Proof.Claims

/-- The frame of the time unit's events: they change the time unit and its registers, the recorder and the event sources,
and nothing else. -/
def Sys2Proof.Claims.TimeFrame : Prop :=
  ∀ (i : Instr) (s t : State), timeEvent i = true → NoDeletes s.card → exec i s = .next t →
    let c := s.card
    let c' := t.card
    StringsKept c c' ∧ HostKept c c' ∧ RegsKept [1, 10, 12] c c' ∧ c'.sys = c.sys ∧ c'.sec = c.sec ∧ c'.lan = c.lan
      ∧ c'.til = c.til ∧ c'.thm = c.thm ∧ c'.fio = c.fio ∧ c'.can = c.can

/-- The frame of the tile instructions: they change their own tile, the channels and counts of the array and its registers,
the recorder and the event sources; no other tile and nothing else of the card changes. -/
def Sys2Proof.Claims.TileFrame : Prop :=
  ∀ (i : Instr) (s t : State) (n : Nat), tileOfInstr i = some n → NoDeletes s.card → exec i s = .next t →
    let c := s.card
    let c' := t.card
    StringsKept c c' ∧ HostKept c c' ∧ RegsKept [3, 10, 12] c c' ∧ c'.sys = c.sys ∧ c'.tim = c.tim ∧ c'.sec = c.sec
      ∧ c'.lan = c.lan ∧ c'.thm = c.thm ∧ c'.fio = c.fio ∧ c'.can = c.can ∧ ∀ p, p ≠ c.phys n → c'.tile p = c.tile p

/-- The frame of the host's commands, of the field events, of CAN and of debug: each changes its own block and registers,
the host interface, the recorder, and what the list of its statement leaves out. -/
def Obligations.HostFieldDebugFrames : Prop :=
  (∀ (i : Instr) (s t : State), hostEvent i = true → exec i s = .next t →
    InsideKept s.card t.card ∧ RegsKept [10, 12] s.card t.card)
  ∧ (∀ (i : Instr) (s t : State), fieldEvent i = true → exec i s = .next t →
      StringsKept s.card t.card ∧ RegsKept [9, 10, 12, 13, 14] s.card t.card ∧ t.card.sys = s.card.sys
        ∧ t.card.tim = s.card.tim ∧ t.card.sec = s.card.sec ∧ t.card.lan = s.card.lan ∧ t.card.til = s.card.til)
  ∧ (∀ (i : Instr) (s t : State), canEvent i = true → exec i s = .next t →
      StringsKept s.card t.card ∧ RegsKept [10, 12, 14] s.card t.card ∧ t.card.sys = s.card.sys
        ∧ t.card.tim = s.card.tim ∧ t.card.sec = s.card.sec ∧ t.card.lan = s.card.lan ∧ t.card.til = s.card.til
        ∧ t.card.thm = s.card.thm ∧ t.card.fio = s.card.fio)
  ∧ (∀ (i : Instr) (s t : State), debugEvent i = true → exec i s = .next t →
      StringsKept s.card t.card ∧ RegsKept [10, 12, 15] s.card t.card ∧ t.card.sys = s.card.sys
        ∧ t.card.tim = s.card.tim ∧ t.card.til = s.card.til ∧ t.card.thm = s.card.thm ∧ t.card.fio = s.card.fio
        ∧ t.card.can = s.card.can)

/-- What the time unit's events and the tile instructions leave alone. -/
def Obligations.TimeAndTileFrames : Prop := Sys2Proof.Claims.TimeFrame ∧ Sys2Proof.Claims.TileFrame

end Frames
end

