-- ==== Sys2Proof/Laws/Store.lean ====
section
/-! SUPPORT. What reading and writing a store do, once and for all, and that writing keeps the canonical form. -/

namespace Sys2Proof.Machine

variable {β : Type}

@[simp] theorem Store.get_nil (d : Nat → β) (k : Nat) : Store.get [] d k = d k := rfl

theorem Store.get_drop_other (m : Store β) (d : Nat → β) {k k' : Nat} (h : k' ≠ k) :
    (m.drop k).get d k' = m.get d k' := by
  induction m with
  | nil => rfl
  | cons x r ih =>
    obtain ⟨a, v⟩ := x
    by_cases ha : a = k
    · subst ha
      simp [Store.drop, Store.get, ih, Ne.symm h]
    · simp [Store.drop, Store.get, ha, ih]

theorem Store.get_drop_same (m : Store β) (d : Nat → β) (k : Nat) : (m.drop k).get d k = d k := by
  induction m with
  | nil => rfl
  | cons x r ih =>
    obtain ⟨a, v⟩ := x
    by_cases ha : a = k <;> simp [Store.drop, Store.get, ha, ih]

theorem Store.get_place_other (m : Store β) (d : Nat → β) {k k' : Nat} (v : β) (h : k' ≠ k) :
    (m.place k v).get d k' = m.get d k' := by
  induction m with
  | nil => simp [Store.place, Store.get, Ne.symm h]
  | cons x r ih =>
    obtain ⟨a, u⟩ := x
    by_cases ha : k < a
    · simp [Store.place, Store.get, ha, Ne.symm h]
    · simp [Store.place, Store.get, ha, ih]

theorem Store.get_place_same (m : Store β) (d : Nat → β) (k : Nat) (v : β) (h : ∀ x ∈ m, x.1 ≠ k) :
    (m.place k v).get d k = v := by
  induction m with
  | nil => simp [Store.place, Store.get]
  | cons x r ih =>
    obtain ⟨a, u⟩ := x
    have hne : a ≠ k := h (a, u) (by simp)
    by_cases ha : k < a
    · simp [Store.place, Store.get, ha]
    · simp [Store.place, Store.get, ha, hne, ih (fun y hy => h y (by simp [hy]))]

theorem Store.drop_ne (m : Store β) (k : Nat) : ∀ x ∈ m.drop k, x.1 ≠ k := by
  induction m with
  | nil => simp [Store.drop]
  | cons x r ih =>
    obtain ⟨a, v⟩ := x
    by_cases ha : a = k
    · simpa [Store.drop, ha] using ih
    · intro y hy
      simp only [Store.drop, ha, if_false, List.mem_cons] at hy
      rcases hy with rfl | hy
      · exact ha
      · exact ih y hy

variable [DecidableEq β]

@[simp] theorem Store.get_set_same (m : Store β) (d : Nat → β) (k : Nat) (v : β) : (m.set d k v).get d k = v := by
  unfold Store.set
  split
  · rename_i h
    rw [Store.get_drop_same, h]
  · exact Store.get_place_same _ d k v (Store.drop_ne m k)

theorem Store.get_set_other (m : Store β) (d : Nat → β) {k k' : Nat} (v : β) (h : k' ≠ k) :
    (m.set d k v).get d k' = m.get d k' := by
  unfold Store.set
  split
  · exact Store.get_drop_other m d h
  · rw [Store.get_place_other _ d v h, Store.get_drop_other m d h]

/-! ### The canonical form -/

theorem Store.wfFrom_mono (m : Store β) (d : Nat → β) {lo lo' : Nat} (h : lo' ≤ lo) (hw : m.wfFrom d lo) :
    m.wfFrom d lo' := by
  cases m with
  | nil => rfl
  | cons x r =>
    obtain ⟨a, v⟩ := x
    simp only [Store.wfFrom, Bool.and_eq_true, decide_eq_true_eq] at hw ⊢
    exact ⟨⟨le_trans h hw.1.1, hw.1.2⟩, hw.2⟩

theorem Store.wfFrom_drop (m : Store β) (d : Nat → β) (k lo : Nat) (hw : m.wfFrom d lo) : (m.drop k).wfFrom d lo := by
  induction m generalizing lo with
  | nil => rfl
  | cons x r ih =>
    obtain ⟨a, v⟩ := x
    simp only [Store.wfFrom, Bool.and_eq_true, decide_eq_true_eq] at hw
    by_cases ha : a = k
    · simpa [Store.drop, ha] using Store.wfFrom_mono _ d (Nat.le_succ_of_le hw.1.1) (ih (a + 1) hw.2)
    · simp [Store.drop, ha, Store.wfFrom, hw.1.1, hw.1.2, ih (a + 1) hw.2]

theorem Store.wfFrom_place (m : Store β) (d : Nat → β) (k lo : Nat) (v : β) (hv : v ≠ d k) (hlo : lo ≤ k)
    (hne : ∀ x ∈ m, x.1 ≠ k) (hw : m.wfFrom d lo) : (m.place k v).wfFrom d lo := by
  induction m generalizing lo with
  | nil => simp [Store.place, Store.wfFrom, hlo, hv]
  | cons x r ih =>
    obtain ⟨a, u⟩ := x
    simp only [Store.wfFrom, Bool.and_eq_true, decide_eq_true_eq] at hw
    have hak : a ≠ k := hne (a, u) (by simp)
    by_cases ha : k < a
    · simp [Store.place, Store.wfFrom, ha, hlo, hv, hw.1.2, hw.2, Nat.succ_le_of_lt ha]
    · have hlt : a + 1 ≤ k := by omega
      have := ih (a + 1) hlt (fun y hy => hne y (by simp [hy])) hw.2
      simp [Store.place, Store.wfFrom, ha, hw.1.1, hw.1.2, this]

/-- Every write keeps the canonical form. -/
theorem Store.wf_set (m : Store β) (d : Nat → β) (k : Nat) (v : β) (hw : m.wf d) : (m.set d k v).wf d := by
  unfold Store.set
  split
  · exact Store.wfFrom_drop m d k 0 hw
  · rename_i h
    exact Store.wfFrom_place _ d k 0 v h (Nat.zero_le k) (Store.drop_ne m k) (Store.wfFrom_drop m d k 0 hw)

/-- Writing a list of values keeps the canonical form. -/
theorem Store.wf_setRange (m : Store β) (d : Nat → β) (k : Nat) (vs : List β) (hw : m.wf d) :
    (m.setRange d k vs).wf d := by
  induction vs generalizing m k with
  | nil => exact hw
  | cons v r ih => exact ih _ _ (Store.wf_set m d k v hw)

/-- Outside the range written every key reads as before. -/
theorem Store.get_setRange_other (m : Store β) (d : Nat → β) (k a : Nat) (vs : List β)
    (h : a < k ∨ k + vs.length ≤ a) : (m.setRange d k vs).get d a = m.get d a := by
  induction vs generalizing m k with
  | nil => rfl
  | cons v r ih =>
    simp only [List.length_cons] at h
    unfold Store.setRange
    rw [ih _ _ (by omega), Store.get_set_other m d v (by omega)]

end Sys2Proof.Machine
end

