-- ==== Sys2Proof/Laws/State.lean ====
section
/-! SUPPORT. One lemma per field of the card for each named update, so that no proof unfolds a record update. -/

namespace Sys2Proof.Machine

variable (c : Card)

@[simp] theorem Card.setReg_sys (off : Nat) (v : Word) : (c.setReg off v).sys = c.sys := rfl
@[simp] theorem Card.setReg_tim (off : Nat) (v : Word) : (c.setReg off v).tim = c.tim := rfl
@[simp] theorem Card.setReg_hst (off : Nat) (v : Word) : (c.setReg off v).hst = c.hst := rfl
@[simp] theorem Card.setReg_rcd (off : Nat) (v : Word) : (c.setReg off v).rcd = c.rcd := rfl
@[simp] theorem Card.setReg_sec (off : Nat) (v : Word) : (c.setReg off v).sec = c.sec := rfl
@[simp] theorem Card.setReg_lan (off : Nat) (v : Word) : (c.setReg off v).lan = c.lan := rfl
@[simp] theorem Card.setReg_chn (off : Nat) (v : Word) : (c.setReg off v).chn = c.chn := rfl
@[simp] theorem Card.setReg_til (off : Nat) (v : Word) : (c.setReg off v).til = c.til := rfl
@[simp] theorem Card.setReg_est (off : Nat) (v : Word) : (c.setReg off v).est = c.est := rfl
@[simp] theorem Card.setReg_imp (off : Nat) (v : Word) : (c.setReg off v).imp = c.imp := rfl
@[simp] theorem Card.setReg_cnv (off : Nat) (v : Word) : (c.setReg off v).cnv = c.cnv := rfl
@[simp] theorem Card.setReg_saf (off : Nat) (v : Word) : (c.setReg off v).saf = c.saf := rfl
@[simp] theorem Card.setReg_dsp (off : Nat) (v : Word) : (c.setReg off v).dsp = c.dsp := rfl
@[simp] theorem Card.setReg_thm (off : Nat) (v : Word) : (c.setReg off v).thm = c.thm := rfl
@[simp] theorem Card.setReg_fio (off : Nat) (v : Word) : (c.setReg off v).fio = c.fio := rfl
@[simp] theorem Card.setReg_can (off : Nat) (v : Word) : (c.setReg off v).can = c.can := rfl
@[simp] theorem Card.setReg_free (off : Nat) (v : Word) : (c.setReg off v).free = c.free := rfl

@[simp] theorem Card.setFld_sys (f : Fld) (v : Nat) : (c.setFld f v).sys = c.sys := rfl
@[simp] theorem Card.setFld_tim (f : Fld) (v : Nat) : (c.setFld f v).tim = c.tim := rfl
@[simp] theorem Card.setFld_hst (f : Fld) (v : Nat) : (c.setFld f v).hst = c.hst := rfl
@[simp] theorem Card.setFld_rcd (f : Fld) (v : Nat) : (c.setFld f v).rcd = c.rcd := rfl
@[simp] theorem Card.setFld_sec (f : Fld) (v : Nat) : (c.setFld f v).sec = c.sec := rfl
@[simp] theorem Card.setFld_lan (f : Fld) (v : Nat) : (c.setFld f v).lan = c.lan := rfl
@[simp] theorem Card.setFld_chn (f : Fld) (v : Nat) : (c.setFld f v).chn = c.chn := rfl
@[simp] theorem Card.setFld_til (f : Fld) (v : Nat) : (c.setFld f v).til = c.til := rfl
@[simp] theorem Card.setFld_est (f : Fld) (v : Nat) : (c.setFld f v).est = c.est := rfl
@[simp] theorem Card.setFld_imp (f : Fld) (v : Nat) : (c.setFld f v).imp = c.imp := rfl
@[simp] theorem Card.setFld_cnv (f : Fld) (v : Nat) : (c.setFld f v).cnv = c.cnv := rfl
@[simp] theorem Card.setFld_saf (f : Fld) (v : Nat) : (c.setFld f v).saf = c.saf := rfl
@[simp] theorem Card.setFld_dsp (f : Fld) (v : Nat) : (c.setFld f v).dsp = c.dsp := rfl
@[simp] theorem Card.setFld_thm (f : Fld) (v : Nat) : (c.setFld f v).thm = c.thm := rfl
@[simp] theorem Card.setFld_fio (f : Fld) (v : Nat) : (c.setFld f v).fio = c.fio := rfl
@[simp] theorem Card.setFld_can (f : Fld) (v : Nat) : (c.setFld f v).can = c.can := rfl
@[simp] theorem Card.setFld_free (f : Fld) (v : Nat) : (c.setFld f v).free = c.free := rfl

@[simp] theorem Card.setBit_sys (f : Fld) (b : Bool) : (c.setBit f b).sys = c.sys := rfl
@[simp] theorem Card.setBit_tim (f : Fld) (b : Bool) : (c.setBit f b).tim = c.tim := rfl
@[simp] theorem Card.setBit_hst (f : Fld) (b : Bool) : (c.setBit f b).hst = c.hst := rfl
@[simp] theorem Card.setBit_rcd (f : Fld) (b : Bool) : (c.setBit f b).rcd = c.rcd := rfl
@[simp] theorem Card.setBit_sec (f : Fld) (b : Bool) : (c.setBit f b).sec = c.sec := rfl
@[simp] theorem Card.setBit_lan (f : Fld) (b : Bool) : (c.setBit f b).lan = c.lan := rfl
@[simp] theorem Card.setBit_chn (f : Fld) (b : Bool) : (c.setBit f b).chn = c.chn := rfl
@[simp] theorem Card.setBit_til (f : Fld) (b : Bool) : (c.setBit f b).til = c.til := rfl
@[simp] theorem Card.setBit_est (f : Fld) (b : Bool) : (c.setBit f b).est = c.est := rfl
@[simp] theorem Card.setBit_imp (f : Fld) (b : Bool) : (c.setBit f b).imp = c.imp := rfl
@[simp] theorem Card.setBit_cnv (f : Fld) (b : Bool) : (c.setBit f b).cnv = c.cnv := rfl
@[simp] theorem Card.setBit_saf (f : Fld) (b : Bool) : (c.setBit f b).saf = c.saf := rfl
@[simp] theorem Card.setBit_dsp (f : Fld) (b : Bool) : (c.setBit f b).dsp = c.dsp := rfl
@[simp] theorem Card.setBit_thm (f : Fld) (b : Bool) : (c.setBit f b).thm = c.thm := rfl
@[simp] theorem Card.setBit_fio (f : Fld) (b : Bool) : (c.setBit f b).fio = c.fio := rfl
@[simp] theorem Card.setBit_can (f : Fld) (b : Bool) : (c.setBit f b).can = c.can := rfl
@[simp] theorem Card.setBit_free (f : Fld) (b : Bool) : (c.setBit f b).free = c.free := rfl

@[simp] theorem Card.setSfld_sys (f : Fld) (v : Int) : (c.setSfld f v).sys = c.sys := rfl
@[simp] theorem Card.setSfld_tim (f : Fld) (v : Int) : (c.setSfld f v).tim = c.tim := rfl
@[simp] theorem Card.setSfld_hst (f : Fld) (v : Int) : (c.setSfld f v).hst = c.hst := rfl
@[simp] theorem Card.setSfld_rcd (f : Fld) (v : Int) : (c.setSfld f v).rcd = c.rcd := rfl
@[simp] theorem Card.setSfld_sec (f : Fld) (v : Int) : (c.setSfld f v).sec = c.sec := rfl
@[simp] theorem Card.setSfld_lan (f : Fld) (v : Int) : (c.setSfld f v).lan = c.lan := rfl
@[simp] theorem Card.setSfld_chn (f : Fld) (v : Int) : (c.setSfld f v).chn = c.chn := rfl
@[simp] theorem Card.setSfld_til (f : Fld) (v : Int) : (c.setSfld f v).til = c.til := rfl
@[simp] theorem Card.setSfld_est (f : Fld) (v : Int) : (c.setSfld f v).est = c.est := rfl
@[simp] theorem Card.setSfld_imp (f : Fld) (v : Int) : (c.setSfld f v).imp = c.imp := rfl
@[simp] theorem Card.setSfld_cnv (f : Fld) (v : Int) : (c.setSfld f v).cnv = c.cnv := rfl
@[simp] theorem Card.setSfld_saf (f : Fld) (v : Int) : (c.setSfld f v).saf = c.saf := rfl
@[simp] theorem Card.setSfld_dsp (f : Fld) (v : Int) : (c.setSfld f v).dsp = c.dsp := rfl
@[simp] theorem Card.setSfld_thm (f : Fld) (v : Int) : (c.setSfld f v).thm = c.thm := rfl
@[simp] theorem Card.setSfld_fio (f : Fld) (v : Int) : (c.setSfld f v).fio = c.fio := rfl
@[simp] theorem Card.setSfld_can (f : Fld) (v : Int) : (c.setSfld f v).can = c.can := rfl
@[simp] theorem Card.setSfld_free (f : Fld) (v : Int) : (c.setSfld f v).free = c.free := rfl

@[simp] theorem Card.stick_sys (f : Fld) : (c.stick f).sys = c.sys := rfl
@[simp] theorem Card.stick_tim (f : Fld) : (c.stick f).tim = c.tim := rfl
@[simp] theorem Card.stick_hst (f : Fld) : (c.stick f).hst = c.hst := rfl
@[simp] theorem Card.stick_rcd (f : Fld) : (c.stick f).rcd = c.rcd := rfl
@[simp] theorem Card.stick_sec (f : Fld) : (c.stick f).sec = c.sec := rfl
@[simp] theorem Card.stick_lan (f : Fld) : (c.stick f).lan = c.lan := rfl
@[simp] theorem Card.stick_chn (f : Fld) : (c.stick f).chn = c.chn := rfl
@[simp] theorem Card.stick_til (f : Fld) : (c.stick f).til = c.til := rfl
@[simp] theorem Card.stick_est (f : Fld) : (c.stick f).est = c.est := rfl
@[simp] theorem Card.stick_imp (f : Fld) : (c.stick f).imp = c.imp := rfl
@[simp] theorem Card.stick_cnv (f : Fld) : (c.stick f).cnv = c.cnv := rfl
@[simp] theorem Card.stick_saf (f : Fld) : (c.stick f).saf = c.saf := rfl
@[simp] theorem Card.stick_dsp (f : Fld) : (c.stick f).dsp = c.dsp := rfl
@[simp] theorem Card.stick_thm (f : Fld) : (c.stick f).thm = c.thm := rfl
@[simp] theorem Card.stick_fio (f : Fld) : (c.stick f).fio = c.fio := rfl
@[simp] theorem Card.stick_can (f : Fld) : (c.stick f).can = c.can := rfl
@[simp] theorem Card.stick_free (f : Fld) : (c.stick f).free = c.free := rfl

@[simp] theorem Card.count_sys (f : Fld) (n : Nat) : (c.count f n).sys = c.sys := rfl
@[simp] theorem Card.count_tim (f : Fld) (n : Nat) : (c.count f n).tim = c.tim := rfl
@[simp] theorem Card.count_hst (f : Fld) (n : Nat) : (c.count f n).hst = c.hst := rfl
@[simp] theorem Card.count_rcd (f : Fld) (n : Nat) : (c.count f n).rcd = c.rcd := rfl
@[simp] theorem Card.count_sec (f : Fld) (n : Nat) : (c.count f n).sec = c.sec := rfl
@[simp] theorem Card.count_lan (f : Fld) (n : Nat) : (c.count f n).lan = c.lan := rfl
@[simp] theorem Card.count_chn (f : Fld) (n : Nat) : (c.count f n).chn = c.chn := rfl
@[simp] theorem Card.count_til (f : Fld) (n : Nat) : (c.count f n).til = c.til := rfl
@[simp] theorem Card.count_est (f : Fld) (n : Nat) : (c.count f n).est = c.est := rfl
@[simp] theorem Card.count_imp (f : Fld) (n : Nat) : (c.count f n).imp = c.imp := rfl
@[simp] theorem Card.count_cnv (f : Fld) (n : Nat) : (c.count f n).cnv = c.cnv := rfl
@[simp] theorem Card.count_saf (f : Fld) (n : Nat) : (c.count f n).saf = c.saf := rfl
@[simp] theorem Card.count_dsp (f : Fld) (n : Nat) : (c.count f n).dsp = c.dsp := rfl
@[simp] theorem Card.count_thm (f : Fld) (n : Nat) : (c.count f n).thm = c.thm := rfl
@[simp] theorem Card.count_fio (f : Fld) (n : Nat) : (c.count f n).fio = c.fio := rfl
@[simp] theorem Card.count_can (f : Fld) (n : Nat) : (c.count f n).can = c.can := rfl
@[simp] theorem Card.count_free (f : Fld) (n : Nat) : (c.count f n).free = c.free := rfl

@[simp] theorem Card.advance_sys (n : Nat) : (c.advance n).sys = c.sys := rfl
@[simp] theorem Card.advance_hst (n : Nat) : (c.advance n).hst = c.hst := rfl
@[simp] theorem Card.advance_rcd (n : Nat) : (c.advance n).rcd = c.rcd := rfl
@[simp] theorem Card.advance_sec (n : Nat) : (c.advance n).sec = c.sec := rfl
@[simp] theorem Card.advance_lan (n : Nat) : (c.advance n).lan = c.lan := rfl
@[simp] theorem Card.advance_chn (n : Nat) : (c.advance n).chn = c.chn := rfl
@[simp] theorem Card.advance_til (n : Nat) : (c.advance n).til = c.til := rfl
@[simp] theorem Card.advance_est (n : Nat) : (c.advance n).est = c.est := rfl
@[simp] theorem Card.advance_imp (n : Nat) : (c.advance n).imp = c.imp := rfl
@[simp] theorem Card.advance_cnv (n : Nat) : (c.advance n).cnv = c.cnv := rfl
@[simp] theorem Card.advance_saf (n : Nat) : (c.advance n).saf = c.saf := rfl
@[simp] theorem Card.advance_dsp (n : Nat) : (c.advance n).dsp = c.dsp := rfl
@[simp] theorem Card.advance_thm (n : Nat) : (c.advance n).thm = c.thm := rfl
@[simp] theorem Card.advance_fio (n : Nat) : (c.advance n).fio = c.fio := rfl
@[simp] theorem Card.advance_can (n : Nat) : (c.advance n).can = c.can := rfl
@[simp] theorem Card.advance_free (n : Nat) : (c.advance n).free = c.free := rfl
@[simp] theorem Card.advance_regs (n : Nat) : (c.advance n).regs = c.regs := rfl

@[simp] theorem Card.cycle_sys  : (c.cycle).sys = c.sys := rfl
@[simp] theorem Card.cycle_hst  : (c.cycle).hst = c.hst := rfl
@[simp] theorem Card.cycle_rcd  : (c.cycle).rcd = c.rcd := rfl
@[simp] theorem Card.cycle_sec  : (c.cycle).sec = c.sec := rfl
@[simp] theorem Card.cycle_lan  : (c.cycle).lan = c.lan := rfl
@[simp] theorem Card.cycle_chn  : (c.cycle).chn = c.chn := rfl
@[simp] theorem Card.cycle_til  : (c.cycle).til = c.til := rfl
@[simp] theorem Card.cycle_est  : (c.cycle).est = c.est := rfl
@[simp] theorem Card.cycle_imp  : (c.cycle).imp = c.imp := rfl
@[simp] theorem Card.cycle_cnv  : (c.cycle).cnv = c.cnv := rfl
@[simp] theorem Card.cycle_saf  : (c.cycle).saf = c.saf := rfl
@[simp] theorem Card.cycle_dsp  : (c.cycle).dsp = c.dsp := rfl
@[simp] theorem Card.cycle_thm  : (c.cycle).thm = c.thm := rfl
@[simp] theorem Card.cycle_fio  : (c.cycle).fio = c.fio := rfl
@[simp] theorem Card.cycle_can  : (c.cycle).can = c.can := rfl
@[simp] theorem Card.cycle_free  : (c.cycle).free = c.free := rfl
@[simp] theorem Card.cycle_regs  : (c.cycle).regs = c.regs := rfl

@[simp] theorem Card.setVec_sys (n : Nat) (x : Vec) : (c.setVec n x).sys = c.sys := rfl
@[simp] theorem Card.setVec_tim (n : Nat) (x : Vec) : (c.setVec n x).tim = c.tim := rfl
@[simp] theorem Card.setVec_rcd (n : Nat) (x : Vec) : (c.setVec n x).rcd = c.rcd := rfl
@[simp] theorem Card.setVec_sec (n : Nat) (x : Vec) : (c.setVec n x).sec = c.sec := rfl
@[simp] theorem Card.setVec_lan (n : Nat) (x : Vec) : (c.setVec n x).lan = c.lan := rfl
@[simp] theorem Card.setVec_chn (n : Nat) (x : Vec) : (c.setVec n x).chn = c.chn := rfl
@[simp] theorem Card.setVec_til (n : Nat) (x : Vec) : (c.setVec n x).til = c.til := rfl
@[simp] theorem Card.setVec_est (n : Nat) (x : Vec) : (c.setVec n x).est = c.est := rfl
@[simp] theorem Card.setVec_imp (n : Nat) (x : Vec) : (c.setVec n x).imp = c.imp := rfl
@[simp] theorem Card.setVec_cnv (n : Nat) (x : Vec) : (c.setVec n x).cnv = c.cnv := rfl
@[simp] theorem Card.setVec_saf (n : Nat) (x : Vec) : (c.setVec n x).saf = c.saf := rfl
@[simp] theorem Card.setVec_dsp (n : Nat) (x : Vec) : (c.setVec n x).dsp = c.dsp := rfl
@[simp] theorem Card.setVec_thm (n : Nat) (x : Vec) : (c.setVec n x).thm = c.thm := rfl
@[simp] theorem Card.setVec_fio (n : Nat) (x : Vec) : (c.setVec n x).fio = c.fio := rfl
@[simp] theorem Card.setVec_can (n : Nat) (x : Vec) : (c.setVec n x).can = c.can := rfl
@[simp] theorem Card.setVec_free (n : Nat) (x : Vec) : (c.setVec n x).free = c.free := rfl
@[simp] theorem Card.setVec_regs (n : Nat) (x : Vec) : (c.setVec n x).regs = c.regs := rfl

@[simp] theorem Card.setOp_sys (n : Nat) (x : Option Op) : (c.setOp n x).sys = c.sys := rfl
@[simp] theorem Card.setOp_tim (n : Nat) (x : Option Op) : (c.setOp n x).tim = c.tim := rfl
@[simp] theorem Card.setOp_rcd (n : Nat) (x : Option Op) : (c.setOp n x).rcd = c.rcd := rfl
@[simp] theorem Card.setOp_sec (n : Nat) (x : Option Op) : (c.setOp n x).sec = c.sec := rfl
@[simp] theorem Card.setOp_lan (n : Nat) (x : Option Op) : (c.setOp n x).lan = c.lan := rfl
@[simp] theorem Card.setOp_chn (n : Nat) (x : Option Op) : (c.setOp n x).chn = c.chn := rfl
@[simp] theorem Card.setOp_til (n : Nat) (x : Option Op) : (c.setOp n x).til = c.til := rfl
@[simp] theorem Card.setOp_est (n : Nat) (x : Option Op) : (c.setOp n x).est = c.est := rfl
@[simp] theorem Card.setOp_imp (n : Nat) (x : Option Op) : (c.setOp n x).imp = c.imp := rfl
@[simp] theorem Card.setOp_cnv (n : Nat) (x : Option Op) : (c.setOp n x).cnv = c.cnv := rfl
@[simp] theorem Card.setOp_saf (n : Nat) (x : Option Op) : (c.setOp n x).saf = c.saf := rfl
@[simp] theorem Card.setOp_dsp (n : Nat) (x : Option Op) : (c.setOp n x).dsp = c.dsp := rfl
@[simp] theorem Card.setOp_thm (n : Nat) (x : Option Op) : (c.setOp n x).thm = c.thm := rfl
@[simp] theorem Card.setOp_fio (n : Nat) (x : Option Op) : (c.setOp n x).fio = c.fio := rfl
@[simp] theorem Card.setOp_can (n : Nat) (x : Option Op) : (c.setOp n x).can = c.can := rfl
@[simp] theorem Card.setOp_free (n : Nat) (x : Option Op) : (c.setOp n x).free = c.free := rfl
@[simp] theorem Card.setOp_regs (n : Nat) (x : Option Op) : (c.setOp n x).regs = c.regs := rfl

@[simp] theorem Card.setSq_sys (n : Nat) (q : Sq) : (c.setSq n q).sys = c.sys := rfl
@[simp] theorem Card.setSq_tim (n : Nat) (q : Sq) : (c.setSq n q).tim = c.tim := rfl
@[simp] theorem Card.setSq_rcd (n : Nat) (q : Sq) : (c.setSq n q).rcd = c.rcd := rfl
@[simp] theorem Card.setSq_sec (n : Nat) (q : Sq) : (c.setSq n q).sec = c.sec := rfl
@[simp] theorem Card.setSq_lan (n : Nat) (q : Sq) : (c.setSq n q).lan = c.lan := rfl
@[simp] theorem Card.setSq_chn (n : Nat) (q : Sq) : (c.setSq n q).chn = c.chn := rfl
@[simp] theorem Card.setSq_til (n : Nat) (q : Sq) : (c.setSq n q).til = c.til := rfl
@[simp] theorem Card.setSq_est (n : Nat) (q : Sq) : (c.setSq n q).est = c.est := rfl
@[simp] theorem Card.setSq_imp (n : Nat) (q : Sq) : (c.setSq n q).imp = c.imp := rfl
@[simp] theorem Card.setSq_cnv (n : Nat) (q : Sq) : (c.setSq n q).cnv = c.cnv := rfl
@[simp] theorem Card.setSq_saf (n : Nat) (q : Sq) : (c.setSq n q).saf = c.saf := rfl
@[simp] theorem Card.setSq_dsp (n : Nat) (q : Sq) : (c.setSq n q).dsp = c.dsp := rfl
@[simp] theorem Card.setSq_thm (n : Nat) (q : Sq) : (c.setSq n q).thm = c.thm := rfl
@[simp] theorem Card.setSq_fio (n : Nat) (q : Sq) : (c.setSq n q).fio = c.fio := rfl
@[simp] theorem Card.setSq_can (n : Nat) (q : Sq) : (c.setSq n q).can = c.can := rfl
@[simp] theorem Card.setSq_free (n : Nat) (q : Sq) : (c.setSq n q).free = c.free := rfl
@[simp] theorem Card.setSq_regs (n : Nat) (q : Sq) : (c.setSq n q).regs = c.regs := rfl

@[simp] theorem Card.setCq_sys (n : Nat) (q : Cq) : (c.setCq n q).sys = c.sys := rfl
@[simp] theorem Card.setCq_tim (n : Nat) (q : Cq) : (c.setCq n q).tim = c.tim := rfl
@[simp] theorem Card.setCq_rcd (n : Nat) (q : Cq) : (c.setCq n q).rcd = c.rcd := rfl
@[simp] theorem Card.setCq_sec (n : Nat) (q : Cq) : (c.setCq n q).sec = c.sec := rfl
@[simp] theorem Card.setCq_lan (n : Nat) (q : Cq) : (c.setCq n q).lan = c.lan := rfl
@[simp] theorem Card.setCq_chn (n : Nat) (q : Cq) : (c.setCq n q).chn = c.chn := rfl
@[simp] theorem Card.setCq_til (n : Nat) (q : Cq) : (c.setCq n q).til = c.til := rfl
@[simp] theorem Card.setCq_est (n : Nat) (q : Cq) : (c.setCq n q).est = c.est := rfl
@[simp] theorem Card.setCq_imp (n : Nat) (q : Cq) : (c.setCq n q).imp = c.imp := rfl
@[simp] theorem Card.setCq_cnv (n : Nat) (q : Cq) : (c.setCq n q).cnv = c.cnv := rfl
@[simp] theorem Card.setCq_saf (n : Nat) (q : Cq) : (c.setCq n q).saf = c.saf := rfl
@[simp] theorem Card.setCq_dsp (n : Nat) (q : Cq) : (c.setCq n q).dsp = c.dsp := rfl
@[simp] theorem Card.setCq_thm (n : Nat) (q : Cq) : (c.setCq n q).thm = c.thm := rfl
@[simp] theorem Card.setCq_fio (n : Nat) (q : Cq) : (c.setCq n q).fio = c.fio := rfl
@[simp] theorem Card.setCq_can (n : Nat) (q : Cq) : (c.setCq n q).can = c.can := rfl
@[simp] theorem Card.setCq_free (n : Nat) (q : Cq) : (c.setCq n q).free = c.free := rfl
@[simp] theorem Card.setCq_regs (n : Nat) (q : Cq) : (c.setCq n q).regs = c.regs := rfl

@[simp] theorem Card.jrn_sys (t i : Nat) (b : List Byte) : (c.jrn t i b).sys = c.sys := rfl
@[simp] theorem Card.jrn_tim (t i : Nat) (b : List Byte) : (c.jrn t i b).tim = c.tim := rfl
@[simp] theorem Card.jrn_hst (t i : Nat) (b : List Byte) : (c.jrn t i b).hst = c.hst := rfl
@[simp] theorem Card.jrn_sec (t i : Nat) (b : List Byte) : (c.jrn t i b).sec = c.sec := rfl
@[simp] theorem Card.jrn_lan (t i : Nat) (b : List Byte) : (c.jrn t i b).lan = c.lan := rfl
@[simp] theorem Card.jrn_chn (t i : Nat) (b : List Byte) : (c.jrn t i b).chn = c.chn := rfl
@[simp] theorem Card.jrn_til (t i : Nat) (b : List Byte) : (c.jrn t i b).til = c.til := rfl
@[simp] theorem Card.jrn_est (t i : Nat) (b : List Byte) : (c.jrn t i b).est = c.est := rfl
@[simp] theorem Card.jrn_imp (t i : Nat) (b : List Byte) : (c.jrn t i b).imp = c.imp := rfl
@[simp] theorem Card.jrn_cnv (t i : Nat) (b : List Byte) : (c.jrn t i b).cnv = c.cnv := rfl
@[simp] theorem Card.jrn_saf (t i : Nat) (b : List Byte) : (c.jrn t i b).saf = c.saf := rfl
@[simp] theorem Card.jrn_dsp (t i : Nat) (b : List Byte) : (c.jrn t i b).dsp = c.dsp := rfl
@[simp] theorem Card.jrn_thm (t i : Nat) (b : List Byte) : (c.jrn t i b).thm = c.thm := rfl
@[simp] theorem Card.jrn_fio (t i : Nat) (b : List Byte) : (c.jrn t i b).fio = c.fio := rfl
@[simp] theorem Card.jrn_can (t i : Nat) (b : List Byte) : (c.jrn t i b).can = c.can := rfl
@[simp] theorem Card.jrn_free (t i : Nat) (b : List Byte) : (c.jrn t i b).free = c.free := rfl
@[simp] theorem Card.jrn_regs (t i : Nat) (b : List Byte) : (c.jrn t i b).regs = c.regs := rfl

@[simp] theorem Card.jrnTime_sys (k : Nat) (v : Int) : (c.jrnTime k v).sys = c.sys := rfl
@[simp] theorem Card.jrnTime_tim (k : Nat) (v : Int) : (c.jrnTime k v).tim = c.tim := rfl
@[simp] theorem Card.jrnTime_hst (k : Nat) (v : Int) : (c.jrnTime k v).hst = c.hst := rfl
@[simp] theorem Card.jrnTime_sec (k : Nat) (v : Int) : (c.jrnTime k v).sec = c.sec := rfl
@[simp] theorem Card.jrnTime_lan (k : Nat) (v : Int) : (c.jrnTime k v).lan = c.lan := rfl
@[simp] theorem Card.jrnTime_chn (k : Nat) (v : Int) : (c.jrnTime k v).chn = c.chn := rfl
@[simp] theorem Card.jrnTime_til (k : Nat) (v : Int) : (c.jrnTime k v).til = c.til := rfl
@[simp] theorem Card.jrnTime_est (k : Nat) (v : Int) : (c.jrnTime k v).est = c.est := rfl
@[simp] theorem Card.jrnTime_imp (k : Nat) (v : Int) : (c.jrnTime k v).imp = c.imp := rfl
@[simp] theorem Card.jrnTime_cnv (k : Nat) (v : Int) : (c.jrnTime k v).cnv = c.cnv := rfl
@[simp] theorem Card.jrnTime_saf (k : Nat) (v : Int) : (c.jrnTime k v).saf = c.saf := rfl
@[simp] theorem Card.jrnTime_dsp (k : Nat) (v : Int) : (c.jrnTime k v).dsp = c.dsp := rfl
@[simp] theorem Card.jrnTime_thm (k : Nat) (v : Int) : (c.jrnTime k v).thm = c.thm := rfl
@[simp] theorem Card.jrnTime_fio (k : Nat) (v : Int) : (c.jrnTime k v).fio = c.fio := rfl
@[simp] theorem Card.jrnTime_can (k : Nat) (v : Int) : (c.jrnTime k v).can = c.can := rfl
@[simp] theorem Card.jrnTime_free (k : Nat) (v : Int) : (c.jrnTime k v).free = c.free := rfl
@[simp] theorem Card.jrnTime_regs (k : Nat) (v : Int) : (c.jrnTime k v).regs = c.regs := rfl

@[simp] theorem Card.jrnFree_sys (t : Nat) : (c.jrnFree t).sys = c.sys := rfl
@[simp] theorem Card.jrnFree_tim (t : Nat) : (c.jrnFree t).tim = c.tim := rfl
@[simp] theorem Card.jrnFree_hst (t : Nat) : (c.jrnFree t).hst = c.hst := rfl
@[simp] theorem Card.jrnFree_sec (t : Nat) : (c.jrnFree t).sec = c.sec := rfl
@[simp] theorem Card.jrnFree_lan (t : Nat) : (c.jrnFree t).lan = c.lan := rfl
@[simp] theorem Card.jrnFree_chn (t : Nat) : (c.jrnFree t).chn = c.chn := rfl
@[simp] theorem Card.jrnFree_til (t : Nat) : (c.jrnFree t).til = c.til := rfl
@[simp] theorem Card.jrnFree_est (t : Nat) : (c.jrnFree t).est = c.est := rfl
@[simp] theorem Card.jrnFree_imp (t : Nat) : (c.jrnFree t).imp = c.imp := rfl
@[simp] theorem Card.jrnFree_cnv (t : Nat) : (c.jrnFree t).cnv = c.cnv := rfl
@[simp] theorem Card.jrnFree_saf (t : Nat) : (c.jrnFree t).saf = c.saf := rfl
@[simp] theorem Card.jrnFree_dsp (t : Nat) : (c.jrnFree t).dsp = c.dsp := rfl
@[simp] theorem Card.jrnFree_thm (t : Nat) : (c.jrnFree t).thm = c.thm := rfl
@[simp] theorem Card.jrnFree_fio (t : Nat) : (c.jrnFree t).fio = c.fio := rfl
@[simp] theorem Card.jrnFree_can (t : Nat) : (c.jrnFree t).can = c.can := rfl
@[simp] theorem Card.jrnFree_regs (t : Nat) : (c.jrnFree t).regs = c.regs := rfl

@[simp] theorem Card.jrnField_sys (n : Nat) (v : Int) (b : List Byte) : (c.jrnField n v b).sys = c.sys := rfl
@[simp] theorem Card.jrnField_tim (n : Nat) (v : Int) (b : List Byte) : (c.jrnField n v b).tim = c.tim := rfl
@[simp] theorem Card.jrnField_hst (n : Nat) (v : Int) (b : List Byte) : (c.jrnField n v b).hst = c.hst := rfl
@[simp] theorem Card.jrnField_sec (n : Nat) (v : Int) (b : List Byte) : (c.jrnField n v b).sec = c.sec := rfl
@[simp] theorem Card.jrnField_lan (n : Nat) (v : Int) (b : List Byte) : (c.jrnField n v b).lan = c.lan := rfl
@[simp] theorem Card.jrnField_chn (n : Nat) (v : Int) (b : List Byte) : (c.jrnField n v b).chn = c.chn := rfl
@[simp] theorem Card.jrnField_til (n : Nat) (v : Int) (b : List Byte) : (c.jrnField n v b).til = c.til := rfl
@[simp] theorem Card.jrnField_est (n : Nat) (v : Int) (b : List Byte) : (c.jrnField n v b).est = c.est := rfl
@[simp] theorem Card.jrnField_imp (n : Nat) (v : Int) (b : List Byte) : (c.jrnField n v b).imp = c.imp := rfl
@[simp] theorem Card.jrnField_cnv (n : Nat) (v : Int) (b : List Byte) : (c.jrnField n v b).cnv = c.cnv := rfl
@[simp] theorem Card.jrnField_saf (n : Nat) (v : Int) (b : List Byte) : (c.jrnField n v b).saf = c.saf := rfl
@[simp] theorem Card.jrnField_dsp (n : Nat) (v : Int) (b : List Byte) : (c.jrnField n v b).dsp = c.dsp := rfl
@[simp] theorem Card.jrnField_thm (n : Nat) (v : Int) (b : List Byte) : (c.jrnField n v b).thm = c.thm := rfl
@[simp] theorem Card.jrnField_fio (n : Nat) (v : Int) (b : List Byte) : (c.jrnField n v b).fio = c.fio := rfl
@[simp] theorem Card.jrnField_can (n : Nat) (v : Int) (b : List Byte) : (c.jrnField n v b).can = c.can := rfl
@[simp] theorem Card.jrnField_free (n : Nat) (v : Int) (b : List Byte) : (c.jrnField n v b).free = c.free := rfl
@[simp] theorem Card.jrnField_regs (n : Nat) (v : Int) (b : List Byte) : (c.jrnField n v b).regs = c.regs := rfl

@[simp] theorem Card.setKey_sys (n : Nat) (k : KeySlot) : (c.setKey n k).sys = c.sys := rfl
@[simp] theorem Card.setKey_tim (n : Nat) (k : KeySlot) : (c.setKey n k).tim = c.tim := rfl
@[simp] theorem Card.setKey_hst (n : Nat) (k : KeySlot) : (c.setKey n k).hst = c.hst := rfl
@[simp] theorem Card.setKey_rcd (n : Nat) (k : KeySlot) : (c.setKey n k).rcd = c.rcd := rfl
@[simp] theorem Card.setKey_lan (n : Nat) (k : KeySlot) : (c.setKey n k).lan = c.lan := rfl
@[simp] theorem Card.setKey_chn (n : Nat) (k : KeySlot) : (c.setKey n k).chn = c.chn := rfl
@[simp] theorem Card.setKey_til (n : Nat) (k : KeySlot) : (c.setKey n k).til = c.til := rfl
@[simp] theorem Card.setKey_est (n : Nat) (k : KeySlot) : (c.setKey n k).est = c.est := rfl
@[simp] theorem Card.setKey_imp (n : Nat) (k : KeySlot) : (c.setKey n k).imp = c.imp := rfl
@[simp] theorem Card.setKey_cnv (n : Nat) (k : KeySlot) : (c.setKey n k).cnv = c.cnv := rfl
@[simp] theorem Card.setKey_saf (n : Nat) (k : KeySlot) : (c.setKey n k).saf = c.saf := rfl
@[simp] theorem Card.setKey_dsp (n : Nat) (k : KeySlot) : (c.setKey n k).dsp = c.dsp := rfl
@[simp] theorem Card.setKey_thm (n : Nat) (k : KeySlot) : (c.setKey n k).thm = c.thm := rfl
@[simp] theorem Card.setKey_fio (n : Nat) (k : KeySlot) : (c.setKey n k).fio = c.fio := rfl
@[simp] theorem Card.setKey_can (n : Nat) (k : KeySlot) : (c.setKey n k).can = c.can := rfl
@[simp] theorem Card.setKey_free (n : Nat) (k : KeySlot) : (c.setKey n k).free = c.free := rfl
@[simp] theorem Card.setKey_regs (n : Nat) (k : KeySlot) : (c.setKey n k).regs = c.regs := rfl

end Sys2Proof.Machine
end

