-- ==== Sys2Proof/Laws/Fields.lean ====
section
/-! SUPPORT. Register fields: what reading a register and a field gives after a write of one. -/

namespace Sys2Proof.Machine

variable (c : Card)

/-! ### Fields of a word -/

theorem Fld.testBit_put (f : Fld) (w : Word) (v i : Nat) (hi : i < 32) :
    (f.put w v).toNat.testBit i =
      if f.lo ≤ i ∧ i < f.lo + f.w then v.testBit (i - f.lo) else w.toNat.testBit i := by
  have hi' : decide (i < 32) = true := by simpa using hi
  unfold Fld.put
  simp only [BitVec.toNat_or, BitVec.toNat_and, BitVec.toNat_not, BitVec.toNat_ofNat, Nat.testBit_or, Nat.testBit_and,
    Nat.testBit_mod_two_pow, Nat.testBit_mul_two_pow, hi', Bool.true_and]
  have hsub : (2 ^ 32 - 1 - (2 ^ f.w - 1) * 2 ^ f.lo % 2 ^ 32).testBit i
      = !((decide (f.lo ≤ i) && decide (i - f.lo < f.w))) := by
    have hlt : (2 ^ f.w - 1) * 2 ^ f.lo % 2 ^ 32 < 2 ^ 32 := Nat.mod_lt _ (by decide)
    have := Nat.testBit_two_pow_sub_succ hlt i
    have heq : 2 ^ 32 - 1 - (2 ^ f.w - 1) * 2 ^ f.lo % 2 ^ 32
        = 2 ^ 32 - ((2 ^ f.w - 1) * 2 ^ f.lo % 2 ^ 32 + 1) := by omega
    rw [heq, this]
    rw [Nat.testBit_mod_two_pow, Nat.testBit_mul_two_pow, Nat.testBit_two_pow_sub_one]
    simp [hi]
  rw [hsub]
  by_cases h1 : f.lo ≤ i
  · by_cases h2 : i < f.lo + f.w
    · have : i - f.lo < f.w := by omega
      simp [h1, h2, this]
    · have : ¬ i - f.lo < f.w := by omega
      simp [h1, h2, this]
  · simp [h1]

/-- The field written reads as the value written. -/
theorem Fld.of_put (f : Fld) (w : Word) (v : Nat) (h : f.lo + f.w ≤ 32) : f.of (f.put w v) = v % 2 ^ f.w := by
  apply Nat.eq_of_testBit_eq
  intro i
  unfold Fld.of
  rw [Nat.testBit_mod_two_pow, Nat.testBit_mod_two_pow, Nat.testBit_div_two_pow]
  by_cases hi : i < f.w
  · rw [Fld.testBit_put f w v _ (by omega)]
    simp [hi]
    intro h'
    omega
  · simp [hi]

/-- A field that shares no bit with the field written reads as before. -/
theorem Fld.of_put_other (f g : Fld) (w : Word) (v : Nat) (hg : g.lo + g.w ≤ 32)
    (h : g.lo + g.w ≤ f.lo ∨ f.lo + f.w ≤ g.lo) : g.of (f.put w v) = g.of w := by
  apply Nat.eq_of_testBit_eq
  intro i
  unfold Fld.of
  rw [Nat.testBit_mod_two_pow, Nat.testBit_mod_two_pow, Nat.testBit_div_two_pow, Nat.testBit_div_two_pow]
  by_cases hi : i < g.w
  · rw [Fld.testBit_put f w v _ (by omega)]
    have : ¬ (f.lo ≤ i + g.lo ∧ i + g.lo < f.lo + f.w) := by omega
    simp [hi, this]
  · simp [hi]

/-! ### Registers of the card -/

@[simp] theorem Card.reg_setReg_same (off : Nat) (v : Word) : (c.setReg off v).reg off = v := by
  simp [Card.reg, Card.setReg]

theorem Card.reg_setReg_other {off off' : Nat} (v : Word) (h : off' ≠ off) : (c.setReg off v).reg off' = c.reg off' := by
  simp [Card.reg, Card.setReg, Store.get_set_other _ _ _ h]

theorem Card.reg_setFld_other (f : Fld) (v : Nat) {off : Nat} (h : off ≠ f.off) : (c.setFld f v).reg off = c.reg off :=
  Card.reg_setReg_other c _ h

theorem Card.fld_setFld_same (f : Fld) (v : Nat) (h : f.lo + f.w ≤ 32) : (c.setFld f v).fld f = v % 2 ^ f.w := by
  simp [Card.fld, Card.setFld, Fld.of_put f _ v h]

theorem Card.fld_setFld_other (f g : Fld) (v : Nat) (h : g.off ≠ f.off) : (c.setFld f v).fld g = c.fld g := by
  simp [Card.fld, Card.reg_setFld_other c f v h]

theorem Card.fld_setFld_beside (f g : Fld) (v : Nat) (ho : g.off = f.off) (hg : g.lo + g.w ≤ 32)
    (h : g.lo + g.w ≤ f.lo ∨ f.lo + f.w ≤ g.lo) : (c.setFld f v).fld g = c.fld g := by
  simp [Card.fld, Card.setFld, ho, Fld.of_put_other f g _ v hg h]

theorem Card.fld_setReg_same (f : Fld) (v : Word) : (c.setReg f.off v).fld f = f.of v := by
  simp [Card.fld]

theorem Card.fld_setReg_other (f : Fld) {off : Nat} (v : Word) (h : f.off ≠ off) : (c.setReg off v).fld f = c.fld f := by
  simp [Card.fld, Card.reg_setReg_other c v h]

/-- A card with other contents and the same registers shows the same fields. -/
theorem Card.reg_of_regs {c c' : Card} (h : c'.regs = c.regs) (off : Nat) : c'.reg off = c.reg off := by
  simp [Card.reg, h]

theorem Card.fld_of_regs {c c' : Card} (h : c'.regs = c.regs) (f : Fld) : c'.fld f = c.fld f := by
  simp [Card.fld, Card.reg_of_regs h]

end Sys2Proof.Machine
end

