-- ==== Sys2Proof/Laws/Settle.lean ====
section
/-! SUPPORT. What the host side of the card can do: records, event sources, completions, and everything that follows a
command touch the host interface, the recorder and their registers, and nothing else. -/

namespace Sys2Proof.Machine

/-- Only the host interface, the recorder and the registers of blocks HST and REC may differ. -/
structure HostOnly (c c' : Card) : Prop where
  sys : c'.sys = c.sys
  tim : c'.tim = c.tim
  sec : c'.sec = c.sec
  lan : c'.lan = c.lan
  chn : c'.chn = c.chn
  til : c'.til = c.til
  est : c'.est = c.est
  imp : c'.imp = c.imp
  cnv : c'.cnv = c.cnv
  saf : c'.saf = c.saf
  dsp : c'.dsp = c.dsp
  thm : c'.thm = c.thm
  fio : c'.fio = c.fio
  can : c'.can = c.can
  free : c'.free = c.free
  reg : ∀ off, off / 0x1000 ≠ 10 → off / 0x1000 ≠ 12 → c'.reg off = c.reg off

theorem HostOnly.refl (c : Card) : HostOnly c c := by constructor <;> intros <;> rfl

theorem HostOnly.trans {a b c : Card} (h : HostOnly a b) (k : HostOnly b c) : HostOnly a c := by
  constructor
  case reg => intro off h1 h2; rw [k.reg off h1 h2, h.reg off h1 h2]
  · rw [k.sys, h.sys]
  · rw [k.tim, h.tim]
  · rw [k.sec, h.sec]
  · rw [k.lan, h.lan]
  · rw [k.chn, h.chn]
  · rw [k.til, h.til]
  · rw [k.est, h.est]
  · rw [k.imp, h.imp]
  · rw [k.cnv, h.cnv]
  · rw [k.saf, h.saf]
  · rw [k.dsp, h.dsp]
  · rw [k.thm, h.thm]
  · rw [k.fio, h.fio]
  · rw [k.can, h.can]
  · rw [k.free, h.free]

/-- A change of the host interface's and the recorder's own structures. -/
theorem HostOnly.inside (c : Card) (h : Hst) (r : Rec) : HostOnly c { c with hst := h, rcd := r } := by
  constructor <;> intros <;> rfl

/-- A write of a register of the block HST or REC. -/
theorem HostOnly.setReg (c : Card) {off : Nat} (v : Word) (h : off / 0x1000 = 10 ∨ off / 0x1000 = 12) :
    HostOnly c (c.setReg off v) := by
  constructor
  case reg => intro o h1 h2; exact Card.reg_setReg_other c v (by rintro rfl; omega)
  all_goals rfl

theorem HostOnly.setFld (c : Card) (f : Fld) (v : Nat) (h : f.off / 0x1000 = 10 ∨ f.off / 0x1000 = 12) :
    HostOnly c (c.setFld f v) := HostOnly.setReg c _ h

theorem HostOnly.foldl {α : Type} (l : List α) (f : Card → α → Card) (h : ∀ c x, HostOnly c (f c x)) (c : Card) :
    HostOnly c (l.foldl f c) := by
  induction l generalizing c with
  | nil => exact HostOnly.refl c
  | cons x r ih => exact (h c x).trans (ih _)

/-! ### Event sources -/

theorem hostOnly_setVec (c : Card) (v : Nat) (x : Vec) : HostOnly c (c.setVec v x) := HostOnly.inside c _ _

theorem hostOnly_fireVec (c : Card) (v : Nat) : HostOnly c (c.fireVec v) := by
  unfold Card.fireVec
  dsimp only
  split
  · exact hostOnly_setVec c _ _
  · split
    · exact hostOnly_setVec c _ _
    · exact hostOnly_setVec c _ _

theorem hostOnly_fire (c : Card) (n : Nat) : HostOnly c (c.fire n) := by
  unfold Card.fire
  split
  · exact HostOnly.refl c
  · rename_i h
    have h1 : HostOnly c (c.setFld ⟨HST_EV_PEND (n / 32), n % 32, 1⟩ 1) := by
      apply HostOnly.setFld
      left
      show (0xA080 + 0x4 * (n / 32)) / 0x1000 = 10
      omega
    dsimp only
    split
    · exact h1.trans (hostOnly_fireVec _ _)
    · exact h1

/-! ### Records -/

theorem hostOnly_countDrop (c : Card) (sev : Nat) : HostOnly c (c.countDrop sev) := by
  unfold Card.countDrop Card.count Card.stick
  dsimp only
  refine (HostOnly.setFld c _ _ ?_).trans ((HostOnly.setFld _ _ _ ?_).trans (HostOnly.inside _ _ _))
  · right
    split
    · show (0xC018 + 0x4 * (sev % 8 / 2)) / 0x1000 = 12
      omega
    · show (0xC018 + 0x4 * (sev % 8 / 2)) / 0x1000 = 12
      omega
  · right; decide

theorem hostOnly_recordAt (c : Card) (pm ev : Nat) (ps : List Word) : HostOnly c (c.recordAt pm ev ps) := by
  unfold Card.recordAt
  split
  · exact HostOnly.refl c
  · exact HostOnly.inside c _ _

theorem hostOnly_record (c : Card) (ev : Nat) (ps : List Word) : HostOnly c (c.record ev ps) :=
  hostOnly_recordAt c _ ev ps

theorem hostOnly_recordStr (c : Card) (s ev : Nat) (ps : List Word) : HostOnly c (c.recordStr s ev ps) := by
  unfold Card.recordStr
  dsimp only
  split
  · exact (hostOnly_record c ev ps).trans (hostOnly_fire _ _)
  · exact hostOnly_record c ev ps

theorem hostOnly_jrn (c : Card) (t i : Nat) (b : List Byte) : HostOnly c (c.jrn t i b) := HostOnly.inside c _ _

/-! ### Completions -/

theorem hostOnly_dma (c : Card) (a : Nat) (b : List Byte) : HostOnly c (c.dma a b) := by
  unfold Card.dma
  split
  · exact HostOnly.inside c _ _
  · exact HostOnly.refl c

theorem hostOnly_setOp (c : Card) (n : Nat) (o : Option Op) : HostOnly c (c.setOp n o) := HostOnly.inside c _ _

theorem hostOnly_setCq (c : Card) (n : Nat) (q : Cq) : HostOnly c (c.setCq n q) := HostOnly.inside c _ _

theorem hostOnly_setSq (c : Card) (n : Nat) (q : Sq) : HostOnly c (c.setSq n q) := HostOnly.inside c _ _

theorem hostOnly_freeSlot (c : Card) (o : Option Nat) : HostOnly c (c.freeSlot o) := by
  unfold Card.freeSlot
  split
  · exact hostOnly_setOp c _ _
  · exact HostOnly.refl c

theorem hostOnly_cqFull (c : Card) (n : Nat) : HostOnly c (c.cqFull n) :=
  (HostOnly.setFld c HST_STICKY.CQ_FULL 1 (Or.inl (by decide))).trans
    ((hostOnly_fire _ 87).trans (hostOnly_record _ _ _))

theorem hostOnly_post (c : Card) (p : Cpl) : HostOnly c (c.post p) := by
  unfold Card.post
  dsimp only
  have h := (hostOnly_dma c ((c.cq p.cq).base + 16 * (c.cq p.cq).tail)
    (p.bytes (c.cq p.cq).phase (c.sq p.sq).head)).trans
      ((hostOnly_setCq _ p.cq (c.cq p.cq).next).trans (hostOnly_freeSlot _ p.owner))
  have k := h.trans (hostOnly_fire _ p.cq)
  split <;> split
  · exact h.trans (hostOnly_cqFull _ _)
  · exact k.trans (hostOnly_cqFull _ _)
  · exact h
  · exact k

theorem hostOnly_orphan (c : Card) (p : Cpl) : HostOnly c (c.orphan p) := by
  unfold Card.orphan
  dsimp only
  refine HostOnly.trans ?_ ((HostOnly.inside _ _ _).trans ((hostOnly_freeSlot _ _).trans (hostOnly_fire _ _)))
  split
  · exact (HostOnly.inside c _ _).trans ((HostOnly.setFld _ HST_STICKY.ORPHAN_LOST 1 (Or.inl (by decide))).trans
      (hostOnly_record _ _ _))
  · exact HostOnly.refl c

theorem hostOnly_produce (c : Card) (p : Cpl) : HostOnly c (c.produce p) := by
  unfold Card.produce
  split
  · exact hostOnly_post c p
  · exact HostOnly.inside c _ _

theorem hostOnly_audit (c : Card) (o r : Nat) (id : BitVec 16) (s k : Nat) : HostOnly c (c.audit o r id s k) := by
  unfold Card.audit
  split
  · exact HostOnly.refl c
  · exact hostOnly_record c _ _

theorem hostOnly_complete (c : Card) (slot status reason : Nat) (r : Word) :
    HostOnly c (c.complete slot status reason r) := by
  unfold Card.complete
  split
  · exact HostOnly.refl c
  · split
    · exact HostOnly.refl c
    · dsimp only
      split
      · exact (hostOnly_audit c _ _ _ _ _).trans ((hostOnly_setOp _ _ _).trans (hostOnly_orphan _ _))
      · exact (hostOnly_audit c _ _ _ _ _).trans ((hostOnly_setOp _ _ _).trans (hostOnly_produce _ _))

theorem hostOnly_done (c : Card) (slot : Nat) (r : Word) : HostOnly c (c.done slot r) := hostOnly_complete c _ _ _ _

theorem hostOnly_modOp (c : Card) (slot : Nat) (f : Op → Op) : HostOnly c (c.modOp slot f) := by
  unfold Card.modOp
  split
  · exact hostOnly_setOp c _ _
  · exact HostOnly.refl c

theorem hostOnly_commit (c : Card) (slot : Nat) : HostOnly c (c.commit slot) := hostOnly_modOp c _ _

/-! ### What follows every command -/

theorem hostOnly_finishDeletes (c : Card) : HostOnly c c.finishDeletes := by
  unfold Card.finishDeletes
  apply HostOnly.foldl
  intro c x
  dsimp only
  split
  · exact (hostOnly_setSq c _ _).trans (HostOnly.foldl _ _ (fun c s => hostOnly_done c s _) _)
  · exact HostOnly.refl c

theorem hostOnly_takeHanded (c : Card) : HostOnly c c.takeHanded := by
  unfold Card.takeHanded Card.each
  dsimp only
  have h : ∀ d : Card, HostOnly d ({ d with rcd.handed := [] } : Card) := fun d => HostOnly.inside d _ _
  have k : ∀ (l : List Record) (d : Card), HostOnly d (l.foldl Card.intakeOne d) := fun l d =>
    HostOnly.foldl l _ (fun c r => by
      unfold Card.intakeOne
      split
      · exact hostOnly_countDrop c _
      · exact HostOnly.inside c _ _) d
  split
  · exact (h c).trans (k _ _)
  · exact (hostOnly_jrn c _ _ _).trans ((h _).trans (k _ _))

theorem hostOnly_fireSummaries (old c : Card) : HostOnly c (fireSummaries old c) := by
  unfold fireSummaries
  apply HostOnly.foldl
  intro c b
  split
  · exact hostOnly_fire _ _
  · exact HostOnly.refl c

/-- Showing live registers changes no other register. -/
theorem Card.reg_showLive_other (c : Card) {off : Nat} (h : off ∉ liveRegs) : c.showLive.reg off = c.reg off := by
  unfold Card.showLive
  suffices hs : ∀ (l : List Nat) (x : Card), off ∉ l →
      (l.foldl (fun x o => if x.reg o = c.live o then x else x.setReg o (c.live o)) x).reg off = x.reg off from
    hs liveRegs c h
  intro l
  induction l with
  | nil => intro x _; rfl
  | cons o r ih =>
    intro x hx
    rw [List.mem_cons, not_or] at hx
    simp only [List.foldl_cons]
    rw [ih _ hx.2]
    split
    · rfl
    · exact Card.reg_setReg_other x _ hx.1

/-- Showing live registers changes nothing but registers. -/
theorem Card.showLive_keeps {α : Type} (c : Card) (g : Card → α) (hg : ∀ x o v, g (Card.setReg x o v) = g x) :
    g c.showLive = g c := by
  unfold Card.showLive
  suffices hs : ∀ (l : List Nat) (x : Card),
      g (l.foldl (fun x o => if x.reg o = c.live o then x else x.setReg o (c.live o)) x) = g x from hs liveRegs c
  intro l
  induction l with
  | nil => intro x; rfl
  | cons o r ih =>
    intro x
    simp only [List.foldl_cons]
    rw [ih]
    split
    · rfl
    · exact hg x _ _

/-! ### `settle` in all -/

theorem hostOnly_beforeLive (old new : Card) : HostOnly new (fireSummaries old new.finishDeletes.takeHanded) :=
  (hostOnly_finishDeletes new).trans ((hostOnly_takeHanded _).trans (hostOnly_fireSummaries old _))

@[simp] theorem settle_sys (old new : Card) : (settle old new).sys = new.sys := by
  unfold settle
  rw [Card.showLive_keeps _ Card.sys (fun _ _ _ => rfl), (hostOnly_beforeLive old new).sys]

@[simp] theorem settle_tim (old new : Card) : (settle old new).tim = new.tim := by
  unfold settle
  rw [Card.showLive_keeps _ Card.tim (fun _ _ _ => rfl), (hostOnly_beforeLive old new).tim]

@[simp] theorem settle_sec (old new : Card) : (settle old new).sec = new.sec := by
  unfold settle
  rw [Card.showLive_keeps _ Card.sec (fun _ _ _ => rfl), (hostOnly_beforeLive old new).sec]

@[simp] theorem settle_lan (old new : Card) : (settle old new).lan = new.lan := by
  unfold settle
  rw [Card.showLive_keeps _ Card.lan (fun _ _ _ => rfl), (hostOnly_beforeLive old new).lan]

@[simp] theorem settle_chn (old new : Card) : (settle old new).chn = new.chn := by
  unfold settle
  rw [Card.showLive_keeps _ Card.chn (fun _ _ _ => rfl), (hostOnly_beforeLive old new).chn]

@[simp] theorem settle_til (old new : Card) : (settle old new).til = new.til := by
  unfold settle
  rw [Card.showLive_keeps _ Card.til (fun _ _ _ => rfl), (hostOnly_beforeLive old new).til]

@[simp] theorem settle_est (old new : Card) : (settle old new).est = new.est := by
  unfold settle
  rw [Card.showLive_keeps _ Card.est (fun _ _ _ => rfl), (hostOnly_beforeLive old new).est]

@[simp] theorem settle_imp (old new : Card) : (settle old new).imp = new.imp := by
  unfold settle
  rw [Card.showLive_keeps _ Card.imp (fun _ _ _ => rfl), (hostOnly_beforeLive old new).imp]

@[simp] theorem settle_cnv (old new : Card) : (settle old new).cnv = new.cnv := by
  unfold settle
  rw [Card.showLive_keeps _ Card.cnv (fun _ _ _ => rfl), (hostOnly_beforeLive old new).cnv]

@[simp] theorem settle_saf (old new : Card) : (settle old new).saf = new.saf := by
  unfold settle
  rw [Card.showLive_keeps _ Card.saf (fun _ _ _ => rfl), (hostOnly_beforeLive old new).saf]

@[simp] theorem settle_dsp (old new : Card) : (settle old new).dsp = new.dsp := by
  unfold settle
  rw [Card.showLive_keeps _ Card.dsp (fun _ _ _ => rfl), (hostOnly_beforeLive old new).dsp]

@[simp] theorem settle_thm (old new : Card) : (settle old new).thm = new.thm := by
  unfold settle
  rw [Card.showLive_keeps _ Card.thm (fun _ _ _ => rfl), (hostOnly_beforeLive old new).thm]

@[simp] theorem settle_fio (old new : Card) : (settle old new).fio = new.fio := by
  unfold settle
  rw [Card.showLive_keeps _ Card.fio (fun _ _ _ => rfl), (hostOnly_beforeLive old new).fio]

@[simp] theorem settle_can (old new : Card) : (settle old new).can = new.can := by
  unfold settle
  rw [Card.showLive_keeps _ Card.can (fun _ _ _ => rfl), (hostOnly_beforeLive old new).can]

@[simp] theorem settle_free (old new : Card) : (settle old new).free = new.free := by
  unfold settle
  rw [Card.showLive_keeps _ Card.free (fun _ _ _ => rfl), (hostOnly_beforeLive old new).free]

/-- A register outside HST, REC and the live registers is as the command left it. -/
theorem reg_settle (old new : Card) {off : Nat} (h1 : off / 0x1000 ≠ 10) (h2 : off / 0x1000 ≠ 12) (h : off ∉ liveRegs) :
    (settle old new).reg off = new.reg off := by
  unfold settle
  rw [Card.reg_showLive_other _ h, (hostOnly_beforeLive old new).reg off h1 h2]

/-- Live registers stand in the blocks TIM, HST, REC and SEC. -/
theorem live_blocks {off : Nat} (h : off ∈ liveRegs) :
    off / 0x1000 = 1 ∨ off / 0x1000 = 10 ∨ off / 0x1000 = 12 ∨ off / 0x1000 = 15 := by
  simp only [liveRegs, wordsFrom, List.mem_append, List.mem_cons, List.not_mem_nil, or_false, List.mem_map,
    List.mem_range] at h
  simp only [TIM_FRAME_LIVE, TIM_TSQ_STAT, TIM_TRIG_STAT, HST_STATUS, HST_TAGS, HST_DLQ_STAT, HST_EV_SUMMARY, REC_STATUS,
    REC_MIRROR_STAT, REC_SEQ_OLDEST, REC_BB_OLDEST, REC_LG_STAT, SEC_STATUS, SEC_DBG_STAT] at h
  rcases h with (((((h | h) | h) | h) | h) | h)
  · omega
  all_goals
    obtain ⟨k, hk, rfl⟩ := h
    omega

/-- Every register of the other twelve blocks is as the command left it. -/
theorem reg_settle_block (old new : Card) {off : Nat}
    (h : off / 0x1000 ≠ 1 ∧ off / 0x1000 ≠ 10 ∧ off / 0x1000 ≠ 12 ∧ off / 0x1000 ≠ 15) :
    (settle old new).reg off = new.reg off := by
  refine reg_settle old new h.2.1 h.2.2.1 (fun hl => ?_)
  rcases live_blocks hl with k | k | k | k
  · exact h.1 k
  · exact h.2.1 k
  · exact h.2.2.1 k
  · exact h.2.2.2 k

theorem fld_settle_block (old new : Card) (f : Fld)
    (h : f.off / 0x1000 ≠ 1 ∧ f.off / 0x1000 ≠ 10 ∧ f.off / 0x1000 ≠ 12 ∧ f.off / 0x1000 ≠ 15) :
    (settle old new).fld f = new.fld f := by
  simp [Card.fld, reg_settle_block old new h]

/-! ### A command's outcome -/

theorem State.on_powered (s : State) (f : Card → Card) (h : s.card.sys.powered = true) :
    s.on f = .next { s with card := settle s.card (f s.card) } := by
  simp [State.on, h]

theorem State.on_unpowered (s : State) (f : Card → Card) (h : s.card.sys.powered = false) : s.on f = .next s := by
  simp [State.on, h]

end Sys2Proof.Machine
end

