-- ==== Sys2Proof/Laws/Exec.lean ====
section
/-! SUPPORT. The two forms that every command has: an effect on a powered card, or on any card. -/

namespace Sys2Proof.Machine

/-- Every command is an effect on the card under `State.on`, or, for the power events, under `State.always`. -/
theorem exec_form (i : Instr) (s : State) :
    (powerEvent i = false ∧ ∃ f, exec i s = s.on f) ∨ (powerEvent i = true ∧ ∃ f, exec i s = s.always f) := by
  cases i
  case coldReset => exact Or.inr ⟨rfl, _, by change execColdReset _ _ s = _; unfold execColdReset; rfl⟩
  case cardSeated => exact Or.inr ⟨rfl, _, by change execCardSeated _ _ s = _; unfold execCardSeated; rfl⟩
  case bootCntClear => exact Or.inl ⟨rfl, _, by change execBootCntClear s = _; unfold execBootCntClear; rfl⟩
  case warmRestartComplete => exact Or.inl ⟨rfl, _, by change execWarmRestartComplete _ s = _; unfold execWarmRestartComplete; rfl⟩
  case hostReady => exact Or.inl ⟨rfl, _, by change execHostReady s = _; unfold execHostReady; rfl⟩
  case resetButton => exact Or.inl ⟨rfl, _, by change execResetButton s = _; unfold execResetButton; rfl⟩
  case feedLost => exact Or.inr ⟨rfl, _, by change execFeedLost _ _ _ s = _; unfold execFeedLost; rfl⟩
  case feedInRange => exact Or.inr ⟨rfl, _, by change execFeedInRange _ _ s = _; unfold execFeedInRange; rfl⟩
  case feedReturn => exact Or.inl ⟨rfl, _, by change execFeedReturn s = _; unfold execFeedReturn; rfl⟩
  case holdupSpent => exact Or.inl ⟨rfl, _, by change execHoldupSpent s = _; unfold execHoldupSpent; rfl⟩
  case ejectorLatchOpen => exact Or.inl ⟨rfl, _, by change execEjectorLatchOpen s = _; unfold execEjectorLatchOpen; rfl⟩
  case drainComplete => exact Or.inl ⟨rfl, _, by change execDrainComplete s = _; unfold execDrainComplete; rfl⟩
  case cardUnseated => exact Or.inl ⟨rfl, _, by change execCardUnseated s = _; unfold execCardUnseated; rfl⟩
  case syncReceived => exact Or.inl ⟨rfl, _, by change execSyncReceived _ _ s = _; unfold execSyncReceived; rfl⟩
  case announceReceived => exact Or.inl ⟨rfl, _, by change execAnnounceReceived _ _ s = _; unfold execAnnounceReceived; rfl⟩
  case announceTimeout => exact Or.inl ⟨rfl, _, by change execAnnounceTimeout _ s = _; unfold execAnnounceTimeout; rfl⟩
  case portLinkLoss => exact Or.inl ⟨rfl, _, by change execPortLinkLoss _ s = _; unfold execPortLinkLoss; rfl⟩
  case holdoverLimitExpiry => exact Or.inl ⟨rfl, _, by change execHoldoverLimitExpiry s = _; unfold execHoldoverLimitExpiry; rfl⟩
  case plantTimeStep => exact Or.inl ⟨rfl, _, by change execPlantTimeStep s = _; unfold execPlantTimeStep; rfl⟩
  case delayReqEgress => exact Or.inl ⟨rfl, _, by change execDelayReqEgress _ _ s = _; unfold execDelayReqEgress; rfl⟩
  case delayRespReceived => exact Or.inl ⟨rfl, _, by change execDelayRespReceived _ _ _ s = _; unfold execDelayRespReceived; rfl⟩
  case frameBoundary => exact Or.inl ⟨rfl, _, by change execFrameBoundary _ _ _ s = _; unfold execFrameBoundary; rfl⟩
  case slotBoundary => exact Or.inl ⟨rfl, _, by change execSlotBoundary _ s = _; unfold execSlotBoundary; rfl⟩
  case framePulseEdge => exact Or.inl ⟨rfl, _, by change execFramePulseEdge _ s = _; unfold execFramePulseEdge; rfl⟩
  case pulseLost => exact Or.inl ⟨rfl, _, by change execPulseLost s = _; unfold execPulseLost; rfl⟩
  case triggerFire => exact Or.inl ⟨rfl, _, by change execTriggerFire _ s = _; unfold execTriggerFire; rfl⟩
  case uploadSegment => exact Or.inl ⟨rfl, _, by change execUploadSegment _ _ _ _ s = _; unfold execUploadSegment; rfl⟩
  case chainLinkChange => exact Or.inl ⟨rfl, _, by change execChainLinkChange _ _ _ _ s = _; unfold execChainLinkChange; rfl⟩
  case census => exact Or.inl ⟨rfl, _, by change execCensus _ _ _ s = _; unfold execCensus; rfl⟩
  case satResponse => exact Or.inl ⟨rfl, _, by change execSatResponse _ _ _ s = _; unfold execSatResponse; rfl⟩
  case satRspTimeout => exact Or.inl ⟨rfl, _, by change execSatRspTimeout _ _ s = _; unfold execSatRspTimeout; rfl⟩
  case satelliteLost => exact Or.inl ⟨rfl, _, by change execSatelliteLost _ _ s = _; unfold execSatelliteLost; rfl⟩
  case chainControllerReset => exact Or.inl ⟨rfl, _, by change execChainControllerReset _ s = _; unfold execChainControllerReset; rfl⟩
  case chainReset => exact Or.inl ⟨rfl, _, by change execChainReset _ s = _; unfold execChainReset; rfl⟩
  case loopCodeChange => exact Or.inl ⟨rfl, _, by change execLoopCodeChange _ _ _ s = _; unfold execLoopCodeChange; rfl⟩
  case inputWindowFilled => exact Or.inl ⟨rfl, _, by change execInputWindowFilled s = _; unfold execInputWindowFilled; rfl⟩
  case tileNop => exact Or.inl ⟨rfl, _, by change execTileNop _ s = _; unfold execTileNop; rfl⟩
  case halt => exact Or.inl ⟨rfl, _, by change execHalt _ s = _; unfold execHalt; rfl⟩
  case setb => exact Or.inl ⟨rfl, _, by change execSetb _ s = _; unfold execSetb; rfl⟩
  case addb => exact Or.inl ⟨rfl, _, by change execAddb _ s = _; unfold execAddb; rfl⟩
  case setl => exact Or.inl ⟨rfl, _, by change execSetl _ s = _; unfold execSetl; rfl⟩
  case loop => exact Or.inl ⟨rfl, _, by change execLoop _ s = _; unfold execLoop; rfl⟩
  case jmp => exact Or.inl ⟨rfl, _, by change execJmp _ s = _; unfold execJmp; rfl⟩
  case bany => exact Or.inl ⟨rfl, _, by change execBany _ s = _; unfold execBany; rfl⟩
  case bnone => exact Or.inl ⟨rfl, _, by change execBnone _ s = _; unfold execBnone; rfl⟩
  case wait => exact Or.inl ⟨rfl, _, by change execWait _ s = _; unfold execWait; rfl⟩
  case flagrd => exact Or.inl ⟨rfl, _, by change execFlagrd _ s = _; unfold execFlagrd; rfl⟩
  case flagclr => exact Or.inl ⟨rfl, _, by change execFlagclr _ s = _; unfold execFlagclr; rfl⟩
  case frmrd => exact Or.inl ⟨rfl, _, by change execFrmrd _ s = _; unfold execFrmrd; rfl⟩
  case laneid => exact Or.inl ⟨rfl, _, by change execLaneid _ s = _; unfold execLaneid; rfl⟩
  case mac => exact Or.inl ⟨rfl, _, by change execMac _ s = _; unfold execMac; rfl⟩
  case msu => exact Or.inl ⟨rfl, _, by change execMsu _ s = _; unfold execMsu; rfl⟩
  case mul => exact Or.inl ⟨rfl, _, by change execMul _ s = _; unfold execMul; rfl⟩
  case accld => exact Or.inl ⟨rfl, _, by change execAccld _ s = _; unfold execAccld; rfl⟩
  case accadd => exact Or.inl ⟨rfl, _, by change execAccadd _ s = _; unfold execAccadd; rfl⟩
  case narrow => exact Or.inl ⟨rfl, _, by change execNarrow _ s = _; unfold execNarrow; rfl⟩
  case add => exact Or.inl ⟨rfl, _, by change execAdd _ s = _; unfold execAdd; rfl⟩
  case sub => exact Or.inl ⟨rfl, _, by change execSub _ s = _; unfold execSub; rfl⟩
  case neg => exact Or.inl ⟨rfl, _, by change execNeg _ s = _; unfold execNeg; rfl⟩
  case abs => exact Or.inl ⟨rfl, _, by change execAbs _ s = _; unfold execAbs; rfl⟩
  case min => exact Or.inl ⟨rfl, _, by change execMin _ s = _; unfold execMin; rfl⟩
  case max => exact Or.inl ⟨rfl, _, by change execMax _ s = _; unfold execMax; rfl⟩
  case shl => exact Or.inl ⟨rfl, _, by change execShl _ s = _; unfold execShl; rfl⟩
  case shr => exact Or.inl ⟨rfl, _, by change execShr _ s = _; unfold execShr; rfl⟩
  case conv => exact Or.inl ⟨rfl, _, by change execConv _ s = _; unfold execConv; rfl⟩
  case mov => exact Or.inl ⟨rfl, _, by change execMov _ s = _; unfold execMov; rfl⟩
  case and => exact Or.inl ⟨rfl, _, by change execAnd _ s = _; unfold execAnd; rfl⟩
  case or => exact Or.inl ⟨rfl, _, by change execOr _ s = _; unfold execOr; rfl⟩
  case xor => exact Or.inl ⟨rfl, _, by change execXor _ s = _; unfold execXor; rfl⟩
  case sel => exact Or.inl ⟨rfl, _, by change execSel _ s = _; unfold execSel; rfl⟩
  case cmps => exact Or.inl ⟨rfl, _, by change execCmps _ s = _; unfold execCmps; rfl⟩
  case cmpu => exact Or.inl ⟨rfl, _, by change execCmpu _ s = _; unfold execCmpu; rfl⟩
  case cmpsa => exact Or.inl ⟨rfl, _, by change execCmpsa _ s = _; unfold execCmpsa; rfl⟩
  case cmpua => exact Or.inl ⟨rfl, _, by change execCmpua _ s = _; unfold execCmpua; rfl⟩
  case setp => exact Or.inl ⟨rfl, _, by change execSetp _ s = _; unfold execSetp; rfl⟩
  case lut => exact Or.inl ⟨rfl, _, by change execLut _ s = _; unfold execLut; rfl⟩
  case xchg => exact Or.inl ⟨rfl, _, by change execXchg _ s = _; unfold execXchg; rfl⟩
  case xchgPartnerMet => exact Or.inl ⟨rfl, _, by change execXchgPartnerMet _ s = _; unfold execXchgPartnerMet; rfl⟩
  case reduce => exact Or.inl ⟨rfl, _, by change execReduce _ s = _; unfold execReduce; rfl⟩
  case rdred => exact Or.inl ⟨rfl, _, by change execRdred _ s = _; unfold execRdred; rfl⟩
  case reductionComplete => exact Or.inl ⟨rfl, _, by change execReductionComplete _ _ s = _; unfold execReductionComplete; rfl⟩
  case tileUndefinedOpcode => exact Or.inl ⟨rfl, _, by change execTileUndefinedOpcode _ _ s = _; unfold execTileUndefinedOpcode; rfl⟩
  case tileRetirement => exact Or.inl ⟨rfl, _, by change execTileRetirement _ s = _; unfold execTileRetirement; rfl⟩
  case limitsZero => exact Or.inl ⟨rfl, _, by change execLimitsZero _ s = _; unfold execLimitsZero; rfl⟩
  case laFallback => exact Or.inl ⟨rfl, _, by change execLaFallback _ s = _; unfold execLaFallback; rfl⟩
  case balancingPlan => exact Or.inl ⟨rfl, _, by change execBalancingPlan s = _; unfold execBalancingPlan; rfl⟩
  case learnedValueCommit => exact Or.inl ⟨rfl, _, by change execLearnedValueCommit _ _ s = _; unfold execLearnedValueCommit; rfl⟩
  case commitReadBack => exact Or.inl ⟨rfl, _, by change execCommitReadBack _ _ s = _; unfold execCommitReadBack; rfl⟩
  case statePage => exact Or.inl ⟨rfl, _, by change execStatePage s = _; unfold execStatePage; rfl⟩
  case planActivation => exact Or.inl ⟨rfl, _, by change execPlanActivation _ s = _; unfold execPlanActivation; rfl⟩
  case injectionRampUp => exact Or.inl ⟨rfl, _, by change execInjectionRampUp _ s = _; unfold execInjectionRampUp; rfl⟩
  case historyUpdate => exact Or.inl ⟨rfl, _, by change execHistoryUpdate s = _; unfold execHistoryUpdate; rfl⟩
  case impedancePage => exact Or.inl ⟨rfl, _, by change execImpedancePage s = _; unfold execImpedancePage; rfl⟩
  case fastSample => exact Or.inl ⟨rfl, _, by change execFastSample _ _ s = _; unfold execFastSample; rfl⟩
  case preciseSample => exact Or.inl ⟨rfl, _, by change execPreciseSample _ _ s = _; unfold execPreciseSample; rfl⟩
  case senseLost => exact Or.inl ⟨rfl, _, by change execSenseLost _ s = _; unfold execSenseLost; rfl⟩
  case startDelayElapsed => exact Or.inl ⟨rfl, _, by change execStartDelayElapsed _ s = _; unfold execStartDelayElapsed; rfl⟩
  case stopDelayElapsed => exact Or.inl ⟨rfl, _, by change execStopDelayElapsed _ s = _; unfold execStopDelayElapsed; rfl⟩
  case requestExpiry => exact Or.inl ⟨rfl, _, by change execRequestExpiry _ s = _; unfold execRequestExpiry; rfl⟩
  case deferExpiry => exact Or.inl ⟨rfl, _, by change execDeferExpiry _ s = _; unfold execDeferExpiry; rfl⟩
  case intervalClose => exact Or.inl ⟨rfl, _, by change execIntervalClose s = _; unfold execIntervalClose; rfl⟩
  case accountCommit => exact Or.inl ⟨rfl, _, by change execAccountCommit s = _; unfold execAccountCommit; rfl⟩
  case estopInputChange => exact Or.inl ⟨rfl, _, by change execEstopInputChange _ _ s = _; unfold execEstopInputChange; rfl⟩
  case discrepancy => exact Or.inl ⟨rfl, _, by change execDiscrepancy s = _; unfold execDiscrepancy; rfl⟩
  case fabricArmed => exact Or.inl ⟨rfl, _, by change execFabricArmed s = _; unfold execFabricArmed; rfl⟩
  case resetInChange => exact Or.inl ⟨rfl, _, by change execResetInChange _ s = _; unfold execResetInChange; rfl⟩
  case resetStuck => exact Or.inl ⟨rfl, _, by change execResetStuck s = _; unfold execResetStuck; rfl⟩
  case laneHealth => exact Or.inl ⟨rfl, _, by change execLaneHealth s = _; unfold execLaneHealth; rfl⟩
  case weldSenseSample => exact Or.inl ⟨rfl, _, by change execWeldSenseSample _ _ _ s = _; unfold execWeldSenseSample; rfl⟩
  case tCloseElapsed => exact Or.inl ⟨rfl, _, by change execTCloseElapsed _ s = _; unfold execTCloseElapsed; rfl⟩
  case prechargeTimeout => exact Or.inl ⟨rfl, _, by change execPrechargeTimeout _ s = _; unfold execPrechargeTimeout; rfl⟩
  case transferElapsed => exact Or.inl ⟨rfl, _, by change execTransferElapsed _ s = _; unfold execTransferElapsed; rfl⟩
  case transferOverlapLimit => exact Or.inl ⟨rfl, _, by change execTransferOverlapLimit _ s = _; unfold execTransferOverlapLimit; rfl⟩
  case openWaitElapsed => exact Or.inl ⟨rfl, _, by change execOpenWaitElapsed _ s = _; unfold execOpenWaitElapsed; rfl⟩
  case openDelayElapsed => exact Or.inl ⟨rfl, _, by change execOpenDelayElapsed _ s = _; unfold execOpenDelayElapsed; rfl⟩
  case weldCheck => exact Or.inl ⟨rfl, _, by change execWeldCheck _ _ _ s = _; unfold execWeldCheck; rfl⟩
  case driverTest => exact Or.inl ⟨rfl, _, by change execDriverTest _ _ _ s = _; unfold execDriverTest; rfl⟩
  case coilTestEnd => exact Or.inl ⟨rfl, _, by change execCoilTestEnd _ s = _; unfold execCoilTestEnd; rfl⟩
  case aoRangeSequence => exact Or.inl ⟨rfl, _, by change execAoRangeSequence _ s = _; unfold execAoRangeSequence; rfl⟩
  case descriptorFetch => exact Or.inl ⟨rfl, _, by change execDescriptorFetch s = _; unfold execDescriptorFetch; rfl⟩
  case undefinedOpcode => exact Or.inl ⟨rfl, _, by change execUndefinedOpcode _ _ s = _; unfold execUndefinedOpcode; rfl⟩
  case nop => exact Or.inl ⟨rfl, _, by change execNop _ s = _; unfold execNop; rfl⟩
  case hstSqCreate => exact Or.inl ⟨rfl, _, by change execHstSqCreate _ s = _; unfold execHstSqCreate; rfl⟩
  case hstCqCreate => exact Or.inl ⟨rfl, _, by change execHstCqCreate _ s = _; unfold execHstCqCreate; rfl⟩
  case hstSqDelete => exact Or.inl ⟨rfl, _, by change execHstSqDelete _ s = _; unfold execHstSqDelete; rfl⟩
  case hstCqDelete => exact Or.inl ⟨rfl, _, by change execHstCqDelete _ s = _; unfold execHstCqDelete; rfl⟩
  case hstAbort => exact Or.inl ⟨rfl, _, by change execHstAbort _ s = _; unfold execHstAbort; rfl⟩
  case hstSqRestart => exact Or.inl ⟨rfl, _, by change execHstSqRestart _ s = _; unfold execHstSqRestart; rfl⟩
  case hstOrphanRead => exact Or.inl ⟨rfl, _, by change execHstOrphanRead _ s = _; unfold execHstOrphanRead; rfl⟩
  case hstPlantRecv => exact Or.inl ⟨rfl, _, by change execHstPlantRecv _ s = _; unfold execHstPlantRecv; rfl⟩
  case hstPlantSend => exact Or.inl ⟨rfl, _, by change execHstPlantSend _ s = _; unfold execHstPlantSend; rfl⟩
  case hstDlqRead => exact Or.inl ⟨rfl, _, by change execHstDlqRead _ s = _; unfold execHstDlqRead; rfl⟩
  case sysDrain => exact Or.inl ⟨rfl, _, by change execSysDrain _ s = _; unfold execSysDrain; rfl⟩
  case sysWarmReset => exact Or.inl ⟨rfl, _, by change execSysWarmReset _ s = _; unfold execSysWarmReset; rfl⟩
  case chnAdmit => exact Or.inl ⟨rfl, _, by change execChnAdmit _ s = _; unfold execChnAdmit; rfl⟩
  case chnBalManual => exact Or.inl ⟨rfl, _, by change execChnBalManual _ s = _; unfold execChnBalManual; rfl⟩
  case chnBalTest => exact Or.inl ⟨rfl, _, by change execChnBalTest _ s = _; unfold execChnBalTest; rfl⟩
  case chnSatRead => exact Or.inl ⟨rfl, _, by change execChnSatRead _ s = _; unfold execChnSatRead; rfl⟩
  case chnSatWrite => exact Or.inl ⟨rfl, _, by change execChnSatWrite _ s = _; unfold execChnSatWrite; rfl⟩
  case chnReset => exact Or.inl ⟨rfl, _, by change execChnReset _ s = _; unfold execChnReset; rfl⟩
  case chnCensus => exact Or.inl ⟨rfl, _, by change execChnCensus _ s = _; unfold execChnCensus; rfl⟩
  case tilKernelLoad => exact Or.inl ⟨rfl, _, by change execTilKernelLoad _ s = _; unfold execTilKernelLoad; rfl⟩
  case tilKernelSwitch => exact Or.inl ⟨rfl, _, by change execTilKernelSwitch _ s = _; unfold execTilKernelSwitch; rfl⟩
  case tilTableLoad => exact Or.inl ⟨rfl, _, by change execTilTableLoad _ s = _; unfold execTilTableLoad; rfl⟩
  case tilMemRead => exact Or.inl ⟨rfl, _, by change execTilMemRead _ s = _; unfold execTilMemRead; rfl⟩
  case tilMemWrite => exact Or.inl ⟨rfl, _, by change execTilMemWrite _ s = _; unfold execTilMemWrite; rfl⟩
  case tilTest => exact Or.inl ⟨rfl, _, by change execTilTest _ s = _; unfold execTilTest; rfl⟩
  case tilRetire => exact Or.inl ⟨rfl, _, by change execTilRetire _ s = _; unfold execTilRetire; rfl⟩
  case tilUnretire => exact Or.inl ⟨rfl, _, by change execTilUnretire _ s = _; unfold execTilUnretire; rfl⟩
  case estLearnReset => exact Or.inl ⟨rfl, _, by change execEstLearnReset _ s = _; unfold execEstLearnReset; rfl⟩
  case estLearnWrite => exact Or.inl ⟨rfl, _, by change execEstLearnWrite _ s = _; unfold execEstLearnWrite; rfl⟩
  case estLearnRead => exact Or.inl ⟨rfl, _, by change execEstLearnRead _ s = _; unfold execEstLearnRead; rfl⟩
  case estCommit => exact Or.inl ⟨rfl, _, by change execEstCommit _ s = _; unfold execEstCommit; rfl⟩
  case estModelReinit => exact Or.inl ⟨rfl, _, by change execEstModelReinit _ s = _; unfold execEstModelReinit; rfl⟩
  case estSwapDeclare => exact Or.inl ⟨rfl, _, by change execEstSwapDeclare _ s = _; unfold execEstSwapDeclare; rfl⟩
  case impPlanLoad => exact Or.inl ⟨rfl, _, by change execImpPlanLoad _ s = _; unfold execImpPlanLoad; rfl⟩
  case impInjCtrl => exact Or.inl ⟨rfl, _, by change execImpInjCtrl _ s = _; unfold execImpInjCtrl; rfl⟩
  case impHistReset => exact Or.inl ⟨rfl, _, by change execImpHistReset _ s = _; unfold execImpHistReset; rfl⟩
  case impSpectrumRead => exact Or.inl ⟨rfl, _, by change execImpSpectrumRead _ s = _; unfold execImpSpectrumRead; rfl⟩
  case thmTempRead => exact Or.inl ⟨rfl, _, by change execThmTempRead _ s = _; unfold execThmTempRead; rfl⟩
  case thmAoSet => exact Or.inl ⟨rfl, _, by change execThmAoSet _ s = _; unfold execThmAoSet; rfl⟩
  case cnvStart => exact Or.inl ⟨rfl, _, by change execCnvStart _ s = _; unfold execCnvStart; rfl⟩
  case cnvStop => exact Or.inl ⟨rfl, _, by change execCnvStop _ s = _; unfold execCnvStop; rfl⟩
  case cnvMode => exact Or.inl ⟨rfl, _, by change execCnvMode _ s = _; unfold execCnvMode; rfl⟩
  case cnvSetpoint => exact Or.inl ⟨rfl, _, by change execCnvSetpoint _ s = _; unfold execCnvSetpoint; rfl⟩
  case cnvFfLoad => exact Or.inl ⟨rfl, _, by change execCnvFfLoad _ s = _; unfold execCnvFfLoad; rfl⟩
  case cnvCapture => exact Or.inl ⟨rfl, _, by change execCnvCapture _ s = _; unfold execCnvCapture; rfl⟩
  case dspRequest => exact Or.inl ⟨rfl, _, by change execDspRequest _ s = _; unfold execDspRequest; rfl⟩
  case dspCancel => exact Or.inl ⟨rfl, _, by change execDspCancel _ s = _; unfold execDspCancel; rfl⟩
  case dspReqRead => exact Or.inl ⟨rfl, _, by change execDspReqRead _ s = _; unfold execDspReqRead; rfl⟩
  case dspAcctRead => exact Or.inl ⟨rfl, _, by change execDspAcctRead _ s = _; unfold execDspAcctRead; rfl⟩
  case dspAcctPreset => exact Or.inl ⟨rfl, _, by change execDspAcctPreset _ s = _; unfold execDspAcctPreset; rfl⟩
  case safClose => exact Or.inl ⟨rfl, _, by change execSafClose _ s = _; unfold execSafClose; rfl⟩
  case safOpen => exact Or.inl ⟨rfl, _, by change execSafOpen _ s = _; unfold execSafOpen; rfl⟩
  case safTrip => exact Or.inl ⟨rfl, _, by change execSafTrip _ s = _; unfold execSafTrip; rfl⟩
  case safDriverTest => exact Or.inl ⟨rfl, _, by change execSafDriverTest _ s = _; unfold execSafDriverTest; rfl⟩
  case safCoilTest => exact Or.inl ⟨rfl, _, by change execSafCoilTest _ s = _; unfold execSafCoilTest; rfl⟩
  case safFaultClear => exact Or.inl ⟨rfl, _, by change execSafFaultClear _ s = _; unfold execSafFaultClear; rfl⟩
  case fioDoWrite => exact Or.inl ⟨rfl, _, by change execFioDoWrite _ s = _; unfold execFioDoWrite; rfl⟩
  case fioCosRead => exact Or.inl ⟨rfl, _, by change execFioCosRead _ s = _; unfold execFioCosRead; rfl⟩
  case canSend => exact Or.inl ⟨rfl, _, by change execCanSend _ s = _; unfold execCanSend; rfl⟩
  case canRead => exact Or.inl ⟨rfl, _, by change execCanRead _ s = _; unfold execCanRead; rfl⟩
  case canSleep => exact Or.inl ⟨rfl, _, by change execCanSleep _ s = _; unfold execCanSleep; rfl⟩
  case recRead => exact Or.inl ⟨rfl, _, by change execRecRead _ s = _; unfold execRecRead; rfl⟩
  case recBbRead => exact Or.inl ⟨rfl, _, by change execRecBbRead _ s = _; unfold execRecBbRead; rfl⟩
  case recOrigin => exact Or.inl ⟨rfl, _, by change execRecOrigin _ s = _; unfold execRecOrigin; rfl⟩
  case recReplayMode => exact Or.inl ⟨rfl, _, by change execRecReplayMode _ s = _; unfold execRecReplayMode; rfl⟩
  case recReplayLoad => exact Or.inl ⟨rfl, _, by change execRecReplayLoad _ s = _; unfold execRecReplayLoad; rfl⟩
  case recReplayFeed => exact Or.inl ⟨rfl, _, by change execRecReplayFeed _ s = _; unfold execRecReplayFeed; rfl⟩
  case lanStageBegin => exact Or.inl ⟨rfl, _, by change execLanStageBegin _ s = _; unfold execLanStageBegin; rfl⟩
  case lanParcel => exact Or.inl ⟨rfl, _, by change execLanParcel _ s = _; unfold execLanParcel; rfl⟩
  case lanStageQuery => exact Or.inl ⟨rfl, _, by change execLanStageQuery _ s = _; unfold execLanStageQuery; rfl⟩
  case lanUpdatePrepare => exact Or.inl ⟨rfl, _, by change execLanUpdatePrepare _ s = _; unfold execLanUpdatePrepare; rfl⟩
  case lanHandover => exact Or.inl ⟨rfl, _, by change execLanHandover _ s = _; unfold execLanHandover; rfl⟩
  case lanUpdateAbort => exact Or.inl ⟨rfl, _, by change execLanUpdateAbort _ s = _; unfold execLanUpdateAbort; rfl⟩
  case lanLaneReset => exact Or.inl ⟨rfl, _, by change execLanLaneReset _ s = _; unfold execLanLaneReset; rfl⟩
  case lanSatUpdate => exact Or.inl ⟨rfl, _, by change execLanSatUpdate _ s = _; unfold execLanSatUpdate; rfl⟩
  case lanCfgSave => exact Or.inl ⟨rfl, _, by change execLanCfgSave _ s = _; unfold execLanCfgSave; rfl⟩
  case lanCfgChoose => exact Or.inl ⟨rfl, _, by change execLanCfgChoose _ s = _; unfold execLanCfgChoose; rfl⟩
  case lanBootSplit => exact Or.inl ⟨rfl, _, by change execLanBootSplit _ s = _; unfold execLanBootSplit; rfl⟩
  case secChallenge => exact Or.inl ⟨rfl, _, by change execSecChallenge _ s = _; unfold execSecChallenge; rfl⟩
  case secRespond => exact Or.inl ⟨rfl, _, by change execSecRespond _ s = _; unfold execSecRespond; rfl⟩
  case secPassword => exact Or.inl ⟨rfl, _, by change execSecPassword _ s = _; unfold execSecPassword; rfl⟩
  case secClose => exact Or.inl ⟨rfl, _, by change execSecClose _ s = _; unfold execSecClose; rfl⟩
  case secUnlock => exact Or.inl ⟨rfl, _, by change execSecUnlock _ s = _; unfold execSecUnlock; rfl⟩
  case secList => exact Or.inl ⟨rfl, _, by change execSecList _ s = _; unfold execSecList; rfl⟩
  case secKeySet => exact Or.inl ⟨rfl, _, by change execSecKeySet _ s = _; unfold execSecKeySet; rfl⟩
  case secPasswordSet => exact Or.inl ⟨rfl, _, by change execSecPasswordSet _ s = _; unfold execSecPasswordSet; rfl⟩
  case sessionExpiry => exact Or.inl ⟨rfl, _, by change execSessionExpiry _ s = _; unfold execSessionExpiry; rfl⟩
  case slotBlockExpiry => exact Or.inl ⟨rfl, _, by change execSlotBlockExpiry _ s = _; unfold execSlotBlockExpiry; rfl⟩
  case sqTailDoorbell => exact Or.inl ⟨rfl, _, by change execSqTailDoorbell _ _ s = _; unfold execSqTailDoorbell; rfl⟩
  case cqHeadDoorbell => exact Or.inl ⟨rfl, _, by change execCqHeadDoorbell _ _ s = _; unfold execCqHeadDoorbell; rfl⟩
  case doorbellDiscarded => exact Or.inl ⟨rfl, _, by change execDoorbellDiscarded _ _ s = _; unfold execDoorbellDiscarded; rfl⟩
  case hostInterfaceReset => exact Or.inl ⟨rfl, _, by change execHostInterfaceReset _ s = _; unfold execHostInterfaceReset; rfl⟩
  case busMasterEnable => exact Or.inl ⟨rfl, _, by change execBusMasterEnable s = _; unfold execBusMasterEnable; rfl⟩
  case dmaReadError => exact Or.inl ⟨rfl, _, by change execDmaReadError _ _ s = _; unfold execDmaReadError; rfl⟩
  case msixMessage => exact Or.inl ⟨rfl, _, by change execMsixMessage _ s = _; unfold execMsixMessage; rfl⟩
  case msixUnmask => exact Or.inl ⟨rfl, _, by change execMsixUnmask _ s = _; unfold execMsixUnmask; rfl⟩
  case dispatchRequest => exact Or.inl ⟨rfl, _, by change execDispatchRequest _ s = _; unfold execDispatchRequest; rfl⟩
  case dispatchCancel => exact Or.inl ⟨rfl, _, by change execDispatchCancel _ s = _; unfold execDispatchCancel; rfl⟩
  case hostForward => exact Or.inl ⟨rfl, _, by change execHostForward _ s = _; unfold execHostForward; rfl⟩
  case plantMessageInvalid => exact Or.inl ⟨rfl, _, by change execPlantMessageInvalid _ _ s = _; unfold execPlantMessageInvalid; rfl⟩
  case networkParcel => exact Or.inl ⟨rfl, _, by change execNetworkParcel _ s = _; unfold execNetworkParcel; rfl⟩
  case coreDisagree => exact Or.inl ⟨rfl, _, by change execCoreDisagree _ _ _ s = _; unfold execCoreDisagree; rfl⟩
  case coreResync => exact Or.inl ⟨rfl, _, by change execCoreResync _ s = _; unfold execCoreResync; rfl⟩
  case laneTakeover => exact Or.inl ⟨rfl, _, by change execLaneTakeover s = _; unfold execLaneTakeover; rfl⟩
  case stateImport => exact Or.inl ⟨rfl, _, by change execStateImport _ _ s = _; unfold execStateImport; rfl⟩
  case contextSave => exact Or.inl ⟨rfl, _, by change execContextSave _ _ _ _ _ s = _; unfold execContextSave; rfl⟩
  case imageVerify => exact Or.inl ⟨rfl, _, by change execImageVerify s = _; unfold execImageVerify; rfl⟩
  case updShadowReady => exact Or.inl ⟨rfl, _, by change execUpdShadowReady s = _; unfold execUpdShadowReady; rfl⟩
  case satReset => exact Or.inl ⟨rfl, _, by change execSatReset _ s = _; unfold execSatReset; rfl⟩
  case recordStore => exact Or.inl ⟨rfl, _, by change execRecordStore _ s = _; unfold execRecordStore; rfl⟩
  case recordIntakeDrop => exact Or.inl ⟨rfl, _, by change execRecordIntakeDrop _ s = _; unfold execRecordIntakeDrop; rfl⟩
  case originStart => exact Or.inl ⟨rfl, _, by change execOriginStart _ s = _; unfold execOriginStart; rfl⟩
  case originComplete => exact Or.inl ⟨rfl, _, by change execOriginComplete _ s = _; unfold execOriginComplete; rfl⟩
  case diSample => exact Or.inl ⟨rfl, _, by change execDiSample _ s = _; unfold execDiSample; rfl⟩
  case wireBreak => exact Or.inl ⟨rfl, _, by change execWireBreak _ _ s = _; unfold execWireBreak; rfl⟩
  case doFault => exact Or.inl ⟨rfl, _, by change execDoFault _ _ s = _; unfold execDoFault; rfl⟩
  case doSupChange => exact Or.inl ⟨rfl, _, by change execDoSupChange _ _ s = _; unfold execDoSupChange; rfl⟩
  case fieldLinkFrame => exact Or.inl ⟨rfl, _, by change execFieldLinkFrame _ _ _ _ _ s = _; unfold execFieldLinkFrame; rfl⟩
  case fieldSideSilent => exact Or.inl ⟨rfl, _, by change execFieldSideSilent s = _; unfold execFieldSideSilent; rfl⟩
  case safeState => exact Or.inl ⟨rfl, _, by change execSafeState s = _; unfold execSafeState; rfl⟩
  case linkRestored => exact Or.inl ⟨rfl, _, by change execLinkRestored s = _; unfold execLinkRestored; rfl⟩
  case canFrameReceived => exact Or.inl ⟨rfl, _, by change execCanFrameReceived _ _ s = _; unfold execCanFrameReceived; rfl⟩
  case canFrameSent => exact Or.inl ⟨rfl, _, by change execCanFrameSent _ s = _; unfold execCanFrameSent; rfl⟩
  case canSendTimeout => exact Or.inl ⟨rfl, _, by change execCanSendTimeout _ _ s = _; unfold execCanSendTimeout; rfl⟩
  case canError => exact Or.inl ⟨rfl, _, by change execCanError _ _ _ s = _; unfold execCanError; rfl⟩
  case canBusOffRecovery => exact Or.inl ⟨rfl, _, by change execCanBusOffRecovery _ s = _; unfold execCanBusOffRecovery; rfl⟩
  case canSleepEntry => exact Or.inl ⟨rfl, _, by change execCanSleepEntry _ s = _; unfold execCanSleepEntry; rfl⟩
  case canWake => exact Or.inl ⟨rfl, _, by change execCanWake _ _ s = _; unfold execCanWake; rfl⟩
  case extest => exact Or.inl ⟨rfl, _, by change execExtest _ s = _; unfold execExtest; rfl⟩
  case idcode => exact Or.inl ⟨rfl, _, by change execIdcode s = _; unfold execIdcode; rfl⟩
  case samplePreload => exact Or.inl ⟨rfl, _, by change execSamplePreload _ s = _; unfold execSamplePreload; rfl⟩
  case secChal => exact Or.inl ⟨rfl, _, by change execSecChal _ s = _; unfold execSecChal; rfl⟩
  case secResp => exact Or.inl ⟨rfl, _, by change execSecResp _ s = _; unfold execSecResp; rfl⟩
  case bypass => exact Or.inl ⟨rfl, _, by change execBypass _ s = _; unfold execBypass; rfl⟩
  case testLogicReset => exact Or.inl ⟨rfl, _, by change execTestLogicReset s = _; unfold execTestLogicReset; rfl⟩
  case attach => exact Or.inl ⟨rfl, _, by change execAttach _ s = _; unfold execAttach; rfl⟩
  case detach => exact Or.inl ⟨rfl, _, by change execDetach _ s = _; unfold execDetach; rfl⟩
  case debugHalt => exact Or.inl ⟨rfl, _, by change execDebugHalt _ s = _; unfold execDebugHalt; rfl⟩
  case resume => exact Or.inl ⟨rfl, _, by change execResume _ s = _; unfold execResume; rfl⟩
  case step => exact Or.inl ⟨rfl, _, by change execStep _ s = _; unfold execStep; rfl⟩
  case bpSet => exact Or.inl ⟨rfl, _, by change execBpSet _ s = _; unfold execBpSet; rfl⟩
  case bpClr => exact Or.inl ⟨rfl, _, by change execBpClr _ s = _; unfold execBpClr; rfl⟩
  case regRd => exact Or.inl ⟨rfl, _, by change execRegRd _ s = _; unfold execRegRd; rfl⟩
  case regWr => exact Or.inl ⟨rfl, _, by change execRegWr _ s = _; unfold execRegWr; rfl⟩
  case memRd => exact Or.inl ⟨rfl, _, by change execMemRd _ s = _; unfold execMemRd; rfl⟩
  case memWr => exact Or.inl ⟨rfl, _, by change execMemWr _ s = _; unfold execMemWr; rfl⟩
  case breakpointHit => exact Or.inl ⟨rfl, _, by change execBreakpointHit _ s = _; unfold execBreakpointHit; rfl⟩
  case registerWrite => exact Or.inl ⟨rfl, _, by change execRegisterWrite _ _ _ _ s = _; unfold execRegisterWrite; rfl⟩
  case timNowSnapshot => exact Or.inl ⟨rfl, _, by change execTimNowSnapshot s = _; unfold execTimNowSnapshot; rfl⟩
  case timFramePmSnapshot => exact Or.inl ⟨rfl, _, by change execTimFramePmSnapshot s = _; unfold execTimFramePmSnapshot; rfl⟩
  case dspHwmSnapshot => exact Or.inl ⟨rfl, _, by change execDspHwmSnapshot s = _; unfold execDspHwmSnapshot; rfl⟩
  case dspAcctSnapshot => exact Or.inl ⟨rfl, _, by change execDspAcctSnapshot s = _; unfold execDspAcctSnapshot; rfl⟩
  case canTsSnapshot => exact Or.inl ⟨rfl, _, by change execCanTsSnapshot s = _; unfold execCanTsSnapshot; rfl⟩
  case adminEn => exact Or.inl ⟨rfl, _, by change execAdminEn s = _; unfold execAdminEn; rfl⟩
  case hstEvPendClear => exact Or.inl ⟨rfl, _, by change execHstEvPendClear _ _ _ s = _; unfold execHstEvPendClear; rfl⟩
  case portPrefWrite => exact Or.inl ⟨rfl, _, by change execPortPrefWrite _ s = _; unfold execPortPrefWrite; rfl⟩
  case ptpEnWrite => exact Or.inl ⟨rfl, _, by change execPtpEnWrite _ s = _; unfold execPtpEnWrite; rfl⟩
  case chnCtrlReset => exact Or.inl ⟨rfl, _, by change execChnCtrlReset _ _ s = _; unfold execChnCtrlReset; rfl⟩
  case senseCfgWrite => exact Or.inl ⟨rfl, _, by change execSenseCfgWrite _ _ _ s = _; unfold execSenseCfgWrite; rfl⟩
  case intervalLenWrite => exact Or.inl ⟨rfl, _, by change execIntervalLenWrite _ s = _; unfold execIntervalLenWrite; rfl⟩
  case aoRangeWrite => exact Or.inl ⟨rfl, _, by change execAoRangeWrite _ _ s = _; unfold execAoRangeWrite; rfl⟩
  case aoSafeWrite => exact Or.inl ⟨rfl, _, by change execAoSafeWrite _ _ s = _; unfold execAoSafeWrite; rfl⟩
  case canEnWrite => exact Or.inl ⟨rfl, _, by change execCanEnWrite _ _ s = _; unfold execCanEnWrite; rfl⟩
  case recJnlHeadWrite => exact Or.inl ⟨rfl, _, by change execRecJnlHeadWrite _ s = _; unfold execRecJnlHeadWrite; rfl⟩
  case pulseCnt => exact Or.inl ⟨rfl, _, by change execPulseCnt s = _; unfold execPulseCnt; rfl⟩
  case ovrCnt => exact Or.inl ⟨rfl, _, by change execOvrCnt s = _; unfold execOvrCnt; rfl⟩
  case tsqCnt => exact Or.inl ⟨rfl, _, by change execTsqCnt s = _; unfold execTsqCnt; rfl⟩
  case tilSatClrFrames => exact Or.inl ⟨rfl, _, by change execTilSatClrFrames s = _; unfold execTilSatClrFrames; rfl⟩
  case chnCntClrErr => exact Or.inl ⟨rfl, _, by change execChnCntClrErr _ s = _; unfold execChnCntClrErr; rfl⟩
  case tilCntClrTrap => exact Or.inl ⟨rfl, _, by change execTilCntClrTrap s = _; unfold execTilCntClrTrap; rfl⟩
  case tilCntClrEcc => exact Or.inl ⟨rfl, _, by change execTilCntClrEcc s = _; unfold execTilCntClrEcc; rfl⟩
  case estCntClrLearn => exact Or.inl ⟨rfl, _, by change execEstCntClrLearn s = _; unfold execEstCntClrLearn; rfl⟩
  case impCntClrGate => exact Or.inl ⟨rfl, _, by change execImpCntClrGate s = _; unfold execImpCntClrGate; rfl⟩
  case cnvCntClrReg => exact Or.inl ⟨rfl, _, by change execCnvCntClrReg s = _; unfold execCnvCntClrReg; rfl⟩
  case dspCntClrOutcome => exact Or.inl ⟨rfl, _, by change execDspCntClrOutcome s = _; unfold execDspCntClrOutcome; rfl⟩
  case safCntClrTest => exact Or.inl ⟨rfl, _, by change execSafCntClrTest s = _; unfold execSafCntClrTest; rfl⟩
  case safCntClrOpen => exact Or.inl ⟨rfl, _, by change execSafCntClrOpen s = _; unfold execSafCntClrOpen; rfl⟩
  case hstCntClrDlq => exact Or.inl ⟨rfl, _, by change execHstCntClrDlq s = _; unfold execHstCntClrDlq; rfl⟩
  case hstCntClrRecur => exact Or.inl ⟨rfl, _, by change execHstCntClrRecur s = _; unfold execHstCntClrRecur; rfl⟩
  case lanCntClrCnt => exact Or.inl ⟨rfl, _, by change execLanCntClrCnt s = _; unfold execLanCntClrCnt; rfl⟩
  case recCntClrDrop => exact Or.inl ⟨rfl, _, by change execRecCntClrDrop s = _; unfold execRecCntClrDrop; rfl⟩
  case recCntClrSkip => exact Or.inl ⟨rfl, _, by change execRecCntClrSkip s = _; unfold execRecCntClrSkip; rfl⟩
  case fioCntClrCos => exact Or.inl ⟨rfl, _, by change execFioCntClrCos s = _; unfold execFioCntClrCos; rfl⟩
  case canCntClrCnt => exact Or.inl ⟨rfl, _, by change execCanCntClrCnt _ s = _; unfold execCanCntClrCnt; rfl⟩
  case secCntClrCnt => exact Or.inl ⟨rfl, _, by change execSecCntClrCnt s = _; unfold execSecCntClrCnt; rfl⟩
  case sysCntClrCnt => exact Or.inl ⟨rfl, _, by change execSysCntClrCnt s = _; unfold execSysCntClrCnt; rfl⟩
  case ejectorLatchClose => exact Or.inl ⟨rfl, _, by change execEjectorLatchClose s = _; unfold execEjectorLatchClose; rfl⟩
  case probeTurnAround => exact Or.inl ⟨rfl, _, by change execProbeTurnAround _ _ _ _ s = _; unfold execProbeTurnAround; rfl⟩
  case holdPwmEdge => exact Or.inl ⟨rfl, _, by change execHoldPwmEdge _ _ _ s = _; unfold execHoldPwmEdge; rfl⟩
  case batchPauseEnd => exact Or.inl ⟨rfl, _, by change execBatchPauseEnd _ s = _; unfold execBatchPauseEnd; rfl⟩
  case fieldPowerLost => exact Or.inl ⟨rfl, _, by change execFieldPowerLost s = _; unfold execFieldPowerLost; rfl⟩
  case fieldPowerUp => exact Or.inl ⟨rfl, _, by change execFieldPowerUp s = _; unfold execFieldPowerUp; rfl⟩
  case canIntegrationEnd => exact Or.inl ⟨rfl, _, by change execCanIntegrationEnd _ s = _; unfold execCanIntegrationEnd; rfl⟩
  case pcieLinkUp => exact Or.inl ⟨rfl, _, by change execPcieLinkUp s = _; unfold execPcieLinkUp; rfl⟩
  case d3hotTransition => exact Or.inl ⟨rfl, _, by change execD3hotTransition _ s = _; unfold execD3hotTransition; rfl⟩

end Sys2Proof.Machine
end

