-- ==== Sys2Proof/Laws/Host.lean ====
section
/-! SUPPORT. What the host-side operations leave alone, one lemma per structure of the card, and the registers of the other
blocks. -/

namespace Sys2Proof.Machine

theorem hostOnly_doneWith (c : Card) (slot a : Nat) (b : List Byte) (r : Word) : HostOnly c (c.doneWith slot a b r) := by
  unfold Card.doneWith
  split
  · split
    · exact hostOnly_complete c _ _ _ _
    · exact (hostOnly_dma c a b).trans (hostOnly_done _ _ _)
  · exact HostOnly.refl c

theorem hostOnly_refuse (c : Card) (o : Nat) (d : Desc) (i s k : Nat) (r : Word) : HostOnly c (c.refuse o d i s k r) :=
  (hostOnly_audit c _ _ _ _ _).trans (hostOnly_produce _ _)

variable (c : Card)

@[simp] theorem Card.fire_sys (n : Nat) : (c.fire n).sys = c.sys := (hostOnly_fire c n).sys
@[simp] theorem Card.fire_tim (n : Nat) : (c.fire n).tim = c.tim := (hostOnly_fire c n).tim
@[simp] theorem Card.fire_sec (n : Nat) : (c.fire n).sec = c.sec := (hostOnly_fire c n).sec
@[simp] theorem Card.fire_lan (n : Nat) : (c.fire n).lan = c.lan := (hostOnly_fire c n).lan
@[simp] theorem Card.fire_chn (n : Nat) : (c.fire n).chn = c.chn := (hostOnly_fire c n).chn
@[simp] theorem Card.fire_til (n : Nat) : (c.fire n).til = c.til := (hostOnly_fire c n).til
@[simp] theorem Card.fire_est (n : Nat) : (c.fire n).est = c.est := (hostOnly_fire c n).est
@[simp] theorem Card.fire_imp (n : Nat) : (c.fire n).imp = c.imp := (hostOnly_fire c n).imp
@[simp] theorem Card.fire_cnv (n : Nat) : (c.fire n).cnv = c.cnv := (hostOnly_fire c n).cnv
@[simp] theorem Card.fire_saf (n : Nat) : (c.fire n).saf = c.saf := (hostOnly_fire c n).saf
@[simp] theorem Card.fire_dsp (n : Nat) : (c.fire n).dsp = c.dsp := (hostOnly_fire c n).dsp
@[simp] theorem Card.fire_thm (n : Nat) : (c.fire n).thm = c.thm := (hostOnly_fire c n).thm
@[simp] theorem Card.fire_fio (n : Nat) : (c.fire n).fio = c.fio := (hostOnly_fire c n).fio
@[simp] theorem Card.fire_can (n : Nat) : (c.fire n).can = c.can := (hostOnly_fire c n).can
@[simp] theorem Card.fire_free (n : Nat) : (c.fire n).free = c.free := (hostOnly_fire c n).free
theorem Card.reg_fire (n : Nat) {off : Nat} (h1 : off / 0x1000 ≠ 10) (h2 : off / 0x1000 ≠ 12) :
    (c.fire n).reg off = c.reg off := (hostOnly_fire c n).reg off h1 h2
theorem Card.fld_fire (n : Nat) (f : Fld) (h1 : f.off / 0x1000 ≠ 10) (h2 : f.off / 0x1000 ≠ 12) :
    (c.fire n).fld f = c.fld f := by simp [Card.fld, Card.reg_fire _ _ h1 h2]

@[simp] theorem Card.record_sys (ev : Nat) (ps : List Word) : (c.record ev ps).sys = c.sys := (hostOnly_record c ev ps).sys
@[simp] theorem Card.record_tim (ev : Nat) (ps : List Word) : (c.record ev ps).tim = c.tim := (hostOnly_record c ev ps).tim
@[simp] theorem Card.record_sec (ev : Nat) (ps : List Word) : (c.record ev ps).sec = c.sec := (hostOnly_record c ev ps).sec
@[simp] theorem Card.record_lan (ev : Nat) (ps : List Word) : (c.record ev ps).lan = c.lan := (hostOnly_record c ev ps).lan
@[simp] theorem Card.record_chn (ev : Nat) (ps : List Word) : (c.record ev ps).chn = c.chn := (hostOnly_record c ev ps).chn
@[simp] theorem Card.record_til (ev : Nat) (ps : List Word) : (c.record ev ps).til = c.til := (hostOnly_record c ev ps).til
@[simp] theorem Card.record_est (ev : Nat) (ps : List Word) : (c.record ev ps).est = c.est := (hostOnly_record c ev ps).est
@[simp] theorem Card.record_imp (ev : Nat) (ps : List Word) : (c.record ev ps).imp = c.imp := (hostOnly_record c ev ps).imp
@[simp] theorem Card.record_cnv (ev : Nat) (ps : List Word) : (c.record ev ps).cnv = c.cnv := (hostOnly_record c ev ps).cnv
@[simp] theorem Card.record_saf (ev : Nat) (ps : List Word) : (c.record ev ps).saf = c.saf := (hostOnly_record c ev ps).saf
@[simp] theorem Card.record_dsp (ev : Nat) (ps : List Word) : (c.record ev ps).dsp = c.dsp := (hostOnly_record c ev ps).dsp
@[simp] theorem Card.record_thm (ev : Nat) (ps : List Word) : (c.record ev ps).thm = c.thm := (hostOnly_record c ev ps).thm
@[simp] theorem Card.record_fio (ev : Nat) (ps : List Word) : (c.record ev ps).fio = c.fio := (hostOnly_record c ev ps).fio
@[simp] theorem Card.record_can (ev : Nat) (ps : List Word) : (c.record ev ps).can = c.can := (hostOnly_record c ev ps).can
@[simp] theorem Card.record_free (ev : Nat) (ps : List Word) : (c.record ev ps).free = c.free := (hostOnly_record c ev ps).free
theorem Card.reg_record (ev : Nat) (ps : List Word) {off : Nat} (h1 : off / 0x1000 ≠ 10) (h2 : off / 0x1000 ≠ 12) :
    (c.record ev ps).reg off = c.reg off := (hostOnly_record c ev ps).reg off h1 h2
theorem Card.fld_record (ev : Nat) (ps : List Word) (f : Fld) (h1 : f.off / 0x1000 ≠ 10) (h2 : f.off / 0x1000 ≠ 12) :
    (c.record ev ps).fld f = c.fld f := by simp [Card.fld, Card.reg_record _ _ _ h1 h2]

@[simp] theorem Card.recordAt_sys (pm ev : Nat) (ps : List Word) : (c.recordAt pm ev ps).sys = c.sys := (hostOnly_recordAt c pm ev ps).sys
@[simp] theorem Card.recordAt_tim (pm ev : Nat) (ps : List Word) : (c.recordAt pm ev ps).tim = c.tim := (hostOnly_recordAt c pm ev ps).tim
@[simp] theorem Card.recordAt_sec (pm ev : Nat) (ps : List Word) : (c.recordAt pm ev ps).sec = c.sec := (hostOnly_recordAt c pm ev ps).sec
@[simp] theorem Card.recordAt_lan (pm ev : Nat) (ps : List Word) : (c.recordAt pm ev ps).lan = c.lan := (hostOnly_recordAt c pm ev ps).lan
@[simp] theorem Card.recordAt_chn (pm ev : Nat) (ps : List Word) : (c.recordAt pm ev ps).chn = c.chn := (hostOnly_recordAt c pm ev ps).chn
@[simp] theorem Card.recordAt_til (pm ev : Nat) (ps : List Word) : (c.recordAt pm ev ps).til = c.til := (hostOnly_recordAt c pm ev ps).til
@[simp] theorem Card.recordAt_est (pm ev : Nat) (ps : List Word) : (c.recordAt pm ev ps).est = c.est := (hostOnly_recordAt c pm ev ps).est
@[simp] theorem Card.recordAt_imp (pm ev : Nat) (ps : List Word) : (c.recordAt pm ev ps).imp = c.imp := (hostOnly_recordAt c pm ev ps).imp
@[simp] theorem Card.recordAt_cnv (pm ev : Nat) (ps : List Word) : (c.recordAt pm ev ps).cnv = c.cnv := (hostOnly_recordAt c pm ev ps).cnv
@[simp] theorem Card.recordAt_saf (pm ev : Nat) (ps : List Word) : (c.recordAt pm ev ps).saf = c.saf := (hostOnly_recordAt c pm ev ps).saf
@[simp] theorem Card.recordAt_dsp (pm ev : Nat) (ps : List Word) : (c.recordAt pm ev ps).dsp = c.dsp := (hostOnly_recordAt c pm ev ps).dsp
@[simp] theorem Card.recordAt_thm (pm ev : Nat) (ps : List Word) : (c.recordAt pm ev ps).thm = c.thm := (hostOnly_recordAt c pm ev ps).thm
@[simp] theorem Card.recordAt_fio (pm ev : Nat) (ps : List Word) : (c.recordAt pm ev ps).fio = c.fio := (hostOnly_recordAt c pm ev ps).fio
@[simp] theorem Card.recordAt_can (pm ev : Nat) (ps : List Word) : (c.recordAt pm ev ps).can = c.can := (hostOnly_recordAt c pm ev ps).can
@[simp] theorem Card.recordAt_free (pm ev : Nat) (ps : List Word) : (c.recordAt pm ev ps).free = c.free := (hostOnly_recordAt c pm ev ps).free
theorem Card.reg_recordAt (pm ev : Nat) (ps : List Word) {off : Nat} (h1 : off / 0x1000 ≠ 10) (h2 : off / 0x1000 ≠ 12) :
    (c.recordAt pm ev ps).reg off = c.reg off := (hostOnly_recordAt c pm ev ps).reg off h1 h2
theorem Card.fld_recordAt (pm ev : Nat) (ps : List Word) (f : Fld) (h1 : f.off / 0x1000 ≠ 10) (h2 : f.off / 0x1000 ≠ 12) :
    (c.recordAt pm ev ps).fld f = c.fld f := by simp [Card.fld, Card.reg_recordAt _ _ _ _ h1 h2]

@[simp] theorem Card.recordStr_sys (s ev : Nat) (ps : List Word) : (c.recordStr s ev ps).sys = c.sys := (hostOnly_recordStr c s ev ps).sys
@[simp] theorem Card.recordStr_tim (s ev : Nat) (ps : List Word) : (c.recordStr s ev ps).tim = c.tim := (hostOnly_recordStr c s ev ps).tim
@[simp] theorem Card.recordStr_sec (s ev : Nat) (ps : List Word) : (c.recordStr s ev ps).sec = c.sec := (hostOnly_recordStr c s ev ps).sec
@[simp] theorem Card.recordStr_lan (s ev : Nat) (ps : List Word) : (c.recordStr s ev ps).lan = c.lan := (hostOnly_recordStr c s ev ps).lan
@[simp] theorem Card.recordStr_chn (s ev : Nat) (ps : List Word) : (c.recordStr s ev ps).chn = c.chn := (hostOnly_recordStr c s ev ps).chn
@[simp] theorem Card.recordStr_til (s ev : Nat) (ps : List Word) : (c.recordStr s ev ps).til = c.til := (hostOnly_recordStr c s ev ps).til
@[simp] theorem Card.recordStr_est (s ev : Nat) (ps : List Word) : (c.recordStr s ev ps).est = c.est := (hostOnly_recordStr c s ev ps).est
@[simp] theorem Card.recordStr_imp (s ev : Nat) (ps : List Word) : (c.recordStr s ev ps).imp = c.imp := (hostOnly_recordStr c s ev ps).imp
@[simp] theorem Card.recordStr_cnv (s ev : Nat) (ps : List Word) : (c.recordStr s ev ps).cnv = c.cnv := (hostOnly_recordStr c s ev ps).cnv
@[simp] theorem Card.recordStr_saf (s ev : Nat) (ps : List Word) : (c.recordStr s ev ps).saf = c.saf := (hostOnly_recordStr c s ev ps).saf
@[simp] theorem Card.recordStr_dsp (s ev : Nat) (ps : List Word) : (c.recordStr s ev ps).dsp = c.dsp := (hostOnly_recordStr c s ev ps).dsp
@[simp] theorem Card.recordStr_thm (s ev : Nat) (ps : List Word) : (c.recordStr s ev ps).thm = c.thm := (hostOnly_recordStr c s ev ps).thm
@[simp] theorem Card.recordStr_fio (s ev : Nat) (ps : List Word) : (c.recordStr s ev ps).fio = c.fio := (hostOnly_recordStr c s ev ps).fio
@[simp] theorem Card.recordStr_can (s ev : Nat) (ps : List Word) : (c.recordStr s ev ps).can = c.can := (hostOnly_recordStr c s ev ps).can
@[simp] theorem Card.recordStr_free (s ev : Nat) (ps : List Word) : (c.recordStr s ev ps).free = c.free := (hostOnly_recordStr c s ev ps).free
theorem Card.reg_recordStr (s ev : Nat) (ps : List Word) {off : Nat} (h1 : off / 0x1000 ≠ 10) (h2 : off / 0x1000 ≠ 12) :
    (c.recordStr s ev ps).reg off = c.reg off := (hostOnly_recordStr c s ev ps).reg off h1 h2
theorem Card.fld_recordStr (s ev : Nat) (ps : List Word) (f : Fld) (h1 : f.off / 0x1000 ≠ 10) (h2 : f.off / 0x1000 ≠ 12) :
    (c.recordStr s ev ps).fld f = c.fld f := by simp [Card.fld, Card.reg_recordStr _ _ _ _ h1 h2]

@[simp] theorem Card.countDrop_sys (n : Nat) : (c.countDrop n).sys = c.sys := (hostOnly_countDrop c n).sys
@[simp] theorem Card.countDrop_tim (n : Nat) : (c.countDrop n).tim = c.tim := (hostOnly_countDrop c n).tim
@[simp] theorem Card.countDrop_sec (n : Nat) : (c.countDrop n).sec = c.sec := (hostOnly_countDrop c n).sec
@[simp] theorem Card.countDrop_lan (n : Nat) : (c.countDrop n).lan = c.lan := (hostOnly_countDrop c n).lan
@[simp] theorem Card.countDrop_chn (n : Nat) : (c.countDrop n).chn = c.chn := (hostOnly_countDrop c n).chn
@[simp] theorem Card.countDrop_til (n : Nat) : (c.countDrop n).til = c.til := (hostOnly_countDrop c n).til
@[simp] theorem Card.countDrop_est (n : Nat) : (c.countDrop n).est = c.est := (hostOnly_countDrop c n).est
@[simp] theorem Card.countDrop_imp (n : Nat) : (c.countDrop n).imp = c.imp := (hostOnly_countDrop c n).imp
@[simp] theorem Card.countDrop_cnv (n : Nat) : (c.countDrop n).cnv = c.cnv := (hostOnly_countDrop c n).cnv
@[simp] theorem Card.countDrop_saf (n : Nat) : (c.countDrop n).saf = c.saf := (hostOnly_countDrop c n).saf
@[simp] theorem Card.countDrop_dsp (n : Nat) : (c.countDrop n).dsp = c.dsp := (hostOnly_countDrop c n).dsp
@[simp] theorem Card.countDrop_thm (n : Nat) : (c.countDrop n).thm = c.thm := (hostOnly_countDrop c n).thm
@[simp] theorem Card.countDrop_fio (n : Nat) : (c.countDrop n).fio = c.fio := (hostOnly_countDrop c n).fio
@[simp] theorem Card.countDrop_can (n : Nat) : (c.countDrop n).can = c.can := (hostOnly_countDrop c n).can
@[simp] theorem Card.countDrop_free (n : Nat) : (c.countDrop n).free = c.free := (hostOnly_countDrop c n).free
theorem Card.reg_countDrop (n : Nat) {off : Nat} (h1 : off / 0x1000 ≠ 10) (h2 : off / 0x1000 ≠ 12) :
    (c.countDrop n).reg off = c.reg off := (hostOnly_countDrop c n).reg off h1 h2
theorem Card.fld_countDrop (n : Nat) (f : Fld) (h1 : f.off / 0x1000 ≠ 10) (h2 : f.off / 0x1000 ≠ 12) :
    (c.countDrop n).fld f = c.fld f := by simp [Card.fld, Card.reg_countDrop _ _ h1 h2]

@[simp] theorem Card.dma_sys (a : Nat) (b : List Byte) : (c.dma a b).sys = c.sys := (hostOnly_dma c a b).sys
@[simp] theorem Card.dma_tim (a : Nat) (b : List Byte) : (c.dma a b).tim = c.tim := (hostOnly_dma c a b).tim
@[simp] theorem Card.dma_sec (a : Nat) (b : List Byte) : (c.dma a b).sec = c.sec := (hostOnly_dma c a b).sec
@[simp] theorem Card.dma_lan (a : Nat) (b : List Byte) : (c.dma a b).lan = c.lan := (hostOnly_dma c a b).lan
@[simp] theorem Card.dma_chn (a : Nat) (b : List Byte) : (c.dma a b).chn = c.chn := (hostOnly_dma c a b).chn
@[simp] theorem Card.dma_til (a : Nat) (b : List Byte) : (c.dma a b).til = c.til := (hostOnly_dma c a b).til
@[simp] theorem Card.dma_est (a : Nat) (b : List Byte) : (c.dma a b).est = c.est := (hostOnly_dma c a b).est
@[simp] theorem Card.dma_imp (a : Nat) (b : List Byte) : (c.dma a b).imp = c.imp := (hostOnly_dma c a b).imp
@[simp] theorem Card.dma_cnv (a : Nat) (b : List Byte) : (c.dma a b).cnv = c.cnv := (hostOnly_dma c a b).cnv
@[simp] theorem Card.dma_saf (a : Nat) (b : List Byte) : (c.dma a b).saf = c.saf := (hostOnly_dma c a b).saf
@[simp] theorem Card.dma_dsp (a : Nat) (b : List Byte) : (c.dma a b).dsp = c.dsp := (hostOnly_dma c a b).dsp
@[simp] theorem Card.dma_thm (a : Nat) (b : List Byte) : (c.dma a b).thm = c.thm := (hostOnly_dma c a b).thm
@[simp] theorem Card.dma_fio (a : Nat) (b : List Byte) : (c.dma a b).fio = c.fio := (hostOnly_dma c a b).fio
@[simp] theorem Card.dma_can (a : Nat) (b : List Byte) : (c.dma a b).can = c.can := (hostOnly_dma c a b).can
@[simp] theorem Card.dma_free (a : Nat) (b : List Byte) : (c.dma a b).free = c.free := (hostOnly_dma c a b).free
theorem Card.reg_dma (a : Nat) (b : List Byte) {off : Nat} (h1 : off / 0x1000 ≠ 10) (h2 : off / 0x1000 ≠ 12) :
    (c.dma a b).reg off = c.reg off := (hostOnly_dma c a b).reg off h1 h2
theorem Card.fld_dma (a : Nat) (b : List Byte) (f : Fld) (h1 : f.off / 0x1000 ≠ 10) (h2 : f.off / 0x1000 ≠ 12) :
    (c.dma a b).fld f = c.fld f := by simp [Card.fld, Card.reg_dma _ _ _ h1 h2]

@[simp] theorem Card.modOp_sys (n : Nat) (g : Op → Op) : (c.modOp n g).sys = c.sys := (hostOnly_modOp c n g).sys
@[simp] theorem Card.modOp_tim (n : Nat) (g : Op → Op) : (c.modOp n g).tim = c.tim := (hostOnly_modOp c n g).tim
@[simp] theorem Card.modOp_sec (n : Nat) (g : Op → Op) : (c.modOp n g).sec = c.sec := (hostOnly_modOp c n g).sec
@[simp] theorem Card.modOp_lan (n : Nat) (g : Op → Op) : (c.modOp n g).lan = c.lan := (hostOnly_modOp c n g).lan
@[simp] theorem Card.modOp_chn (n : Nat) (g : Op → Op) : (c.modOp n g).chn = c.chn := (hostOnly_modOp c n g).chn
@[simp] theorem Card.modOp_til (n : Nat) (g : Op → Op) : (c.modOp n g).til = c.til := (hostOnly_modOp c n g).til
@[simp] theorem Card.modOp_est (n : Nat) (g : Op → Op) : (c.modOp n g).est = c.est := (hostOnly_modOp c n g).est
@[simp] theorem Card.modOp_imp (n : Nat) (g : Op → Op) : (c.modOp n g).imp = c.imp := (hostOnly_modOp c n g).imp
@[simp] theorem Card.modOp_cnv (n : Nat) (g : Op → Op) : (c.modOp n g).cnv = c.cnv := (hostOnly_modOp c n g).cnv
@[simp] theorem Card.modOp_saf (n : Nat) (g : Op → Op) : (c.modOp n g).saf = c.saf := (hostOnly_modOp c n g).saf
@[simp] theorem Card.modOp_dsp (n : Nat) (g : Op → Op) : (c.modOp n g).dsp = c.dsp := (hostOnly_modOp c n g).dsp
@[simp] theorem Card.modOp_thm (n : Nat) (g : Op → Op) : (c.modOp n g).thm = c.thm := (hostOnly_modOp c n g).thm
@[simp] theorem Card.modOp_fio (n : Nat) (g : Op → Op) : (c.modOp n g).fio = c.fio := (hostOnly_modOp c n g).fio
@[simp] theorem Card.modOp_can (n : Nat) (g : Op → Op) : (c.modOp n g).can = c.can := (hostOnly_modOp c n g).can
@[simp] theorem Card.modOp_free (n : Nat) (g : Op → Op) : (c.modOp n g).free = c.free := (hostOnly_modOp c n g).free
theorem Card.reg_modOp (n : Nat) (g : Op → Op) {off : Nat} (h1 : off / 0x1000 ≠ 10) (h2 : off / 0x1000 ≠ 12) :
    (c.modOp n g).reg off = c.reg off := (hostOnly_modOp c n g).reg off h1 h2
theorem Card.fld_modOp (n : Nat) (g : Op → Op) (f : Fld) (h1 : f.off / 0x1000 ≠ 10) (h2 : f.off / 0x1000 ≠ 12) :
    (c.modOp n g).fld f = c.fld f := by simp [Card.fld, Card.reg_modOp _ _ _ h1 h2]

@[simp] theorem Card.commit_sys (n : Nat) : (c.commit n).sys = c.sys := (hostOnly_commit c n).sys
@[simp] theorem Card.commit_tim (n : Nat) : (c.commit n).tim = c.tim := (hostOnly_commit c n).tim
@[simp] theorem Card.commit_sec (n : Nat) : (c.commit n).sec = c.sec := (hostOnly_commit c n).sec
@[simp] theorem Card.commit_lan (n : Nat) : (c.commit n).lan = c.lan := (hostOnly_commit c n).lan
@[simp] theorem Card.commit_chn (n : Nat) : (c.commit n).chn = c.chn := (hostOnly_commit c n).chn
@[simp] theorem Card.commit_til (n : Nat) : (c.commit n).til = c.til := (hostOnly_commit c n).til
@[simp] theorem Card.commit_est (n : Nat) : (c.commit n).est = c.est := (hostOnly_commit c n).est
@[simp] theorem Card.commit_imp (n : Nat) : (c.commit n).imp = c.imp := (hostOnly_commit c n).imp
@[simp] theorem Card.commit_cnv (n : Nat) : (c.commit n).cnv = c.cnv := (hostOnly_commit c n).cnv
@[simp] theorem Card.commit_saf (n : Nat) : (c.commit n).saf = c.saf := (hostOnly_commit c n).saf
@[simp] theorem Card.commit_dsp (n : Nat) : (c.commit n).dsp = c.dsp := (hostOnly_commit c n).dsp
@[simp] theorem Card.commit_thm (n : Nat) : (c.commit n).thm = c.thm := (hostOnly_commit c n).thm
@[simp] theorem Card.commit_fio (n : Nat) : (c.commit n).fio = c.fio := (hostOnly_commit c n).fio
@[simp] theorem Card.commit_can (n : Nat) : (c.commit n).can = c.can := (hostOnly_commit c n).can
@[simp] theorem Card.commit_free (n : Nat) : (c.commit n).free = c.free := (hostOnly_commit c n).free
theorem Card.reg_commit (n : Nat) {off : Nat} (h1 : off / 0x1000 ≠ 10) (h2 : off / 0x1000 ≠ 12) :
    (c.commit n).reg off = c.reg off := (hostOnly_commit c n).reg off h1 h2
theorem Card.fld_commit (n : Nat) (f : Fld) (h1 : f.off / 0x1000 ≠ 10) (h2 : f.off / 0x1000 ≠ 12) :
    (c.commit n).fld f = c.fld f := by simp [Card.fld, Card.reg_commit _ _ h1 h2]

@[simp] theorem Card.produce_sys (p : Cpl) : (c.produce p).sys = c.sys := (hostOnly_produce c p).sys
@[simp] theorem Card.produce_tim (p : Cpl) : (c.produce p).tim = c.tim := (hostOnly_produce c p).tim
@[simp] theorem Card.produce_sec (p : Cpl) : (c.produce p).sec = c.sec := (hostOnly_produce c p).sec
@[simp] theorem Card.produce_lan (p : Cpl) : (c.produce p).lan = c.lan := (hostOnly_produce c p).lan
@[simp] theorem Card.produce_chn (p : Cpl) : (c.produce p).chn = c.chn := (hostOnly_produce c p).chn
@[simp] theorem Card.produce_til (p : Cpl) : (c.produce p).til = c.til := (hostOnly_produce c p).til
@[simp] theorem Card.produce_est (p : Cpl) : (c.produce p).est = c.est := (hostOnly_produce c p).est
@[simp] theorem Card.produce_imp (p : Cpl) : (c.produce p).imp = c.imp := (hostOnly_produce c p).imp
@[simp] theorem Card.produce_cnv (p : Cpl) : (c.produce p).cnv = c.cnv := (hostOnly_produce c p).cnv
@[simp] theorem Card.produce_saf (p : Cpl) : (c.produce p).saf = c.saf := (hostOnly_produce c p).saf
@[simp] theorem Card.produce_dsp (p : Cpl) : (c.produce p).dsp = c.dsp := (hostOnly_produce c p).dsp
@[simp] theorem Card.produce_thm (p : Cpl) : (c.produce p).thm = c.thm := (hostOnly_produce c p).thm
@[simp] theorem Card.produce_fio (p : Cpl) : (c.produce p).fio = c.fio := (hostOnly_produce c p).fio
@[simp] theorem Card.produce_can (p : Cpl) : (c.produce p).can = c.can := (hostOnly_produce c p).can
@[simp] theorem Card.produce_free (p : Cpl) : (c.produce p).free = c.free := (hostOnly_produce c p).free
theorem Card.reg_produce (p : Cpl) {off : Nat} (h1 : off / 0x1000 ≠ 10) (h2 : off / 0x1000 ≠ 12) :
    (c.produce p).reg off = c.reg off := (hostOnly_produce c p).reg off h1 h2
theorem Card.fld_produce (p : Cpl) (f : Fld) (h1 : f.off / 0x1000 ≠ 10) (h2 : f.off / 0x1000 ≠ 12) :
    (c.produce p).fld f = c.fld f := by simp [Card.fld, Card.reg_produce _ _ h1 h2]

@[simp] theorem Card.post_sys (p : Cpl) : (c.post p).sys = c.sys := (hostOnly_post c p).sys
@[simp] theorem Card.post_tim (p : Cpl) : (c.post p).tim = c.tim := (hostOnly_post c p).tim
@[simp] theorem Card.post_sec (p : Cpl) : (c.post p).sec = c.sec := (hostOnly_post c p).sec
@[simp] theorem Card.post_lan (p : Cpl) : (c.post p).lan = c.lan := (hostOnly_post c p).lan
@[simp] theorem Card.post_chn (p : Cpl) : (c.post p).chn = c.chn := (hostOnly_post c p).chn
@[simp] theorem Card.post_til (p : Cpl) : (c.post p).til = c.til := (hostOnly_post c p).til
@[simp] theorem Card.post_est (p : Cpl) : (c.post p).est = c.est := (hostOnly_post c p).est
@[simp] theorem Card.post_imp (p : Cpl) : (c.post p).imp = c.imp := (hostOnly_post c p).imp
@[simp] theorem Card.post_cnv (p : Cpl) : (c.post p).cnv = c.cnv := (hostOnly_post c p).cnv
@[simp] theorem Card.post_saf (p : Cpl) : (c.post p).saf = c.saf := (hostOnly_post c p).saf
@[simp] theorem Card.post_dsp (p : Cpl) : (c.post p).dsp = c.dsp := (hostOnly_post c p).dsp
@[simp] theorem Card.post_thm (p : Cpl) : (c.post p).thm = c.thm := (hostOnly_post c p).thm
@[simp] theorem Card.post_fio (p : Cpl) : (c.post p).fio = c.fio := (hostOnly_post c p).fio
@[simp] theorem Card.post_can (p : Cpl) : (c.post p).can = c.can := (hostOnly_post c p).can
@[simp] theorem Card.post_free (p : Cpl) : (c.post p).free = c.free := (hostOnly_post c p).free
theorem Card.reg_post (p : Cpl) {off : Nat} (h1 : off / 0x1000 ≠ 10) (h2 : off / 0x1000 ≠ 12) :
    (c.post p).reg off = c.reg off := (hostOnly_post c p).reg off h1 h2
theorem Card.fld_post (p : Cpl) (f : Fld) (h1 : f.off / 0x1000 ≠ 10) (h2 : f.off / 0x1000 ≠ 12) :
    (c.post p).fld f = c.fld f := by simp [Card.fld, Card.reg_post _ _ h1 h2]

@[simp] theorem Card.orphan_sys (p : Cpl) : (c.orphan p).sys = c.sys := (hostOnly_orphan c p).sys
@[simp] theorem Card.orphan_tim (p : Cpl) : (c.orphan p).tim = c.tim := (hostOnly_orphan c p).tim
@[simp] theorem Card.orphan_sec (p : Cpl) : (c.orphan p).sec = c.sec := (hostOnly_orphan c p).sec
@[simp] theorem Card.orphan_lan (p : Cpl) : (c.orphan p).lan = c.lan := (hostOnly_orphan c p).lan
@[simp] theorem Card.orphan_chn (p : Cpl) : (c.orphan p).chn = c.chn := (hostOnly_orphan c p).chn
@[simp] theorem Card.orphan_til (p : Cpl) : (c.orphan p).til = c.til := (hostOnly_orphan c p).til
@[simp] theorem Card.orphan_est (p : Cpl) : (c.orphan p).est = c.est := (hostOnly_orphan c p).est
@[simp] theorem Card.orphan_imp (p : Cpl) : (c.orphan p).imp = c.imp := (hostOnly_orphan c p).imp
@[simp] theorem Card.orphan_cnv (p : Cpl) : (c.orphan p).cnv = c.cnv := (hostOnly_orphan c p).cnv
@[simp] theorem Card.orphan_saf (p : Cpl) : (c.orphan p).saf = c.saf := (hostOnly_orphan c p).saf
@[simp] theorem Card.orphan_dsp (p : Cpl) : (c.orphan p).dsp = c.dsp := (hostOnly_orphan c p).dsp
@[simp] theorem Card.orphan_thm (p : Cpl) : (c.orphan p).thm = c.thm := (hostOnly_orphan c p).thm
@[simp] theorem Card.orphan_fio (p : Cpl) : (c.orphan p).fio = c.fio := (hostOnly_orphan c p).fio
@[simp] theorem Card.orphan_can (p : Cpl) : (c.orphan p).can = c.can := (hostOnly_orphan c p).can
@[simp] theorem Card.orphan_free (p : Cpl) : (c.orphan p).free = c.free := (hostOnly_orphan c p).free
theorem Card.reg_orphan (p : Cpl) {off : Nat} (h1 : off / 0x1000 ≠ 10) (h2 : off / 0x1000 ≠ 12) :
    (c.orphan p).reg off = c.reg off := (hostOnly_orphan c p).reg off h1 h2
theorem Card.fld_orphan (p : Cpl) (f : Fld) (h1 : f.off / 0x1000 ≠ 10) (h2 : f.off / 0x1000 ≠ 12) :
    (c.orphan p).fld f = c.fld f := by simp [Card.fld, Card.reg_orphan _ _ h1 h2]

@[simp] theorem Card.complete_sys (n st re : Nat) (r : Word) : (c.complete n st re r).sys = c.sys := (hostOnly_complete c n st re r).sys
@[simp] theorem Card.complete_tim (n st re : Nat) (r : Word) : (c.complete n st re r).tim = c.tim := (hostOnly_complete c n st re r).tim
@[simp] theorem Card.complete_sec (n st re : Nat) (r : Word) : (c.complete n st re r).sec = c.sec := (hostOnly_complete c n st re r).sec
@[simp] theorem Card.complete_lan (n st re : Nat) (r : Word) : (c.complete n st re r).lan = c.lan := (hostOnly_complete c n st re r).lan
@[simp] theorem Card.complete_chn (n st re : Nat) (r : Word) : (c.complete n st re r).chn = c.chn := (hostOnly_complete c n st re r).chn
@[simp] theorem Card.complete_til (n st re : Nat) (r : Word) : (c.complete n st re r).til = c.til := (hostOnly_complete c n st re r).til
@[simp] theorem Card.complete_est (n st re : Nat) (r : Word) : (c.complete n st re r).est = c.est := (hostOnly_complete c n st re r).est
@[simp] theorem Card.complete_imp (n st re : Nat) (r : Word) : (c.complete n st re r).imp = c.imp := (hostOnly_complete c n st re r).imp
@[simp] theorem Card.complete_cnv (n st re : Nat) (r : Word) : (c.complete n st re r).cnv = c.cnv := (hostOnly_complete c n st re r).cnv
@[simp] theorem Card.complete_saf (n st re : Nat) (r : Word) : (c.complete n st re r).saf = c.saf := (hostOnly_complete c n st re r).saf
@[simp] theorem Card.complete_dsp (n st re : Nat) (r : Word) : (c.complete n st re r).dsp = c.dsp := (hostOnly_complete c n st re r).dsp
@[simp] theorem Card.complete_thm (n st re : Nat) (r : Word) : (c.complete n st re r).thm = c.thm := (hostOnly_complete c n st re r).thm
@[simp] theorem Card.complete_fio (n st re : Nat) (r : Word) : (c.complete n st re r).fio = c.fio := (hostOnly_complete c n st re r).fio
@[simp] theorem Card.complete_can (n st re : Nat) (r : Word) : (c.complete n st re r).can = c.can := (hostOnly_complete c n st re r).can
@[simp] theorem Card.complete_free (n st re : Nat) (r : Word) : (c.complete n st re r).free = c.free := (hostOnly_complete c n st re r).free
theorem Card.reg_complete (n st re : Nat) (r : Word) {off : Nat} (h1 : off / 0x1000 ≠ 10) (h2 : off / 0x1000 ≠ 12) :
    (c.complete n st re r).reg off = c.reg off := (hostOnly_complete c n st re r).reg off h1 h2
theorem Card.fld_complete (n st re : Nat) (r : Word) (f : Fld) (h1 : f.off / 0x1000 ≠ 10) (h2 : f.off / 0x1000 ≠ 12) :
    (c.complete n st re r).fld f = c.fld f := by simp [Card.fld, Card.reg_complete _ _ _ _ _ h1 h2]

@[simp] theorem Card.done_sys (n : Nat) (r : Word) : (c.done n r).sys = c.sys := (hostOnly_done c n r).sys
@[simp] theorem Card.done_tim (n : Nat) (r : Word) : (c.done n r).tim = c.tim := (hostOnly_done c n r).tim
@[simp] theorem Card.done_sec (n : Nat) (r : Word) : (c.done n r).sec = c.sec := (hostOnly_done c n r).sec
@[simp] theorem Card.done_lan (n : Nat) (r : Word) : (c.done n r).lan = c.lan := (hostOnly_done c n r).lan
@[simp] theorem Card.done_chn (n : Nat) (r : Word) : (c.done n r).chn = c.chn := (hostOnly_done c n r).chn
@[simp] theorem Card.done_til (n : Nat) (r : Word) : (c.done n r).til = c.til := (hostOnly_done c n r).til
@[simp] theorem Card.done_est (n : Nat) (r : Word) : (c.done n r).est = c.est := (hostOnly_done c n r).est
@[simp] theorem Card.done_imp (n : Nat) (r : Word) : (c.done n r).imp = c.imp := (hostOnly_done c n r).imp
@[simp] theorem Card.done_cnv (n : Nat) (r : Word) : (c.done n r).cnv = c.cnv := (hostOnly_done c n r).cnv
@[simp] theorem Card.done_saf (n : Nat) (r : Word) : (c.done n r).saf = c.saf := (hostOnly_done c n r).saf
@[simp] theorem Card.done_dsp (n : Nat) (r : Word) : (c.done n r).dsp = c.dsp := (hostOnly_done c n r).dsp
@[simp] theorem Card.done_thm (n : Nat) (r : Word) : (c.done n r).thm = c.thm := (hostOnly_done c n r).thm
@[simp] theorem Card.done_fio (n : Nat) (r : Word) : (c.done n r).fio = c.fio := (hostOnly_done c n r).fio
@[simp] theorem Card.done_can (n : Nat) (r : Word) : (c.done n r).can = c.can := (hostOnly_done c n r).can
@[simp] theorem Card.done_free (n : Nat) (r : Word) : (c.done n r).free = c.free := (hostOnly_done c n r).free
theorem Card.reg_done (n : Nat) (r : Word) {off : Nat} (h1 : off / 0x1000 ≠ 10) (h2 : off / 0x1000 ≠ 12) :
    (c.done n r).reg off = c.reg off := (hostOnly_done c n r).reg off h1 h2
theorem Card.fld_done (n : Nat) (r : Word) (f : Fld) (h1 : f.off / 0x1000 ≠ 10) (h2 : f.off / 0x1000 ≠ 12) :
    (c.done n r).fld f = c.fld f := by simp [Card.fld, Card.reg_done _ _ _ h1 h2]

@[simp] theorem Card.doneWith_sys (n a : Nat) (b : List Byte) (r : Word) : (c.doneWith n a b r).sys = c.sys := (hostOnly_doneWith c n a b r).sys
@[simp] theorem Card.doneWith_tim (n a : Nat) (b : List Byte) (r : Word) : (c.doneWith n a b r).tim = c.tim := (hostOnly_doneWith c n a b r).tim
@[simp] theorem Card.doneWith_sec (n a : Nat) (b : List Byte) (r : Word) : (c.doneWith n a b r).sec = c.sec := (hostOnly_doneWith c n a b r).sec
@[simp] theorem Card.doneWith_lan (n a : Nat) (b : List Byte) (r : Word) : (c.doneWith n a b r).lan = c.lan := (hostOnly_doneWith c n a b r).lan
@[simp] theorem Card.doneWith_chn (n a : Nat) (b : List Byte) (r : Word) : (c.doneWith n a b r).chn = c.chn := (hostOnly_doneWith c n a b r).chn
@[simp] theorem Card.doneWith_til (n a : Nat) (b : List Byte) (r : Word) : (c.doneWith n a b r).til = c.til := (hostOnly_doneWith c n a b r).til
@[simp] theorem Card.doneWith_est (n a : Nat) (b : List Byte) (r : Word) : (c.doneWith n a b r).est = c.est := (hostOnly_doneWith c n a b r).est
@[simp] theorem Card.doneWith_imp (n a : Nat) (b : List Byte) (r : Word) : (c.doneWith n a b r).imp = c.imp := (hostOnly_doneWith c n a b r).imp
@[simp] theorem Card.doneWith_cnv (n a : Nat) (b : List Byte) (r : Word) : (c.doneWith n a b r).cnv = c.cnv := (hostOnly_doneWith c n a b r).cnv
@[simp] theorem Card.doneWith_saf (n a : Nat) (b : List Byte) (r : Word) : (c.doneWith n a b r).saf = c.saf := (hostOnly_doneWith c n a b r).saf
@[simp] theorem Card.doneWith_dsp (n a : Nat) (b : List Byte) (r : Word) : (c.doneWith n a b r).dsp = c.dsp := (hostOnly_doneWith c n a b r).dsp
@[simp] theorem Card.doneWith_thm (n a : Nat) (b : List Byte) (r : Word) : (c.doneWith n a b r).thm = c.thm := (hostOnly_doneWith c n a b r).thm
@[simp] theorem Card.doneWith_fio (n a : Nat) (b : List Byte) (r : Word) : (c.doneWith n a b r).fio = c.fio := (hostOnly_doneWith c n a b r).fio
@[simp] theorem Card.doneWith_can (n a : Nat) (b : List Byte) (r : Word) : (c.doneWith n a b r).can = c.can := (hostOnly_doneWith c n a b r).can
@[simp] theorem Card.doneWith_free (n a : Nat) (b : List Byte) (r : Word) : (c.doneWith n a b r).free = c.free := (hostOnly_doneWith c n a b r).free
theorem Card.reg_doneWith (n a : Nat) (b : List Byte) (r : Word) {off : Nat} (h1 : off / 0x1000 ≠ 10) (h2 : off / 0x1000 ≠ 12) :
    (c.doneWith n a b r).reg off = c.reg off := (hostOnly_doneWith c n a b r).reg off h1 h2
theorem Card.fld_doneWith (n a : Nat) (b : List Byte) (r : Word) (f : Fld) (h1 : f.off / 0x1000 ≠ 10) (h2 : f.off / 0x1000 ≠ 12) :
    (c.doneWith n a b r).fld f = c.fld f := by simp [Card.fld, Card.reg_doneWith _ _ _ _ _ h1 h2]

@[simp] theorem Card.audit_sys (o r : Nat) (i : BitVec 16) (s k : Nat) : (c.audit o r i s k).sys = c.sys := (hostOnly_audit c o r i s k).sys
@[simp] theorem Card.audit_tim (o r : Nat) (i : BitVec 16) (s k : Nat) : (c.audit o r i s k).tim = c.tim := (hostOnly_audit c o r i s k).tim
@[simp] theorem Card.audit_sec (o r : Nat) (i : BitVec 16) (s k : Nat) : (c.audit o r i s k).sec = c.sec := (hostOnly_audit c o r i s k).sec
@[simp] theorem Card.audit_lan (o r : Nat) (i : BitVec 16) (s k : Nat) : (c.audit o r i s k).lan = c.lan := (hostOnly_audit c o r i s k).lan
@[simp] theorem Card.audit_chn (o r : Nat) (i : BitVec 16) (s k : Nat) : (c.audit o r i s k).chn = c.chn := (hostOnly_audit c o r i s k).chn
@[simp] theorem Card.audit_til (o r : Nat) (i : BitVec 16) (s k : Nat) : (c.audit o r i s k).til = c.til := (hostOnly_audit c o r i s k).til
@[simp] theorem Card.audit_est (o r : Nat) (i : BitVec 16) (s k : Nat) : (c.audit o r i s k).est = c.est := (hostOnly_audit c o r i s k).est
@[simp] theorem Card.audit_imp (o r : Nat) (i : BitVec 16) (s k : Nat) : (c.audit o r i s k).imp = c.imp := (hostOnly_audit c o r i s k).imp
@[simp] theorem Card.audit_cnv (o r : Nat) (i : BitVec 16) (s k : Nat) : (c.audit o r i s k).cnv = c.cnv := (hostOnly_audit c o r i s k).cnv
@[simp] theorem Card.audit_saf (o r : Nat) (i : BitVec 16) (s k : Nat) : (c.audit o r i s k).saf = c.saf := (hostOnly_audit c o r i s k).saf
@[simp] theorem Card.audit_dsp (o r : Nat) (i : BitVec 16) (s k : Nat) : (c.audit o r i s k).dsp = c.dsp := (hostOnly_audit c o r i s k).dsp
@[simp] theorem Card.audit_thm (o r : Nat) (i : BitVec 16) (s k : Nat) : (c.audit o r i s k).thm = c.thm := (hostOnly_audit c o r i s k).thm
@[simp] theorem Card.audit_fio (o r : Nat) (i : BitVec 16) (s k : Nat) : (c.audit o r i s k).fio = c.fio := (hostOnly_audit c o r i s k).fio
@[simp] theorem Card.audit_can (o r : Nat) (i : BitVec 16) (s k : Nat) : (c.audit o r i s k).can = c.can := (hostOnly_audit c o r i s k).can
@[simp] theorem Card.audit_free (o r : Nat) (i : BitVec 16) (s k : Nat) : (c.audit o r i s k).free = c.free := (hostOnly_audit c o r i s k).free
theorem Card.reg_audit (o r : Nat) (i : BitVec 16) (s k : Nat) {off : Nat} (h1 : off / 0x1000 ≠ 10) (h2 : off / 0x1000 ≠ 12) :
    (c.audit o r i s k).reg off = c.reg off := (hostOnly_audit c o r i s k).reg off h1 h2
theorem Card.fld_audit (o r : Nat) (i : BitVec 16) (s k : Nat) (f : Fld) (h1 : f.off / 0x1000 ≠ 10) (h2 : f.off / 0x1000 ≠ 12) :
    (c.audit o r i s k).fld f = c.fld f := by simp [Card.fld, Card.reg_audit _ _ _ _ _ _ h1 h2]

@[simp] theorem Card.refuse_sys (o : Nat) (d : Desc) (i s k : Nat) (r : Word) : (c.refuse o d i s k r).sys = c.sys := (hostOnly_refuse c o d i s k r).sys
@[simp] theorem Card.refuse_tim (o : Nat) (d : Desc) (i s k : Nat) (r : Word) : (c.refuse o d i s k r).tim = c.tim := (hostOnly_refuse c o d i s k r).tim
@[simp] theorem Card.refuse_sec (o : Nat) (d : Desc) (i s k : Nat) (r : Word) : (c.refuse o d i s k r).sec = c.sec := (hostOnly_refuse c o d i s k r).sec
@[simp] theorem Card.refuse_lan (o : Nat) (d : Desc) (i s k : Nat) (r : Word) : (c.refuse o d i s k r).lan = c.lan := (hostOnly_refuse c o d i s k r).lan
@[simp] theorem Card.refuse_chn (o : Nat) (d : Desc) (i s k : Nat) (r : Word) : (c.refuse o d i s k r).chn = c.chn := (hostOnly_refuse c o d i s k r).chn
@[simp] theorem Card.refuse_til (o : Nat) (d : Desc) (i s k : Nat) (r : Word) : (c.refuse o d i s k r).til = c.til := (hostOnly_refuse c o d i s k r).til
@[simp] theorem Card.refuse_est (o : Nat) (d : Desc) (i s k : Nat) (r : Word) : (c.refuse o d i s k r).est = c.est := (hostOnly_refuse c o d i s k r).est
@[simp] theorem Card.refuse_imp (o : Nat) (d : Desc) (i s k : Nat) (r : Word) : (c.refuse o d i s k r).imp = c.imp := (hostOnly_refuse c o d i s k r).imp
@[simp] theorem Card.refuse_cnv (o : Nat) (d : Desc) (i s k : Nat) (r : Word) : (c.refuse o d i s k r).cnv = c.cnv := (hostOnly_refuse c o d i s k r).cnv
@[simp] theorem Card.refuse_saf (o : Nat) (d : Desc) (i s k : Nat) (r : Word) : (c.refuse o d i s k r).saf = c.saf := (hostOnly_refuse c o d i s k r).saf
@[simp] theorem Card.refuse_dsp (o : Nat) (d : Desc) (i s k : Nat) (r : Word) : (c.refuse o d i s k r).dsp = c.dsp := (hostOnly_refuse c o d i s k r).dsp
@[simp] theorem Card.refuse_thm (o : Nat) (d : Desc) (i s k : Nat) (r : Word) : (c.refuse o d i s k r).thm = c.thm := (hostOnly_refuse c o d i s k r).thm
@[simp] theorem Card.refuse_fio (o : Nat) (d : Desc) (i s k : Nat) (r : Word) : (c.refuse o d i s k r).fio = c.fio := (hostOnly_refuse c o d i s k r).fio
@[simp] theorem Card.refuse_can (o : Nat) (d : Desc) (i s k : Nat) (r : Word) : (c.refuse o d i s k r).can = c.can := (hostOnly_refuse c o d i s k r).can
@[simp] theorem Card.refuse_free (o : Nat) (d : Desc) (i s k : Nat) (r : Word) : (c.refuse o d i s k r).free = c.free := (hostOnly_refuse c o d i s k r).free
theorem Card.reg_refuse (o : Nat) (d : Desc) (i s k : Nat) (r : Word) {off : Nat} (h1 : off / 0x1000 ≠ 10) (h2 : off / 0x1000 ≠ 12) :
    (c.refuse o d i s k r).reg off = c.reg off := (hostOnly_refuse c o d i s k r).reg off h1 h2
theorem Card.fld_refuse (o : Nat) (d : Desc) (i s k : Nat) (r : Word) (f : Fld) (h1 : f.off / 0x1000 ≠ 10) (h2 : f.off / 0x1000 ≠ 12) :
    (c.refuse o d i s k r).fld f = c.fld f := by simp [Card.fld, Card.reg_refuse _ _ _ _ _ _ _ h1 h2]

@[simp] theorem Card.finishDeletes_sys : (c.finishDeletes).sys = c.sys := (hostOnly_finishDeletes c).sys
@[simp] theorem Card.finishDeletes_tim : (c.finishDeletes).tim = c.tim := (hostOnly_finishDeletes c).tim
@[simp] theorem Card.finishDeletes_sec : (c.finishDeletes).sec = c.sec := (hostOnly_finishDeletes c).sec
@[simp] theorem Card.finishDeletes_lan : (c.finishDeletes).lan = c.lan := (hostOnly_finishDeletes c).lan
@[simp] theorem Card.finishDeletes_chn : (c.finishDeletes).chn = c.chn := (hostOnly_finishDeletes c).chn
@[simp] theorem Card.finishDeletes_til : (c.finishDeletes).til = c.til := (hostOnly_finishDeletes c).til
@[simp] theorem Card.finishDeletes_est : (c.finishDeletes).est = c.est := (hostOnly_finishDeletes c).est
@[simp] theorem Card.finishDeletes_imp : (c.finishDeletes).imp = c.imp := (hostOnly_finishDeletes c).imp
@[simp] theorem Card.finishDeletes_cnv : (c.finishDeletes).cnv = c.cnv := (hostOnly_finishDeletes c).cnv
@[simp] theorem Card.finishDeletes_saf : (c.finishDeletes).saf = c.saf := (hostOnly_finishDeletes c).saf
@[simp] theorem Card.finishDeletes_dsp : (c.finishDeletes).dsp = c.dsp := (hostOnly_finishDeletes c).dsp
@[simp] theorem Card.finishDeletes_thm : (c.finishDeletes).thm = c.thm := (hostOnly_finishDeletes c).thm
@[simp] theorem Card.finishDeletes_fio : (c.finishDeletes).fio = c.fio := (hostOnly_finishDeletes c).fio
@[simp] theorem Card.finishDeletes_can : (c.finishDeletes).can = c.can := (hostOnly_finishDeletes c).can
@[simp] theorem Card.finishDeletes_free : (c.finishDeletes).free = c.free := (hostOnly_finishDeletes c).free
theorem Card.reg_finishDeletes {off : Nat} (h1 : off / 0x1000 ≠ 10) (h2 : off / 0x1000 ≠ 12) :
    (c.finishDeletes).reg off = c.reg off := (hostOnly_finishDeletes c).reg off h1 h2
theorem Card.fld_finishDeletes (f : Fld) (h1 : f.off / 0x1000 ≠ 10) (h2 : f.off / 0x1000 ≠ 12) :
    (c.finishDeletes).fld f = c.fld f := by simp [Card.fld, Card.reg_finishDeletes _ h1 h2]

end Sys2Proof.Machine
end

