-- ==== Sys2Proof/Laws/Live.lean ====
section
/-! SUPPORT. After every command each live register shows its word, and a step leaves either the state or a settled
card. -/

namespace Sys2Proof.Machine

/-- Writing a field twice with the same value is writing it once. -/
theorem put_put (f : Fld) (w : Word) (v : Nat) : f.put (f.put w v) v = f.put w v := by
  unfold Fld.put; ext i hi; simp; grind

/-- HST_EV_PEND is no live register. -/
theorem evPend_not_live {o : Nat} (h : o ∈ liveRegs) (w : Nat) (hw : w < 16) : HST_EV_PEND w ≠ o := by
  rintro rfl
  have : ∀ w < 16, HST_EV_PEND w ∉ liveRegs := by decide +kernel
  exact this w hw h

/-- REC_WIN_IDX is no live register. -/
theorem winIdx_not_live {o : Nat} (h : o ∈ liveRegs) : REC_WIN_IDX ≠ o := by
  rintro rfl
  have : REC_WIN_IDX ∉ liveRegs := by decide +kernel
  exact this h

/-- HST_EV_SUMMARY does not depend on a live register. -/
theorem evSummary_live (c : Card) {o : Nat} (v : Word) (ho : o ∈ liveRegs) : (c.setReg o v).evSummary = c.evSummary := by
    unfold Card.evSummary bitmap
    apply List.foldl_ext
    intro a b hb
    have hb' : b < 16 := by simpa using hb
    simp only [Card.reg_setReg_other c v (evPend_not_live ho b hb')]

/-- Nor does the record that REC_WIN shows. -/
theorem winIdx_live (c : Card) {o : Nat} (v : Word) (ho : o ∈ liveRegs) :
    (c.setReg o v).fld REC_WIN_IDX.IDX = c.fld REC_WIN_IDX.IDX := by
    unfold Card.fld
    show REC_WIN_IDX.IDX.of ((c.setReg o v).reg REC_WIN_IDX) = _
    rw [Card.reg_setReg_other c v (winIdx_not_live ho)]
    rfl

/-- Writing a live register changes the word of no other. -/
theorem live_other (c : Card) {o off : Nat} (v : Word) (ho : o ∈ liveRegs) (hne : off ≠ o) :
    (c.setReg o v).live off = c.live off := by
  unfold Card.live
  rw [evSummary_live c v ho, winIdx_live c v ho, Card.reg_setReg_other c v hne]
  rfl

/-- The same of two fields written one after the other. -/
theorem put_put2 (f g : Fld) (w : Word) (u v : Nat) : f.put (g.put (f.put (g.put w v) u) v) u = f.put (g.put w v) u := by
  unfold Fld.put; ext i hi; simp; grind

/-- Two conditionals of one condition agree where their branches do. -/
theorem iteEq {α : Type} {p : Prop} [Decidable p] {a b x y : α} (h1 : p → a = x) (h2 : ¬p → b = y) :
    (if p then a else b) = if p then x else y := by
  by_cases h : p <;> simp [h, h1, h2]

/-- A live register that shows its word still has the same word to show. -/
theorem live_same (c : Card) (o : Nat) (ho : o ∈ liveRegs) : (c.setReg o (c.live o)).live o = c.live o := by
  generalize hw : c.live o = w
  conv_lhs => unfold Card.live
  rw [evSummary_live c _ ho, winIdx_live c _ ho, Card.reg_setReg_same]
  rw [← hw]
  conv_rhs => unfold Card.live
  refine iteEq (fun h0 => rfl) (fun h0 => ?_)
  refine iteEq (fun h1 => by unfold Card.live; rw [if_neg h0, if_pos h1]; exact put_put _ _ _) (fun h1 => ?_)
  refine iteEq (fun h2 => by unfold Card.live; rw [if_neg h0, if_neg h1, if_pos h2]; exact put_put _ _ _) (fun h2 => ?_)
  refine iteEq (fun h3 => rfl) (fun h3 => ?_)
  refine iteEq (fun h4 => rfl) (fun h4 => ?_)
  refine iteEq (fun h5 => by unfold Card.live; rw [if_neg h0, if_neg h1, if_neg h2, if_neg h3, if_neg h4, if_pos h5]; exact put_put _ _ _) (fun h5 => ?_)
  refine iteEq (fun h6 => rfl) (fun h6 => ?_)
  refine iteEq (fun h7 => rfl) (fun h7 => ?_)
  refine iteEq (fun h8 => rfl) (fun h8 => ?_)
  refine iteEq (fun h9 => by unfold Card.live; rw [if_neg h0, if_neg h1, if_neg h2, if_neg h3, if_neg h4, if_neg h5, if_neg h6, if_neg h7, if_neg h8, if_pos h9]; exact put_put2 _ _ _ _ _) (fun h9 => ?_)
  refine iteEq (fun h10 => by unfold Card.live; rw [if_neg h0, if_neg h1, if_neg h2, if_neg h3, if_neg h4, if_neg h5, if_neg h6, if_neg h7, if_neg h8, if_neg h9, if_pos h10]; exact put_put _ _ _) (fun h10 => ?_)
  refine iteEq (fun h11 => rfl) (fun h11 => ?_)
  refine iteEq (fun h12 => rfl) (fun h12 => ?_)
  refine iteEq (fun h13 => rfl) (fun h13 => ?_)
  refine iteEq (fun h14 => rfl) (fun h14 => ?_)
  refine iteEq (fun h15 => rfl) (fun h15 => ?_)
  refine iteEq (fun h16 => rfl) (fun h16 => ?_)
  refine iteEq (fun h17 => rfl) (fun h17 => ?_)
  refine iteEq (fun h18 => rfl) (fun h18 => ?_)
  unfold Card.live; rw [if_neg h0, if_neg h1, if_neg h2, if_neg h3, if_neg h4, if_neg h5, if_neg h6, if_neg h7, if_neg h8, if_neg h9, if_neg h10, if_neg h11, if_neg h12, if_neg h13, if_neg h14, if_neg h15, if_neg h16, if_neg h17, if_neg h18]

/-- After `showLive` every live register shows its word. -/
theorem shown_showLive (c : Card) : c.showLive.Shown := by
  unfold Card.showLive
  suffices hs : ∀ (l : List Nat) (x : Card), (∀ o ∈ l, o ∈ liveRegs) → (∀ o, x.live o = c.live o) →
      (∀ o ∈ liveRegs, o ∉ l → x.reg o = c.live o) →
      (∀ o ∈ liveRegs, (l.foldl (fun x o => if x.reg o = c.live o then x else x.setReg o (c.live o)) x).reg o
        = (l.foldl (fun x o => if x.reg o = c.live o then x else x.setReg o (c.live o)) x).live o) from
    hs liveRegs c (fun _ h => h) (fun _ => rfl) (fun _ h h' => absurd h h')
  intro l
  induction l with
  | nil => intro x _ h2 h3 o ho; simp [h2, h3 o ho]
  | cons o r ih =>
    intro x h1 h2 h3
    simp only [List.foldl_cons]
    have ho : o ∈ liveRegs := h1 o (by simp)
    split
    · rename_i he
      apply ih x (fun q hq => h1 q (by simp [hq])) h2
      intro q hq hq'
      by_cases e : q = o
      · subst e; exact he
      · exact h3 q hq (by simp [e, hq'])
    · apply ih _ (fun q hq => h1 q (by simp [hq]))
      · intro q
        by_cases e : q = o
        · subst e; rw [← h2 q, live_same x q ho]
        · rw [live_other x _ ho e, h2]
      · intro q hq hq'
        by_cases e : q = o
        · subst e; simp
        · rw [Card.reg_setReg_other _ _ e]; exact h3 q hq (by simp [e, hq'])

/-- After every command the live registers show their words. -/
theorem shown_settle (old new : Card) : (settle old new).Shown := shown_showLive _

/-- A command leaves the state as it is or settles a card. -/
theorem exec_settled (i : Instr) (s t : State) (h : exec i s = .next t) :
    t = s ∨ ∃ c, t = { s with card := settle s.card c } := by
  rcases exec_form i s with ⟨_, f, hf⟩ | ⟨_, f, hf⟩ <;> rw [hf] at h
  · cases hp : s.card.sys.powered
    · rw [State.on_unpowered s f hp] at h
      exact Or.inl (Host.Outcome.next.inj h).symm
    · rw [State.on_powered s f hp] at h
      exact Or.inr ⟨_, (Host.Outcome.next.inj h).symm⟩
  · exact Or.inr ⟨_, (Host.Outcome.next.inj h).symm⟩

/-- So does the idle step. -/
theorem idle_settled (s t : State) (h : idle s = .next t) :
    t = s ∨ ∃ c, t = { s with card := settle s.card c } := by
  unfold idle at h
  cases hp : s.card.sys.powered
  · rw [State.on_unpowered s _ hp] at h
    exact Or.inl (Host.Outcome.next.inj h).symm
  · rw [State.on_powered s _ hp] at h
    exact Or.inr ⟨_, (Host.Outcome.next.inj h).symm⟩

/-- A step takes the front command, if any, and leaves the card as it is or settles a card. -/
theorem step_settled (s t : State) (h : step s = .next t) :
    t = { s with pending := s.pending.tail }
      ∨ ∃ c, t = { card := settle s.card c, pending := s.pending.tail } := by
  unfold step at h
  split at h
  · rename_i e
    rcases idle_settled s t h with rfl | ⟨c, rfl⟩
    · left; cases t; simp_all
    · right; exact ⟨c, by simp [e]⟩
  · rename_i i rest e
    rcases exec_settled i { s with pending := rest } t h with rfl | ⟨c, rfl⟩
    · left; simp [e]
    · right; exact ⟨c, by simp [e]⟩

end Sys2Proof.Machine
end

