-- ==== Sys2Proof/Tests/Slice0.lean ====
section
/-! SUPPORT. Tests on small states: the smoke of `WellFormed`, a witness for the hypotheses of every statement, and one
step here and there whose result the spec gives. -/

set_option Elab.async false

namespace Sys2Proof.Tests

open Sys2Proof.Machine Sys2Proof.Claims

/-! ### Helpers -/

/-- A parameter area that begins with the bytes listed. -/
def area (l : List Nat) : BitVec 384 := BitVec.ofNat 384 (fromLe (l.map (BitVec.ofNat 8)))

/-- A descriptor of session 1 on SQ `q` with tag 7. -/
def dsc (l : List Nat) (q : Nat := 1) (buf : List Byte := []) : Desc :=
  { sq := q, session := 1, tag := 7, area := area l, buf := buf }

/-- A card with a maker's session, and one fetched entry of SQ 0 and of SQ 1. -/
def card : Card := { Card.reset with
  hst.arriving := [(1, 0), (0, 0)], sec.sessions := [{ id := 1, role := 3, path := 0, opened := 0, last := 0 }] }

/-- The machine with a card and no waiting command. -/
def on (c : Card) : State := { card := c, pending := [] }

/-- An operation in flight of an opcode and descriptor. -/
def opOf (opcode : Nat) (d : Desc) : Op :=
  { opcode := opcode, desc := d, cq := 0, index := 0, role := 3, order := 0, frame := 0 }

/-- A card with register fields set. -/
def flds (c : Card) (l : List (Fld × Nat)) : Card := c.each l fun c x => c.setFld x.1 x.2

/-! ### The smoke of `WellFormed`: each check refuses a term, and its neighbour inside the range passes -/

/-- Operands past the ends of their ranges. -/
theorem test_wellformed_refuses :
    [Instr.idcode, .feedLost 1 0 0, .announceTimeout 1, .delayReqEgress 1 65535, .triggerFire 65535, .uploadSegment 4 1 false [],
      .satelliteLost 4 32, .loopCodeChange 1 true 4, .tileNop { tile := 255, hw := { laneCheck := some 7 } }, .tileUndefinedOpcode {} 0x3F,
      .reductionComplete 4 63, .tileRetirement 271, .learnedValueCommit 1 7, .fastSample 35 0, .requestExpiry 255, .driverTest 4 4 true,
      .aoSafeWrite 3 0, .nop { sq := 63 }, .slotBlockExpiry 8, .doorbellDiscarded 0xFFFF 0, .hostInterfaceReset 2, .msixMessage 63,
      .plantMessageInvalid 255 {}, .contextSave 1 2 false 0 false, .wireBreak 15 true, .doFault 7 true, .canSendTimeout 1 127, .canWake 1 2,
      .breakpointHit 7, .registerWrite 0xFFFC 0 0 0, .hstEvPendClear 15 0 0, .coldReset 0 [271], .frameBoundary false [{ index := 7, code := 0 }] [],
      .census 1 [{ pos := 255 }] [], .canFrameReceived 0 { id := 0, remote := true }].all Instr.wf = true
    ∧ [Instr.feedLost 2 0 0, .announceTimeout 2, .delayReqEgress 0 65536, .triggerFire 65536, .uploadSegment 0 0 false [], .uploadSegment 5 0 false [],
      .satelliteLost 1 0, .satelliteLost 1 33, .loopCodeChange 1 true 5, .tileNop { tile := 256 }, .tileNop { hw := { laneCheck := some 8 } },
      .tileUndefinedOpcode {} 0x10, .reductionComplete 1 64, .tileRetirement 272, .learnedValueCommit 1 8, .fastSample 36 0, .requestExpiry 256,
      .driverTest 1 5 true, .aoSafeWrite 4 0, .nop { sq := 64 }, .slotBlockExpiry 9, .doorbellDiscarded 0x10000 0, .hostInterfaceReset 3,
      .msixMessage 64, .plantMessageInvalid 256 {}, .contextSave 2 0 false 0 false, .contextSave 0 3 false 0 false, .wireBreak 16 true,
      .doFault 8 true, .canSendTimeout 2 0, .canSendTimeout 0 128, .canWake 0 3, .breakpointHit 8, .registerWrite 0xFFFE 0 0 0,
      .registerWrite 0x10000 0 0 0, .hstEvPendClear 16 0 0, .coldReset 0 [272], .frameBoundary false [{ index := 8, code := 0 }] [],
      .frameBoundary false [] [{ recorder := true, unit := 256, addr := 0, uncorrectable := true }], .census 1 [{ pos := 256 }] [], .announceReceived 0 { domain := 256 },
      .canFrameReceived 0 { id := 0, remote := true, data := [0] }, .canFrameReceived 0 { id := 0, data := List.replicate 65 0 },
      .hostForward { port := 2 }].all (fun i => !i.wf) = true := by decide +kernel

/-- An origin of 4,096 bytes whose sections are empty, for an image and a kernel set of id 0. -/
def originImage : List Byte :=
  List.replicate 32 0 ++ [0, 16, 0, 0] ++ List.replicate 1028 0
    ++ (List.replicate 8 [0, 0, 0, 0, 0, 16, 0, 0, 0, 0, 0, 0, 0, 0, 0, 0]).flatten ++ List.replicate 2904 0

/-! ### Descriptors: for every row one that it accepts -/

/-- Rows of the host interface, each with a descriptor that a card accepts. -/
def hstCases : List (Row × Desc × Card × Nat) := [
  (rowNop, dsc [], card, 1),
  (rowSqCreate, dsc [2, 1, 0, 16, 6] 0, card.setCq 1 { present := true }, 0),
  (rowCqCreate, dsc [63, 0, 0, 0, 16] 0, card, 0),
  (rowSqDelete, dsc [1] 0, card.setSq 1 { state := 1 }, 0),
  (rowCqDelete, dsc [1] 0, card.setCq 1 { present := true }, 0),
  (rowHstAbort, dsc [8], card, 1),
  (rowSqRestart, dsc [1, 0, 63] 0, card.setSq 1 { state := 2, log2 := 6 }, 0),
  (rowOrphanRead, dsc [0, 16], card, 1),
  (rowPlantRecv, dsc [], card, 1),
  (rowPlantSend, dsc [5, 0, 0, 0, 0, 0, 4], card, 1),
  (rowDlqRead, dsc [1], card, 1),
  (rowSysDrain, dsc [0], card, 1),
  (rowSysWarmReset, dsc [], card, 1)]

/-- Every one of them is accepted. -/
theorem witness_hst_accepted : ∀ x ∈ hstCases, Accepted x.1 x.2.1 x.2.2.1 (x.2.2.2, 0) := by
  unfold Accepted Reaches Arrives; decide +kernel

/-- Rows of the chains, the tiles, the estimator and the tracker, each with a descriptor that a card accepts. -/
def cellCases : List (Row × Desc × Card × Nat) := [
  (rowChnAdmit, dsc [4, 32, 1], flds card [(CHN_CTRL.SAT_COUNT 4, 32), (CHN_SAT_STATE.STATE 4 32, 1)], 1),
  (rowChnBalManual, dsc [1, 0, 1], flds card [(CHN_SAT_STATE.STATE 1 1, 2)], 1),
  (rowChnBalTest, dsc [4, 0, 0, 2], flds card [(CHN_SAT_STATE.STATE 4 32, 5)], 1),
  (rowChnSatRead, dsc [1, 1, 0, 0, 64], flds card [(CHN_SAT_STATE.STATE 1 1, 2)], 1),
  (rowChnSatWrite, dsc [1, 1, 0, 0, 1], flds card [(CHN_SAT_STATE.STATE 1 1, 2)], 1),
  (rowChnReset, dsc [4], card, 1),
  (rowChnCensus, dsc [1], card, 1),
  (rowTilKernelSwitch, dsc [], flds (card.setReg LAN_CLASS0 0xFF000000) [(TIL_STATUS.STANDBY_VALID, 1)], 1),
  (rowTilTableLoad, dsc [15, 0, 0, 48], card, 1),
  (rowTilMemRead, dsc [255, 0, 0, 0, 0, 4], card, 1),
  (rowTilMemWrite, dsc [0, 0, 0, 32, 1], card, 1),
  (rowTilTest, dsc [4, 1], card, 1),
  (rowTilRetire, dsc [255], card, 1),
  (rowTilUnretire, dsc [3], card.setReg (TIL_RETIRED 0) 8, 1),
  (rowEstLearnReset, dsc [1, 0, 1, 0, 0, 2], card, 1),
  (rowEstLearnWrite, dsc [4, 0, 0, 2, 1], card, 1),
  (rowEstLearnRead, dsc [4, 0, 0, 2, 1], card, 1),
  (rowEstCommit, dsc [15], card, 1),
  (rowEstModelReinit, dsc [1, 0, 1, 0, 1], card, 1),
  (rowEstSwapDeclare, dsc [1, 32], card.modEst 1 fun x => { x with headerOk := true }, 1),
  (rowImpPlanLoad, dsc [15, 0, 0, 0, 1] 1 (List.replicate 9 0 ++ 12 :: List.replicate 70 0), card, 1),
  (rowImpInjCtrl, dsc [15, 0], card, 1),
  (rowImpHistReset, dsc [1, 0, 1, 0, 1], card, 1),
  (rowImpSpectrumRead, dsc [4, 0, 1, 0, 64], card, 1)]

/-- Every one of them is accepted. -/
theorem witness_cell_accepted : ∀ x ∈ cellCases, Accepted x.1 x.2.1 x.2.2.1 (x.2.2.2, 0) := by
  unfold Accepted Reaches Arrives; decide +kernel

/-- Rows of the thermal block, the engines, the dispatcher, the fabric and the field side, each with a descriptor that a card accepts. -/
def powerCases : List (Row × Desc × Card × Nat) := [
  (rowThmTempRead, dsc [23, 4, 1], card, 1),
  (rowThmAoSet, dsc [3, 0, 80, 195], card, 1),
  (rowCnvStart, dsc [4, 2], card, 1),
  (rowCnvStop, dsc [4], card, 1),
  (rowCnvMode, dsc [1, 2], card, 1),
  (rowCnvSetpoint, dsc [1, 0, 0, 0, 255, 255, 1], card, 1),
  (rowCnvFfLoad, dsc [15] 1 ((List.replicate 306 [1, 0, 0, 0]).flatten), card, 1),
  (rowCnvCapture, dsc [4, 1, 64, 0, 8], card, 1),
  (rowDspRequest, dsc [0, 0, 0, 0, 1, 0, 0, 0, 0, 0, 0, 0, 0, 0, 0, 0, 1], card, 1),
  (rowDspCancel, dsc [255, 255, 3, 0, 9], card, 1),
  (rowDspReqRead, dsc [], card, 1),
  (rowDspAcctRead, dsc [0, 0, 0, 0, 1], { card with dsp.ring := [(0, List.replicate 32 0)] }, 1),
  (rowDspAcctPreset, dsc [4, 1], card, 1),
  (rowSafClose, dsc [4], card, 1),
  (rowSafOpen, dsc [4], card, 1),
  (rowSafTrip, dsc [15], card, 1),
  (rowSafDriverTest, dsc [4], card, 1),
  (rowSafCoilTest, dsc [1, 2, 232, 3], flds card [(SAF_STATUS.ARMED, 1)], 1),
  (rowSafFaultClear, dsc [1, 1], card.modSaf 1 fun x => { x with weldRec := true }, 1),
  (rowFioDoWrite, dsc [255, 1], flds card [(FIO_STATUS.LINK_OK, 1)], 1),
  (rowFioCosRead, dsc [0, 1], card, 1),
  (rowCanSend, dsc [1, 127, 8],
    flds card [(FIO_STATUS.LINK_OK, 1), (CAN_CTRL.EN 1, 1), (CAN_HOLE_ID.EN 1 127, 1), (CAN_HOLE_ID.DIR 1 127, 1)], 1),
  (rowCanRead, dsc [1, 127, 1], card, 1),
  (rowCanSleep, dsc [1, 1], flds card [(CAN_CTRL.EN 1, 1)], 1)]

/-- Every one of them is accepted. -/
theorem witness_power_accepted : ∀ x ∈ powerCases, Accepted x.1 x.2.1 x.2.2.1 (x.2.2.2, 0) := by
  unfold Accepted Reaches Arrives; decide +kernel

/-- Rows of the recorder, the lanes and the sessions, each with a descriptor that a card accepts. -/
def laneCases : List (Row × Desc × Card × Nat) := [
  (rowRecRead, dsc [0, 0, 0, 0, 0, 4, 2], card, 1),
  (rowRecBbRead, dsc [1], card, 1),
  (rowRecOrigin, dsc [0, 0, 0, 0, 0, 0, 0, 0, 64], card, 1),
  (rowRecReplayMode, dsc [1], card, 1),
  (rowRecReplayFeed, dsc [], { card with rcd.loadedFrame := some 0, rcd.replay := true }, 1),
  (rowLanParcel, dsc [0, 0, 0, 0, 1], card.setBank 1 { manifest := [0, 0, 0, 0, 0, 0, 0, 0, 1, 0] }, 1),
  (rowLanUpdatePrepare, dsc [],
    (flds card [(laneFld 1, 3), (imgFld 1, 2), (SYS_CFG_STAT.STATE, 0)]).setBank 1 { manifest := List.replicate 16 0 ++ [255, 0, 2, 1, 3, 0, 0, 0, 2] }, 1),
  (rowLanSatUpdate, dsc [1, 0, 1],
    (flds card [(imgFld 1, 2), (EST_MODEL_CFG.STALE_OPEN, 2)]).setBank 1 { manifest := List.replicate 21 0 ++ [1, 0, 0, 4] }, 1),
  (rowRecReplayLoad, dsc [] 1 originImage, { card with rcd.replay := true, regs := [(LAN_IMG_ID_A, 0)] }, 1),
  (rowLanStageQuery, dsc [], card, 1),
  (rowLanUpdateAbort, dsc [], flds card [(LAN_STATUS.UPD, 2)], 1),
  (rowLanLaneReset, dsc [0], flds card [(laneFld 1, 3), (LAN_STATUS.SHADOW_VALID, 1)], 1),
  (rowLanHandover, dsc [0], card, 1),
  (rowLanCfgSave, dsc [], card, 1),
  (rowLanCfgChoose, dsc [2], flds card [(SYS_CFG_STAT.STATE, 1)], 1),
  (rowLanBootSplit, dsc [1], card, 1),
  (rowSecChallenge, dsc [7], card.setKey 7 { role := 1 }, 1),
  (rowSecRespond, dsc [1], card, 1),
  (rowSecPassword, dsc [64], card.setKey 8 { role := 1 }, 1),
  (rowSecClose, dsc [1], card, 1),
  (rowSecUnlock, dsc [1], card, 1),
  (rowSecList, dsc [], card, 1),
  (rowSecKeySet, dsc [0, 3], card, 1),
  (rowSecPasswordSet, dsc [64, 0, 0, 0, 16, 39], card, 1)]

/-- Every one of them is accepted. -/
theorem witness_lane_accepted : ∀ x ∈ laneCases, Accepted x.1 x.2.1 x.2.2.1 (x.2.2.2, 0) := by
  unfold Accepted Reaches Arrives; decide +kernel

/-! ### Packages: a signature that verifies is all that Lean cannot compute -/

/-- A manifest of image 5 with one parcel and no part. -/
def bareManifest : List Byte := [1, 0, 0, 0, 5, 0, 0, 0, 1, 0, 0, 1] ++ List.replicate 4084 0

/-- A card of hardware issue 3. -/
def issued : Card := { card with regs := [(SYS_REV, 0x303)] }

/-- The journal entry of an arrival touches no register. -/
theorem noted_reg (r : Row) (d : Desc) (c : Card) (a : Nat × Nat) (off : Nat) : (noted r d c a).reg off = c.reg off := by
  unfold noted Card.noteArrival
  dsimp only
  split <;> split <;> rfl

/-- LAN_STAGE_BEGIN is accepted for a manifest whose signature verifies. -/
theorem witness_stage_begin (h : signed' bareManifest = true) :
    Accepted rowLanStageBegin (dsc [5] 1 bareManifest) issued (1, 0) := by
  have e : ∀ c : Card, c.reg LAN_CLASS1 = issued.reg LAN_CLASS1 → c.reg SYS_REV = issued.reg SYS_REV →
      c.manifestFault bareManifest = none := by
    intro c h1 h2
    have k : c.keyRevoked (leAt bareManifest 10 1) = false := by
      unfold Card.keyRevoked Card.fld; rw [show LAN_CLASS1.KEY_REVOKED.off = LAN_CLASS1 from rfl, h1]; decide +kernel
    have v : ¬c.fld SYS_REV.HW_ISSUE < leAt bareManifest 11 1 := by
      unfold Card.fld; rw [show SYS_REV.HW_ISSUE.off = SYS_REV from rfl, h2]; decide +kernel
    have o : manifestOk bareManifest = true := by decide +kernel
    simp only [Card.manifestFault, o, k, h, v, Bool.not_true, Bool.false_eq_true, if_false]
  refine ⟨⟨by unfold Arrives; decide +kernel, by decide +kernel⟩, by decide +kernel, ?_⟩
  have m : (dsc [5] 1 bareManifest).buf.take 4096 = bareManifest := List.take_of_length_le (by decide +kernel)
  have f := e (noted rowLanStageBegin (dsc [5] 1 bareManifest) issued (1, 0)) (noted_reg _ _ _ _ _) (noted_reg _ _ _ _ _)
  generalize hc : noted rowLanStageBegin (dsc [5] 1 bareManifest) issued (1, 0) = c at f ⊢
  have u : c.fld LAN_STATUS.UPD = 0 := by subst hc; unfold Card.fld; rw [noted_reg]; decide +kernel
  have w : c.standbyUsed = false := by subst hc; rfl
  have a : rowLanStageBegin.args c (dsc [5] 1 bareManifest) = none := by subst hc; decide +kernel
  have i : leAt bareManifest 4 4 = (dsc [5] 1 bareManifest).at 0 4 := by decide +kernel
  unfold Card.ownChecks
  rw [a]
  simp [rowLanStageBegin, m, f, u, w, i]

/-- A kernel set package of one instruction, NOP, in one batch. -/
def kernelPackage : List Byte :=
  [1, 0, 0, 0, 5, 0, 0, 0, 1, 0, 0, 1] ++ List.replicate 6 0 ++ [2, 2, 2, 0, 0, 0, 2] ++ List.replicate 55 0 ++ [0, 0, 0, 0, 72, 0, 0, 0] ++ List.replicate 8 0
    ++ [32, 249, 117, 14, 243, 47, 143, 255, 97, 210, 90, 3, 249, 234, 34, 153, 229, 53, 166, 40, 0, 80, 251, 142, 248, 202, 216, 28, 214, 221, 177, 246] ++ List.replicate 3968 0
    ++ [1, 0, 1, 0] ++ List.replicate 4092 0

/-- The SHA-256 of the kernel part is the one that its manifest holds. -/
theorem test_kernel_part : partMatches (kernelPackage.take 4096) 1 (packPart kernelPackage 1) = true := by decide +kernel

/-- The descriptor of the package. -/
def kernelDesc : Desc := dsc [5, 0, 0, 0, 0, 32] 1 kernelPackage

/-- TIL_KERNEL_LOAD is accepted for a package whose signature verifies. -/
theorem witness_kernel_load (h : signed' (kernelPackage.take 4096) = true) :
    Accepted rowTilKernelLoad kernelDesc issued (1, 0) := by
  refine ⟨⟨by unfold Arrives; decide +kernel, by decide +kernel⟩, by decide +kernel, ?_⟩
  have k0 : (noted rowTilKernelLoad kernelDesc issued (1, 0)).keyRevoked (leAt (kernelPackage.take 4096) 10 1) = false := by
    unfold Card.keyRevoked Card.fld; rw [noted_reg]; decide +kernel
  have v : ¬(noted rowTilKernelLoad kernelDesc issued (1, 0)).fld SYS_REV.HW_ISSUE < leAt (kernelPackage.take 4096) 11 1 := by
    unfold Card.fld; rw [noted_reg]; decide +kernel
  have o : manifestOk (kernelPackage.take 4096) = true := by decide +kernel
  have f : (noted rowTilKernelLoad kernelDesc issued (1, 0)).manifestFault (kernelPackage.take 4096) = none := by
    simp only [Card.manifestFault, o, k0, h, v, Bool.not_true, Bool.false_eq_true, if_false]
  have b : (noted rowTilKernelLoad kernelDesc issued (1, 0)).kernelBusy = false := by decide +kernel
  have g : (!kernelPack (kernelPackage.take 4096) || decide (leAt (kernelPackage.take 4096) 4 4 ≠ kernelDesc.at 0 4)
      || decide (kernelDesc.at 4 4 ≠ 4096 * (parcelsOf (kernelPackage.take 4096) + 1))
      || decide (kernelPackage.length < kernelDesc.at 4 4)
      || !partMatches (kernelPackage.take 4096) 1 (packPart kernelPackage 1)
      || (kernelOf 0 0 (packPart kernelPackage 1)).isNone) = false := by
    rw [test_kernel_part]; decide +kernel
  have q : (noted rowTilKernelLoad kernelDesc issued (1, 0)).kernelOk (leAt (kernelPackage.take 4096) 18 1) = true := by
    unfold Card.kernelOk; rw [noted_reg]; decide +kernel
  have r : (noted rowTilKernelLoad kernelDesc issued (1, 0)).kernelRefusal kernelDesc = none := by
    unfold Card.kernelRefusal
    rw [show kernelDesc.buf = kernelPackage from rfl]
    dsimp only
    rw [b, f, q]
    simp only [g, Bool.false_eq_true, if_false, Bool.not_true]
  have a : rowTilKernelLoad.args (noted rowTilKernelLoad kernelDesc issued (1, 0)) kernelDesc = none := by
    simp only [rowTilKernelLoad]; decide +kernel
  have k : rowTilKernelLoad.checks (noted rowTilKernelLoad kernelDesc issued (1, 0)) kernelDesc = none := by
    generalize noted rowTilKernelLoad kernelDesc issued (1, 0) = c at r ⊢
    generalize kernelDesc = d at r ⊢
    simp [rowTilKernelLoad, r]
  unfold Card.ownChecks
  rw [a, k]
  rfl

/-! ### Witnesses: every hypothesis of a statement is met somewhere -/

/-- The least string number. -/
theorem string1 : StringNo 1 := ⟨by decide, by decide⟩

/-- The greatest string number. -/
theorem string4 : StringNo 4 := ⟨by decide, by decide⟩

/-- StepRunsFront, IdleTick, WithoutPower, and a card without power. -/
theorem witness_general :
    (({ card := card, pending := [.idcode] } : State).pending = .idcode :: [])
    ∧ ((on card).pending = [] ∧ Live (on card))
    ∧ ((on { card with sys.powered := false }).card.sys.powered = false ∧ powerEvent .idcode = false) :=
  ⟨rfl, ⟨rfl, rfl⟩, ⟨rfl, rfl⟩⟩

/-- LiveRegistersShow: what follows a command leaves a card that shows what it holds. -/
theorem witness_shown (c : Card) : (on (settle c c)).card.Shown := by
  have h : ∀ x : Card, x.Shown → (on x).card.Shown := fun _ h => h
  exact h _ (shown_settle c c)

/-- StickyFiresSummary: a write to no register raises UNMAPPED of the host interface. -/
theorem witness_sticky_rises :
    ∃ t, exec (.registerWrite 0x0FF0 0 0xF 0) (on card) = .next t ∧ stickyRose (on card).card t.card 10 = true :=
  ⟨_, rfl, by decide +kernel⟩

/-- DescriptorRefused and FenceHolds: reserved bits, a tag in use, no session, a bad argument, a FENCE, nothing fetched. -/
theorem witness_refusals :
    (Reaches { dsc [] with flags := 4 } card (1, 0) ∧ Desc.hdrReserved { dsc [] with flags := 4 } = true)
    ∧ (Reaches (dsc []) (card.setOp 7 (some (opOf 0 (dsc [])))) (1, 0)
      ∧ ((noted rowNop (dsc []) (card.setOp 7 (some (opOf 0 (dsc [])))) (1, 0)).op (dsc []).slot).isSome = true)
    ∧ (Reaches { dsc [1] with session := 2 } card (1, 0)
      ∧ (noted rowOrphanRead { dsc [1] with session := 2 } card (1, 0)).sessionCheck 1 2 = some (8, 0xF102))
    ∧ (Reaches (dsc [1, 0]) card (1, 0) ∧ (noted rowNop (dsc [1, 0]) card (1, 0)).headChecks rowNop (dsc [1, 0]) = none
      ∧ (noted rowNop (dsc [1, 0]) card (1, 0)).ownChecks rowNop (dsc [1, 0]) = some (7, 0xA003, 0))
    ∧ (Arrives (dsc []) { card with hst.held := [(0, dsc [], 0)] } (1, 0)
      ∧ (taken { card with hst.held := [(0, dsc [], 0)] } (1, 0)).fenced (dsc []) = true)
    ∧ (card.hst.arriving.find? fun x => x.1 == (dsc [] 2).sq) = none
    ∧ (Reaches (dsc []) card (1, 0) ∧ rowOf 0xFF = none ∧ rowOf 0x0B = none) := by
  unfold Reaches Arrives; decide +kernel

/-- AbortOpcode: a tag in another position of its slot, a committed operation, one that is withdrawn. -/
theorem witness_abort :
    Accepted rowHstAbort (dsc [8]) (card.setOp 8 (some { opOf 0 (dsc []) with desc := { dsc [] with tag := 0x10008 } })) (1, 0)
    ∧ Accepted rowHstAbort (dsc [8]) (card.setOp 8 (some { opOf 0 (dsc []) with desc := { dsc [] with tag := 8 }, committed := true })) (1, 0)
    ∧ Accepted rowHstAbort (dsc [8]) (card.setOp 8 (some { opOf 0x24 (dsc []) with desc := { dsc [] with tag := 8 } })) (1, 0) := by
  unfold Accepted Reaches Arrives; decide +kernel

/-- The other branches of the opcodes that act at acceptance: an admission, an end of a drain, a commit of no string, a mirror
read, a replay mode off, the unlock released, a key cleared, the password cleared. -/
theorem witness_branches :
    Accepted rowChnAdmit (dsc [1, 1]) (card.modSat 1 1 (fun x => { x with compat := 1 }) |> fun c =>
      flds c [(CHN_CTRL.SAT_COUNT 1, 1), (CHN_SAT_STATE.STATE 1 1, 4)]) (1, 0)
    ∧ Accepted rowSysDrain (dsc [1]) (flds card [(SYS_SLOT.REMOVE, 2), (SYS_SLOT.LATCH, 1)]) (1, 0)
    ∧ Accepted rowEstCommit (dsc [0]) card (1, 0)
    ∧ Accepted rowSecUnlock (dsc [0]) { card with sec.unlock := some 1 } (1, 0)
    ∧ Accepted rowSecKeySet (dsc [7, 0, 1]) card (1, 0)
    ∧ Accepted rowSecPasswordSet (dsc [0]) card (1, 0)
    ∧ Accepted rowLanSatUpdate (dsc [1, 32, 0]) ((flds card [(EST_MODEL_CFG.STALE_OPEN, 2), (CHN_SAT_STATE.STATE 1 32, 2)]).setBank 0
        { manifest := List.replicate 21 0 ++ [1, 0, 0, 4] }) (1, 0)
    ∧ Accepted rowSecRespond (dsc [5]) { card with sec.challenges := [{ handle := 5, slot := 1, path := 0, nonce := 0, issued := 0 }] } (1, 0) := by
  unfold Accepted Reaches Arrives; decide +kernel

/-- TriggerFires, TriggerRefused: a FRAME trigger of a digital output that is due, in and out of HOLD; a drain; an empty slot. -/
theorem witness_triggers :
    (Live (on (card.setOp 7 (some { opOf 0x90 (dsc [255, 1]) with trig := some { kind := 1, at' := 0 } })))
      ∧ Due rowFioDoWrite (on (card.setOp 7 (some { opOf 0x90 (dsc [255, 1]) with trig := some { kind := 1, at' := 0 } }))) 7
        { opOf 0x90 (dsc [255, 1]) with trig := some { kind := 1, at' := 0 } } { kind := 1, at' := 0 }
      ∧ card.holding = false)
    ∧ (flds card [(SYS_CFG_STAT.STATE, 1)]).holding = true
    ∧ (rowSafClose.drain (dsc [1]) && (flds card [(SYS_SLOT.REMOVE, 1)]).draining) = true
    ∧ (∀ o, card.op 7 = some o → o.trig.any card.trigDue = false) := by
  refine ⟨⟨rfl, ?_, by decide +kernel⟩, by decide +kernel, by decide +kernel, ?_⟩
  · unfold Due; decide +kernel
  · intro o h; rw [show card.op 7 = none by decide +kernel] at h; cases h

/-- An operation of an opcode that waits on slot 0 of frame 0. -/
def due (opcode : Nat) (l : List Nat) : Op := { opOf opcode (dsc l) with trig := some { kind := 1, at' := 0 } }

/-- A card with that operation in slot 7 of the tracker. -/
def waits (opcode : Nat) (l : List Nat) (c : Card) : Card := c.setOp 7 (some (due opcode l))

/-- A string that an engine may start on. -/
def startable (n : Nat) : Card :=
  (flds card [(SAF_STR_STATE.STATE n, 4), (TIL_FRESH.FRESH, 15), (CNV_SD_CFG.CLK_EN n, 1)]).modEng n fun e =>
    { e with ocv := List.replicate 153 1, res := List.replicate 153 1 }

/-- A string that may close. -/
def closable : Card := flds card [(SAF_STATUS.ARMED, 1), (SYS_CFG_STAT.STATE, 0)]

/-- TriggerEffects: a start, a stop, a close, a write of outputs. -/
theorem witness_trigger_effects :
    (Live (on (waits 0x60 [4, 2] (startable 4))) ∧ Due rowCnvStart (on (waits 0x60 [4, 2] (startable 4))) 7 (due 0x60 [4, 2]) { kind := 1, at' := 0 }
      ∧ (waits 0x60 [4, 2] (startable 4)).holding = false ∧ (waits 0x60 [4, 2] (startable 4)).draining = false
      ∧ (waits 0x60 [4, 2] (startable 4)).cnvState 4 = 0 ∧ (waits 0x60 [4, 2] (startable 4)).startCheck 4 = none)
    ∧ (Live (on (waits 0x61 [1] (flds card [(CNV_STATUS.STATE 1, 3)])))
      ∧ Due rowCnvStop (on (waits 0x61 [1] (flds card [(CNV_STATUS.STATE 1, 3)]))) 7 (due 0x61 [1]) { kind := 1, at' := 0 }
      ∧ (waits 0x61 [1] (flds card [(CNV_STATUS.STATE 1, 3)])).cnvState 1 = 3)
    ∧ (Live (on (waits 0x80 [4] closable)) ∧ Due rowSafClose (on (waits 0x80 [4] closable)) 7 (due 0x80 [4]) { kind := 1, at' := 0 }
      ∧ (waits 0x80 [4] closable).holding = false ∧ (waits 0x80 [4] closable).draining = false
      ∧ (waits 0x80 [4] closable).safState 4 = 0 ∧ (waits 0x80 [4] closable).bit SAF_STATUS.ARMED = true
      ∧ (waits 0x80 [4] closable).fld (CHN_LOOP.VERDICT 4) ≠ 2 ∧ (waits 0x80 [4] closable).bit (CHN_CTRL.MAINT 4) = false
      ∧ (waits 0x80 [4] closable).fld SAF_DRV_FAULT.FAULT / 2 ^ (5 * (4 - 1)) % 32 = 0)
    ∧ ((waits 0x90 [255, 1] card).fio.setNow.any fun x => decide (0 < x.1) && x.2 &&& BitVec.ofNat 8 255 != 0) = false
    ∧ ((waits 0x90 [255, 1] card).running.any fun x => decide (x.2.opcode = 0x90) && decide (0 < x.2.order)) = false := by
  refine ⟨⟨rfl, ?_, by decide +kernel⟩, ⟨rfl, ?_, by decide +kernel⟩, ⟨rfl, ?_, by decide +kernel⟩, by decide +kernel⟩ <;> unfold Due <;> decide +kernel

/-- A Sync, Announces of the domain, a full and an empty stamp queue, holdover, a pulse in and out of its window, its loss. -/
def ann : Announce := { gm := 1 }

/-- PtpEvents and StampQueueOverflow. -/
theorem witness_ptp :
    (Live (on (flds card [(TIM_CTRL.PTP_EN, 1)])) ∧ (flds card [(TIM_CTRL.PTP_EN, 1)]).bit TIM_CTRL.PTP_EN = true
      ∧ (flds card [(TIM_CTRL.PTP_EN, 1)]).tim.moveDue = none
      ∧ ann.domain = (flds card [(TIM_CTRL.PTP_EN, 1)]).fld TIM_CTRL.DOMAIN)
    ∧ (Live (on (flds card [(TIM_STATUS.TIME_STATE, 1), (TIM_HOLDOVER_CFG.HOLDOVER_LIMIT, 1)]))
      ∧ (flds card [(TIM_STATUS.TIME_STATE, 1), (TIM_HOLDOVER_CFG.HOLDOVER_LIMIT, 1)]).announced (1 - 1) = none
      ∧ (flds card [(TIM_STATUS.TIME_STATE, 1), (TIM_HOLDOVER_CFG.HOLDOVER_LIMIT, 1)]).fld TIM_STATUS.TIME_STATE = 1
      ∧ (flds card [(TIM_STATUS.TIME_STATE, 1), (TIM_HOLDOVER_CFG.HOLDOVER_LIMIT, 1)]).fld TIM_HOLDOVER_CFG.HOLDOVER_LIMIT ≠ 0)
    ∧ (Live (on (flds card [(TIM_STATUS.TIME_STATE, 2)])) ∧ (flds card [(TIM_STATUS.TIME_STATE, 2)]).fld TIM_STATUS.TIME_STATE = 2)
    ∧ (Live (on card) ∧ (∀ x ∈ card.tim.tsq, ¬(x.1 = 5 ∧ x.2.1 = 1)) ∧ card.tim.tsq.length < 32)
    ∧ (({ card with tim.tsq := [(5, 1, 0)] } : Card).tim.tsq.any fun x => decide (x.1 = 5 ∧ x.2.1 = 1)) = true
    ∧ ((∀ x ∈ List.replicate 32 (4, 1, 0), ¬(x.1 = 5 ∧ x.2.1 = 1)) ∧ 32 ≤ (List.replicate 32 ((4 : Nat), (1 : Nat), (0 : Nat))).length
      ∧ ({ card with tim.tsq := List.replicate 32 (4, 1, 0) } : Card).bit TIM_STATUS.TSQ_OVF = false) := by
  refine ⟨⟨rfl, by decide +kernel⟩, ⟨rfl, by decide +kernel⟩, ⟨rfl, by decide +kernel⟩, ⟨rfl, by decide +kernel⟩, by decide +kernel⟩

/-- FramePulse, TimeSnapshots, PlantTimeSteps. -/
theorem witness_pulse_time :
    (Live (on { card with tim.gotCur := false }) ∧ (0 : Int).natAbs ≤ ({ card with tim.gotCur := false } : Card).fld TIM_PULSE_CFG.WINDOW
      ∧ ({ card with tim.gotCur := false } : Card).fld TIM_STATUS.PULSE_STATE ≠ 3)
    ∧ (Live (on card) ∧ card.fld TIM_PULSE_CFG.WINDOW < (-70000 : Int).natAbs)
    ∧ (Live (on { card with tim.missRun := 255 }) ∧ ({ card with tim.missRun := 255 } : Card).fld TIM_STATUS.PULSE_STATE ≠ 3
      ∧ ({ card with tim.missRun := 255 } : Card).fld TIM_PULSE_CFG.MISS_LIMIT ≤ 255)
    ∧ (Live (on card) ∧ card.tim.framePm < 2 ^ 64)
    ∧ (Live (on { card with tim.slot := 7, tim.stepDue := some (-5) }) ∧ ({ card with tim.slot := 7, tim.stepDue := some (-5) } : Card).tim.stepDue = some (-5)) := by
  refine ⟨⟨rfl, by decide +kernel⟩, ⟨rfl, by decide +kernel⟩, ⟨rfl, by decide +kernel⟩, ⟨rfl, by decide +kernel⟩, ⟨rfl, rfl⟩⟩

/-- SlotBoundaries, FrameBoundaries, FrameSlewBound. -/
theorem witness_frames :
    (Live (on card) ∧ card.tim.slot < 7 ∧ card.tim.slot ≠ 7)
    ∧ (Live (on { card with tim.slot := 7 }) ∧ ({ card with tim.slot := 7 } : Card).replayHolds = false)
    ∧ (card.rcd.loadedFrame = none ∧ card.rcd.entry = none)
    ∧ ((flds card [(TIM_STATUS.TIME_STATE, 1)]).fld TIM_STATUS.TIME_STATE = 1
      ∧ (flds card [(TIM_STATUS.TIME_STATE, 1)]).fld TIM_FRAME_CFG.FRAME_SLEW ≤ 400) := by
  refine ⟨⟨rfl, by decide +kernel⟩, ⟨rfl, by decide +kernel⟩, ⟨rfl, rfl⟩, by decide +kernel⟩

/-- A chain that is enabled, with its first satellite in service. -/
def chain1 : Card := flds card [(CHN_CTRL.EN 1, 1), (CHN_CTRL.SAT_COUNT 1, 32), (CHN_SAT_STATE.STATE 1 1, 2), (CHN_STATUS.SPLIT 1, 32)]

/-- A body with its CRC. -/
def withCrc (b : List Byte) : List Byte := b ++ be 2 (crc16 b)

/-- An upload segment with tones, of place 1 at HEAD in frame 0. -/
def segment : List Byte := withCrc ([1, 4] ++ List.replicate 184 0)

/-- A request of place 1 that waits for its answer. -/
def asked (resends : Nat) (c : Card) : Card :=
  c.modSat 1 1 fun x => { x with out := some { typ := 6, payload := [0, 0, 1], owner := .host 7, resends := resends } }

/-- UploadSegments: a chain that is not enabled, a CRC error, a good segment, one of another frame. -/
theorem witness_upload :
    (Live (on card) ∧ card.bit (CHN_CTRL.EN 4) = false)
    ∧ (Live (on chain1) ∧ chain1.bit (CHN_CTRL.EN 1) = true ∧ crcBody [1] = none)
    ∧ (crcBody segment = some (segment.take 186) ∧ segment.length = segmentLength (beAt (segment.take 186) 1 1 / 4 % 4)
      ∧ beAt (segment.take 186) 1 1 / 16 = chain1.frame.toNat % 16 ∧ chain1.trainNext 1 0 (beAt (segment.take 186) 0 1) = true) := by
  refine ⟨⟨rfl, by decide +kernel⟩, ⟨rfl, by decide +kernel⟩, by decide +kernel⟩

/-- ChainLinksAndCensus, ChainControllerResets, ChainResets, LoopCodes. -/
theorem witness_chain :
    (Live (on card) ∧ card.bit (CHN_STATUS.HEAD_LINK 1) ≠ true ∧ card.bit (CHN_STATUS.TAIL_LINK 4) ≠ true)
    ∧ ((card.modSat 4 32 fun x => { x with probeH := true, probeT := true }).sat 4 32).probeH = true
    ∧ ((card.modSat 4 32 fun x => { x with probeH := true, probeT := true }).sat 4 32).probeT = true
    ∧ ((card.modChain 1 fun x => { x with downFrames := 8 }).chain 1).downFrames = 8
    ∧ (8 < ((card.modChain 1 fun x => { x with downFrames := 72 }).chain 1).downFrames
      ∧ (((card.modChain 1 fun x => { x with downFrames := 72 }).chain 1).downFrames - 8) % 64 = 0)
    ∧ (card.chain 4).downFrames < 8
    ∧ ((card.modChain 4 fun x => { x with resetCause := some 2 }).chain 4).resetCause = some 2
    ∧ (loopVerdict 2 2 = 2 ∨ ∃ h ≤ 4, ∃ t ≤ 4, loopVerdict h t = 2) ∧ card.fld (CHN_LOOP.VERDICT 1) ≠ 2
    ∧ (∃ h ≤ 4, ∃ t ≤ 4, loopVerdict h t = 1) ∧ card.fld (CHN_LOOP.VERDICT 4) ≠ 1
    ∧ (∃ h ≤ 4, ∃ t ≤ 4, loopVerdict h t = 0) := by
  refine ⟨⟨rfl, by decide +kernel⟩, by decide +kernel⟩

/-- The answer of place 1 to its request. -/
def answer : List Byte := withCrc [0x86, 0xFF, 1, 0, 0, 1, 0]

/-- SatelliteAnswers and SatelliteLoss. -/
theorem witness_answers :
    (Live (on chain1) ∧ crcBody [1, 2, 3] = none)
    ∧ (crcBody answer = some [0x86, 0xFF, 1, 0, 0, 1, 0] ∧ responseType (beAt answer 0 1) = true ∧ beAt answer 0 1 ≠ 0x87
      ∧ beAt answer 1 1 = 0xFF ∧ [0x86, 0xFF, 1, 0, 0, 1, 0].length = 6 + beAt answer 4 2 ∧ beAt answer 4 2 ≠ 0
      ∧ (asked 0 chain1).answering 1 0x86 1 0 = some (1, { typ := 6, payload := [0, 0, 1], owner := .host 7 }))
    ∧ (Live (on { asked 0 chain1 with tim.frame := 255 }) ∧ (({ asked 0 chain1 with tim.frame := 255 } : Card).sat 1 1).out
        = some { typ := 6, payload := [0, 0, 1], owner := .host 7 }
      ∧ ({ asked 0 chain1 with tim.frame := 255 } : Card).fld (CHN_TIMING.RSP_TIMEOUT 1) ≤ framesSince 255 0
      ∧ 0 < ({ asked 0 chain1 with tim.frame := 255 } : Card).fld (CHN_TIMING.RETRY 1))
    ∧ ({ asked 9 chain1 with tim.frame := 255 } : Card).fld (CHN_TIMING.RETRY 1) ≤ 9
    ∧ (Live (on (chain1.modSat 1 1 fun x => { x with silent := 255 })) ∧ (chain1.modSat 1 1 fun x => { x with silent := 255 }).satState 1 1 = 2
      ∧ chain1.fld (CHN_TIMING.SILENT_LIMIT 1) ≤ 255) := by
  refine ⟨⟨rfl, by decide +kernel⟩, by decide +kernel, ⟨rfl, by decide +kernel⟩, by decide +kernel, ⟨rfl, by decide +kernel⟩⟩

/-! ### Tiles -/

/-- A card whose first and last logical tiles run a batch. -/
def tiles : Card := (card.setTile (card.phys 0) { run := 1 }).setTile (card.phys 255) { run := 1 }

/-- A tile instruction's fields. -/
def op (v d a b : Nat) (tile : Nat := 0) : TileOp :=
  { tile := tile, v := BitVec.ofNat 3 v, d := BitVec.ofNat 9 d, a := BitVec.ofNat 9 a, b := BitVec.ofNat 9 b }

/-- Fields that each row admits, in the order of `rowFields`, at the ends of their ranges. -/
def okFields : List TileOp := [
  op 0 0 0 0, op 0 0 0 0, op 0 448 127 511, op 0 448 511 511, op 0 3 127 511, op 0 3 3 511, op 0 0 3 511, op 0 0 3 511,
  op 0 0 3 511, op 1 0 0 0, op 0 511 0 0, op 0 0 0 15, op 1 511 0 0, op 0 511 0 0, op 7 0 511 511, op 7 0 511 511,
  op 7 0 511 511, op 6 0 511 41, op 6 0 511 41, op 7 511 0 41, op 1 511 511 511, op 1 511 511 511, op 1 511 511 511,
  op 1 511 511 511, op 1 511 511 0, op 1 511 511 0, op 1 511 511 17, op 1 511 511 17, op 3 511 511 0, op 0 511 511 0,
  op 0 511 511 511, op 0 511 511 511, op 0 511 511 511, op 0 511 511 511, op 5 0 511 511, op 5 0 511 511, op 5 0 511 511,
  op 5 0 511 511, op 3 0 0 0, op 4 511 511 0, op 4 63 511 0]

/-- Fields one past the end of a range, in the same order; `MAC`, `MSU` and `MUL` have D as theirs. -/
def badFields : List TileOp := [
  op 0 0 0 1, op 1 0 0 0, op 0 1 0 0, op 0 1 0 0, op 0 4 0 1, op 0 0 4 0, op 0 0 4 0, op 0 0 4 0, op 0 0 4 0, op 2 0 0 0,
  op 0 0 1 0, op 0 0 0 16, op 2 0 0 0, op 1 0 0 0, op 0 1 0 0, op 0 1 0 0, op 0 1 0 0, op 0 0 0 42, op 1 0 0 0, op 0 0 1 0,
  op 2 0 0 0, op 2 0 0 0, op 2 0 0 0, op 2 0 0 0, op 0 0 0 0, op 0 0 0 0, op 0 0 0 18, op 0 0 0 18, op 4 0 0 0, op 0 0 0 1,
  op 1 0 0 0, op 1 0 0 0, op 1 0 0 0, op 1 0 0 0, op 6 0 0 0, op 6 0 0 0, op 6 0 0 0, op 6 0 0 0, op 4 0 0 0, op 5 0 0 0,
  op 0 64 0 0]

/-- Tiles of both ends of the array are ready, and each row admits its fields and refuses those past them. -/
theorem witness_tiles :
    (Live (on tiles) ∧ Ready (op 0 0 0 0) (on tiles) ∧ Ready (op 0 0 0 0 255) (on tiles))
    ∧ okFields.length = rowFields.length ∧ badFields.length = rowFields.length
    ∧ (List.zipWith (fun r x => r.2 x) rowFields okFields).all id = true
    ∧ (List.zipWith (fun r x => !r.2 x) rowFields badFields).all id = true := by
  refine ⟨⟨rfl, ?_⟩, by decide +kernel⟩
  unfold Ready
  decide +kernel

/-- No operand of the low addresses traps, an address past the lane's memory does, and so does a write to the input window. -/
theorem witness_tile_operands :
    (tileAt (op 0 0 0 0) tiles).range [0, 63] = none
    ∧ (tileAt (op 0 0 0 0) tiles).writeTrap ((fetched (op 0 0 0 0) tiles).tileCtx 0).cls 0 (tileAt (op 0 0 0 0) tiles).on = none
    ∧ (({ tileAt (op 0 0 0 0) tiles with b := [(0, 4096)] } : Tile).range [0]) = some (3, 0)
    ∧ (tileAt (op 0 0 0 0) tiles).writeTrap 0 448 (tileAt (op 0 0 0 0) tiles).on = some (4, 0)
    ∧ (tileAt (op 0 0 0 0) tiles).writeTrap 0 256 (tileAt (op 0 0 0 0) tiles).on = some (5, 0)
    ∧ (({ tileAt (op 0 0 0 0) tiles with b := [(4, 0xC000)] } : Tile).base 4 + 2 ^ 9 + 1 ≤ 0xF000) := by
  decide +kernel

/-- TileOutcomes, TileAtRest, and the clauses of TileTraffic. -/
theorem witness_tile_states :
    ((2047 : Nat) < 2048 ∧ (2046 : Nat) < 2047)
    ∧ (card.tile (card.phys 255)).run ≠ 1
    ∧ ({ card with regs := (flds card [(TIL_MAP.STATE 0, 2)]).regs } : Card).noTile 0 = true
    ∧ (({ run := 1, stall := some .input } : Tile).stall.isSome = true)
    ∧ (({ run := 1, contributed := [63] } : Tile).contributed.contains 63 = true)
    ∧ ((tiles.chanComplete 4 63) = false)
    ∧ (((tilesOf 4).foldl (fun c t => flds c [(TIL_MAP.STATE t, 2)]) card).chanComplete 4 63 = true)
    ∧ (((card.setTile (card.phys 0) { run := 1, stall := some (.exchange (op 0 0 0 0) []) }).tile
        ((card.setTile (card.phys 0) { run := 1, stall := some (.exchange (op 0 0 0 0) []) }).phys 0)).stall
      = some (.exchange (op 0 0 0 0) []))
    ∧ (((card.setKset 0 { batches := [(0, 0)] }).batchFrom 0) = some (0, 0, 0))
    ∧ (({ card with til.retireDue := [(3, 4)] } : Card).til.retireDue.find? fun y => y.1 == 3) = some (3, 4) ∧ card.retired 3 = false
    ∧ card.til.filled = false := by
  decide +kernel

/-- The accumulator of chapter 3's worked example: three S1.17 products, and its narrowing by 17 and by 18. -/
theorem test_products :
    (0x18000 * 0x18000 + 0x18000 * 0x18000 + 0x10000 * 0x8000 : Int) = 0x500000000
    ∧ clampAcc 0x500000000 = (0x500000000, false) ∧ narrow18 true true 17 0x500000000 = (0x1FFFF, true)
    ∧ narrow18 true true 18 0x500000000 = (0x14000, false) := by decide +kernel

/-- The bounds of the accumulator. -/
theorem test_acc_bounds : clampAcc (2 ^ 41) = (2 ^ 41 - 1, true) ∧ clampAcc (2 ^ 41 - 1) = (2 ^ 41 - 1, false)
    ∧ clampAcc (-(2 ^ 41) - 1) = (-(2 ^ 41), true) ∧ clampAcc (-(2 ^ 41)) = (-(2 ^ 41), false) := by decide +kernel

/-! ### Estimation and power -/

/-- LimitFallbacks, LearnedValueCommits. -/
theorem witness_estimator :
    (Live (on (card.modEst 4 fun x => { x with everFresh := true, missed := 5 }))
      ∧ ((card.modEst 4 fun x => { x with everFresh := true, missed := 5 }).estStr 4).everFresh = true
      ∧ 5 ≤ ((card.modEst 4 fun x => { x with everFresh := true, missed := 5 }).estStr 4).missed
      ∧ ((card.modEst 4 fun x => { x with everFresh := true, missed := 5 }).estStr 4).zeroed = false)
    ∧ ((card.modEst 1 fun x => { x with laFrames := 2550 }).estStr 1).laFallback = false
    ∧ 10 * (card.modEst 1 fun x => { x with laFrames := 2550 }).fld EST_LA_CFG.VALID_FR ≤ ((card.modEst 1 fun x => { x with laFrames := 2550 }).estStr 1).laFrames
    ∧ (card.estStr 1).laFrames < 10 * card.fld EST_LA_CFG.VALID_FR
    ∧ (((card.modEst 1 fun x => { x with due := [5] }).estStr 1).due.contains 5 = true ∧ ((card.modEst 1 fun x => { x with due := [5] }).estStr 1).phase = 0)
    ∧ (600000 ≤ ((card.modEst 4 fun x => { x with since := 600000, phase := 2 }).estStr 4).since
      ∧ 2 ≤ ((card.modEst 4 fun x => { x with since := 600000, phase := 2 }).estStr 4).phase)
    ∧ (((card.modEst 4 fun x => { x with phase := 4, attempt := 1 }).estStr 4).phase = 4
      ∧ ((card.modEst 4 fun x => { x with phase := 4, attempt := 1 }).estStr 4).attempt = 1)
    ∧ ((card.modEst 4 fun x => { x with phase := 4, attempt := 2 }).estStr 4).attempt ≠ 1 := by
  refine ⟨⟨rfl, by decide +kernel⟩, by decide +kernel⟩

/-- A card in slot 7 of frame 0 that may master the bus. -/
def pageCard : Card := { flds card [(EST_CTRL.PAGE_EN, 1), (IMP_CTRL.PAGE_EN, 1), (EST_CTRL.BAL_EN, 1)] with tim.slot := 7, hst.busMaster := true }

/-- PagesAndPlans, InjectionPlans. -/
theorem witness_pages :
    (Live (on pageCard) ∧ pageCard.tim.slot = 7 ∧ pageCard.est.pageHeld = [] ∧ pageCard.stateDue = true ∧ pageCard.masters = true)
    ∧ (({ pageCard with hst.busMaster := false } : Card).stateDue = true ∧ ({ pageCard with hst.busMaster := false } : Card).masters = false)
    ∧ (pageCard.imp.pageHeld = [] ∧ pageCard.impDue = true)
    ∧ (({ pageCard with tim.slot := 6 } : Card).bit EST_CTRL.BAL_EN = true ∧ ({ pageCard with tim.slot := 6 } : Card).frame.toNat % 1024 = 0)
    ∧ (((card.modImp 4 fun x => { x with pend := some { id := 1 } }).impStr 4).pend = some { id := 1 } ∧ (({ id := 1 } : Plan).at' = card.frame)
      ∧ (card.impStr 4).pend = none)
    ∧ (16 ≤ (((flds card [(IMP_STATUS.INJ_STATE 1, 2)]).modImp 1 fun x => { x with clear := 16 }).impStr 1).clear
      ∧ ((flds card [(IMP_STATUS.INJ_STATE 1, 2)]).modImp 1 fun x => { x with clear := 16 }).fld (IMP_STATUS.INJ_STATE 1) = 2)
    ∧ (({ card with tim.slot := 3 } : Card).frame.toNat % 65536 = 0 ∧ card.imp.histAt ≠ some card.frame
      ∧ classRuns (card.fld TIL_STATUS.THROTTLE) card.frame 1 = true) := by
  refine ⟨⟨rfl, by decide +kernel⟩, by decide +kernel⟩

/-- SenseSamples, ConverterDelays. -/
theorem witness_converter :
    (Live (on (flds card [(CNV_SD_CFG.CLK_EN 4, 1)])) ∧ (chanOf 35).1 = 4 ∧ (flds card [(CNV_SD_CFG.CLK_EN 4, 1)]).bit (CNV_SD_CFG.CLK_EN (chanOf 35).1) = true)
    ∧ (flds card [(CNV_SD_CFG.CLK_EN 1, 0)]).bit (CNV_SD_CFG.CLK_EN (chanOf 0).1) = false
    ∧ (card.eng 1).lost.testBit 0 = false
    ∧ ((card.modEng 4 fun e => { e with lost := 256 }).eng 4).lost.testBit 8 = true
    ∧ ((flds (startable 1) [(CNV_STATUS.STATE 1, 1)]).cnvState 1 = 1 ∧ (flds (startable 1) [(CNV_STATUS.STATE 1, 1)]).startCheck 1 = none)
    ∧ card.cnvState 4 ≠ 1 ∧ (flds card [(CNV_STATUS.STATE 4, 4)]).cnvState 4 = 4 ∧ card.cnvState 4 ≠ 4 := by
  refine ⟨⟨rfl, by decide +kernel⟩, by decide +kernel⟩

/-- A key slot of the role. -/
def key (role : Nat) : KeySlot := { role := role, key := 5 }

/-- An envelope signed under slot 7. -/
def signed (role typ : Nat) (e : Envelope) : Envelope :=
  { e with auth := (hmac (key role).bytes ((envBytes typ e).take (32 + e.len.toNat))).take 16 }

/-- A card of module 0 that hears plant messages and holds a key in slot 7. -/
def plantCard : Card := (flds card [(HST_PM_CFG.PM_EN, 1), (HST_PM_CFG.PORT, 27000), (SYS_SLOT.ID_VALID, 1)]).setKey 7 (key 2)

/-- A dispatch request of one second and 1 W. -/
def requestMsg : Envelope := signed 2 1 { len := 24, keyId := 7, body := [0, 0, 0, 0, 1] ++ List.replicate 11 0 ++ [1] ++ List.replicate 7 0 }

/-- PlantDispatch and PlantMessages: a request, a cancellation, a forwarded message are accepted; a message without its
signature is not. -/
theorem witness_plant :
    (Live (on plantCard) ∧ PlantAccepted 1 requestMsg plantCard
      ∧ PlantAccepted 2 (signed 2 2 { len := 4, keyId := 7, body := [0, 0, 0, 0] }) plantCard
      ∧ PlantAccepted 4 (signed 2 4 { len := 0, keyId := 7 }) plantCard)
    ∧ requestBad { area := BitVec.ofNat 384 (fromLe requestMsg.body) } = false
    ∧ requestBad { area := 3 } = true
    ∧ (authentic 4 {} plantCard).hst.recvs = [] ∧ (authentic 4 {} { plantCard with hst.recvs := [7] }).hst.recvs = 7 :: []
    ∧ (ForUs {} plantCard ∧ (plantCard.plantCheck2 4 { keyId := 7 }).isSome = true
      ∧ (heard 4 { keyId := 7 } plantCard).plantCheck2 4 { keyId := 7 } = some 1) ∧ ¬ForUs { udp := 1 } plantCard := by
  refine ⟨⟨rfl, ?_⟩, by decide +kernel, by decide +kernel, by decide +kernel, by decide +kernel, ?_⟩
  · unfold PlantAccepted ForUs; decide +kernel
  · unfold ForUs; decide +kernel

/-- A request of the host. -/
def req (state : Nat) : DspReq := {
  source := hostSource, id := 1, cls := 0, replace := false, asked := 1, duration := 10, minFrac := 0, maxDefer := 10
  trig := { kind := 0, at' := 0 }, order := 0, state := state }

/-- RequestExpiries, Accounts. -/
theorem witness_dispatch :
    (Live (on (card.putRequest 255 (some (req 3)))) ∧ (card.putRequest 255 (some (req 3))).entry 255 = some (req 3)
      ∧ ({ card.putRequest 255 (some (req 3)) with tim.frame := 10 } : Card).remaining (req 3) = 0
      ∧ (card.putRequest 255 (some (req 3))).remaining (req 3) ≠ 0)
    ∧ ((req 2).state = 2 ∧ (req 2).maxDefer ≤ framesSince 10 (req 2).decided ∧ framesSince 9 (req 2).decided < (req 2).maxDefer)
    ∧ (1000 ≤ ({ card with dsp.since := 1000 } : Card).dsp.since ∧ ({ card with dsp.since := 999 } : Card).dsp.since < 1000)
    ∧ ({ card with dsp.ivls := [{}, {}], tim.slot := 7 } : Card).dsp.ivls = {} :: {} :: []
    ∧ ({ card with dsp.ivls := [{}, {}], tim.slot := 7 } : Card).tim.slot = 7 ∧ card.dsp.ivls.length < 2 := by
  refine ⟨⟨rfl, by decide +kernel⟩, by decide +kernel⟩

/-! ### The fabric and the field side -/

/-- EmergencyStop, ResetInput, LaneHealthWatch. -/
theorem witness_fabric :
    (Live (on (flds card [(SAF_STATUS.ESTOP_A, 1)])) ∧ (flds card [(SAF_STATUS.ESTOP_A, 1)]).seqDone = false
      ∧ (flds card [(SAF_STATUS.ESTOP_A, 1)]).bit SAF_STATUS.ESTOP_A = true ∧ (flds card [(SAF_STATUS.ESTOP_A, 0), (SAF_STATUS.ESTOP_B, 0)]).bit SAF_STATUS.ESTOP_B = false)
    ∧ ({ card with saf.diff := some (0, true, false) } : Card).saf.diff.isSome = true
    ∧ (({ flds card [(SAF_STATUS.ARMED, 0)] with saf.openDone := true, saf.closedSince := some 0 } : Card).saf.closedSince.isSome = true
      ∧ (flds card [(SAF_STATUS.ARMED, 0)]).bit SAF_STATUS.ARMED = false) ∧ card.saf.openDone = false
    ∧ (card.seqDone = false ∧ card.bit SAF_STATUS.RESET_IN = false)
    ∧ (({ flds card [(SAF_STATUS.RESET_IN, 1)] with saf.resetSince := some (0, 0) } : Card).seqDone = false
      ∧ (flds card [(SAF_STATUS.RESET_IN, 1)]).bit SAF_STATUS.RESET_IN = true ∧ card.saf.stuck = false ∧ card.saf.resetSince = none)
    ∧ (({ card with saf.watching := true, saf.lh := 255 } : Card).saf.watching = true ∧ card.fld SAF_INPUT_CFG.LH_LIMIT ≤ 255 ∧ card.saf.watching = false) := by
  refine ⟨⟨rfl, by decide +kernel⟩, by decide +kernel⟩

/-- A string in a state of its sequence. -/
def seq (n st : Nat) (x : SafStr := {}) : Card := (flds card [(SAF_STR_STATE.STATE n, st)]).modSaf n fun _ => x

/-- ClosingSequence, OpeningSequence. -/
theorem witness_sequences :
    (Live (on (seq 4 1 { drivers := [0, 1, 2, 3, 4] })) ∧ ((seq 4 1 { drivers := [0, 1, 2, 3, 4] }).safStr 4).pulling = 1 :: [2, 0] ∧ (seq 4 1).safState 4 = 1)
    ∧ ((seq 1 2).safState 1 = 2 ∧ (seq 1 2).safState 1 ≠ 3) ∧ (seq 1 3).safState 1 = 3
    ∧ (((seq 4 3).safStr 4).vpm.natAbs ≤ 10 * (seq 4 3).fld SAF_SEQ_CFG.CLOSED_V)
    ∧ ¬(((seq 4 3 { vpm := 100000 }).safStr 4).vpm.natAbs ≤ 10 * (seq 4 3).fld SAF_SEQ_CFG.CLOSED_V)
    ∧ ((seq 4 5 { drivers := [0] }).safState 4 = 5 ∧ ((seq 4 5 { drivers := [0] }).safStr 4).drivers ≠ [])
    ∧ ((seq 1 6 { offDue := true }).safState 1 = 6 ∧ ((seq 1 6 { offDue := true }).safStr 1).offDue = true)
    ∧ (seq 1 0).safState 1 ≠ 5 ∧ (seq 1 0).safState 1 ≠ 6 := by
  refine ⟨⟨rfl, by decide +kernel⟩, by decide +kernel⟩

/-- A string that waits for its weld check, with cells of 4 V. -/
def weld (n : Nat) : Card :=
  (flds card [(SAF_STR_STATE.WELD_PEND n, 1), (SAF_STR_STATE.MEASURED n, 1), (CHN_CTRL.SAT_COUNT n, 32)])

/-- ContactorTests. -/
theorem witness_contactor_tests :
    (Live (on (weld 4)) ∧ (weld 4).bit (SAF_STR_STATE.WELD_PEND 4) = true ∧ ((weld 4).safStr 4).vch < 4 * (weld 4).fld SAF_WELD_CFG.WELD_V)
    ∧ ¬(((flds (weld 4) [(SAF_WELD_CFG.WELD_V, 0)]).safStr 4).vch < 4 * (flds (weld 4) [(SAF_WELD_CFG.WELD_V, 0)]).fld SAF_WELD_CFG.WELD_V
      ∨ (flds (weld 4) [(SAF_WELD_CFG.WELD_V, 0)]).bit (SAF_STR_STATE.MEASURED 4) = false)
    ∧ (({ card with tim.slot := 7, tim.frame := 152 } : Card).frame.toNat % 256 = 40 * (4 - 1) + 8 * 4
      ∧ ({ card with tim.slot := 7, tim.frame := 152 } : Card).safState 4 = 0 ∧ (card.safStr 4).testOp = none ∧ (card.safStr 4).drvOp = none
      ∧ (card.safStr 4).holds 4 = false)
    ∧ (({ seq 1 2 with tim.slot := 7 } : Card).frame.toNat % 256 = 40 * (1 - 1) + 8 * 0 ∧ (seq 1 2).safState 1 = 2)
    ∧ (∃ k ≤ 4, ({ drivers := [0, 1, 2, 3, 4], held := [0, 1, 2] } : SafStr).holds k = true)
    ∧ (((seq 4 0 { testOp := some (7, 2), drivers := [0] }).safStr 4).testOp = some (7, 2)
      ∧ ((seq 4 0 { testOp := some (7, 2), drivers := [0] }).safStr 4).drivers ≠ []) := by
  refine ⟨⟨rfl, by decide +kernel⟩, by decide +kernel⟩

/-- A card whose field link is up, with wire-break detection on every input. -/
def linked : Card := flds card [(FIO_STATUS.LINK_OK, 1), (FIO_DI_CFG.WB_EN 0, 1), (FIO_DI_CFG.WB_EN 15, 1)]

/-- FieldPoints, FieldLink. -/
theorem witness_field :
    (Live (on linked) ∧ linked.bit FIO_STATUS.LINK_OK = true ∧ linked.fio.powered = true ∧ card.bit FIO_STATUS.LINK_OK = false)
    ∧ (linked.bit (FIO_DI_CFG.WB_EN 15) = true ∧ linked.diBroken 15 = false)
    ∧ (∃ c : Card, c = linked.setFld FIO_STATUS.SUP_OK 1 ∧ c.bit FIO_STATUS.SUP_OK = true)
    ∧ (({ linked with fio.drive := 128 } : Card).fio.drive.getLsbD 7 = true ∧ linked.fio.drive.getLsbD 7 = false)
    ∧ (card.fio.powered = true ∧ card.fio.silent = false)
    ∧ (({ card with fio.table := some { actions := 0, timeout := 1, aos := [] } } : Card).fio.table = some { actions := 0, timeout := 1, aos := [] })
    ∧ ({ card with fio.powered := false } : Card).fio.powered = false := by
  refine ⟨⟨rfl, by decide +kernel⟩, by decide +kernel, ⟨_, rfl, by decide +kernel⟩, by decide +kernel⟩

/-- A CAN controller in a state. -/
def canIn (n st : Nat) : Card := flds linked [(CAN_STATUS.STATE n, st), (CAN_CTRL.EN n, 1)]

/-- A pigeonhole whose frame has been asked for. -/
def asking (n h : Nat) : Card := (flds (canIn n 2) [(CAN_HOLE_ID.EN n h, 1), (CAN_HOLE_ID.DIR n h, 1)]).modHole n h fun x => { x with asked := true, op := some 7 }

/-- CanTraffic, CanStates. -/
theorem witness_can :
    (Live (on (canIn 1 2)) ∧ (canIn 1 2).canState 1 = 2 ∧ (canIn 1 2).bit FIO_STATUS.LINK_OK = true ∧ (canIn 1 2).fio.powered = true
      ∧ (canIn 1 2).fld (CAN_CTRL.MODE 1) ≠ 2)
    ∧ ((flds (canIn 0 5) [(CAN_CTRL.WAKE_MODE 0, 2)]).canState 0 = 5 ∧ (flds (canIn 0 5) [(CAN_CTRL.WAKE_MODE 0, 2)]).wakeMatch 0 { id := 0 } = true)
    ∧ (canIn 1 0).canState 1 < 2 ∧ (canIn 1 4).canState 1 = 4 ∧ (canIn 0 3).canState 0 = 3 ∧ (canIn 0 1).canState 0 = 1
    ∧ ((asking 1 127).canSends 1 = true ∧ (asking 1 127).sendHole 1 = some 127 ∧ (asking 1 127).fld (CAN_CTRL.MODE 1) ≠ 2
      ∧ ((asking 1 127).hole 1 127).op = some 7)
    ∧ (((asking 0 0).hole 0 0).asked = true ∧ (flds (asking 0 0) [(CAN_CTRL.TX_TO 0, 1)]).fld (CAN_CTRL.TX_TO 0) ≤ framesSince 1 ((asking 0 0).hole 0 0).at')
    ∧ (flds (canIn 1 4) [(CAN_CTRL.AUTO_RECOVER 1, 1)]).bit (CAN_CTRL.AUTO_RECOVER 1) = true
    ∧ (flds (canIn 1 4) [(CAN_CTRL.AUTO_RECOVER 1, 0)]).bit (CAN_CTRL.AUTO_RECOVER 1) = false
    ∧ (((canIn 1 2).setOp 7 (some (opOf 0x94 (dsc [1, 0])))).sleepOps 1 0 ≠ [] ∧ ((canIn 1 2).setOp 7 (some (opOf 0x94 (dsc [1, 0])))).canState 1 = 2)
    ∧ (flds (canIn 1 5) [(CAN_CTRL.WAKE_MODE 1, 1)]).wakes 1 1 = true := by
  refine ⟨⟨rfl, by decide +kernel⟩, by decide +kernel⟩

/-! ### The host interface -/

/-- A card that masters the bus, with rings 1. -/
def ringCard : Card :=
  { (card.setSq 1 { state := 1, cq := 1, log2 := 6 }).setCq 1 { present := true, base := 4096, log2 := 6, phase := true } with hst.busMaster := true }

/-- A completion for ring 1. -/
def cpl : Cpl := { cq := 1, sq := 1, index := 0, tag := 7, result := 0, reason := 0, status := 0, owner := some 7 }

/-- HostMemoryWrites, CompletionEntries, SourcesAndVectors, VectorMessages. -/
theorem witness_host_memory :
    (ringCard.masters = true ∧ card.masters = false ∧ ringCard.hst.mem.wf noByte = true ∧ cpl.noEvent = false)
    ∧ ((({ present := true, log2 := 6, tail := 63 } : Cq).tail + 1) % 2 ^ 6 = 0)
    ∧ ((ringCard.setCq 1 { present := true, log2 := 6, tail := 63, head := 0 }).cq 1).isFull = true
    ∧ (({ ringCard with hst.waiting := [cpl] } : Card).hst.waiting.any fun w => w.cq == cpl.cq) = true
    ∧ ((ringCard.bit (HST_EV_MAP.EN 511)) = false ∧ (flds ringCard [(HST_EV_MAP.EN 0, 1)]).bit (HST_EV_MAP.EN 0) = true)
    ∧ ((ringCard.vec 63).masked = true ∧ ((ringCard.setVec 0 { masked := false }).vec 0).masked = false ∧ (ringCard.setVec 0 { masked := false }).modPassed 0 = true
      ∧ (flds (ringCard.setVec 0 { masked := false, last := some 0 }) [(HST_EV_CFG.MOD, 1)]).modPassed 0 = false)
    ∧ (Live (on (ringCard.setVec 63 { masked := false, merged := true })) ∧ ((ringCard.setVec 63 { masked := false, merged := true }).vec 63).merged = true
      ∧ (ringCard.setVec 63 { masked := false, merged := true }).modPassed 63 = true ∧ (ringCard.vec 0).merged = false)
    ∧ ((ringCard.setVec 1 { pending := true }).vec 1).pending = true := by
  refine ⟨by decide +kernel, by decide +kernel, by decide +kernel, by decide +kernel, by decide +kernel, by decide +kernel, ⟨rfl, by decide +kernel⟩, by decide +kernel⟩

/-- Doorbells, HostLink. -/
theorem witness_host_link :
    (Live (on ringCard) ∧ (ringCard.sq 1).state = 1 ∧ (63 : BitVec 32).toNat < 2 ^ (ringCard.sq 1).log2 ∧ 2 ^ (ringCard.sq 1).log2 ≤ (64 : BitVec 32).toNat)
    ∧ ((ringCard.cq 1).present = true ∧ (63 : BitVec 32).toNat < 2 ^ (ringCard.cq 1).log2)
    ∧ (({ ringCard with hst.dbNoRingInFrame := true } : Card).hst.dbNoRingInFrame = true ∧ ringCard.hst.dbNoRingInFrame = false)
    ∧ ((ringCard.sq 63).state = 0 ∧ (ringCard.cq 63).present = false)
    ∧ (ringCard.hst.ready = false ∧ ringCard.sys.restarting = false ∧ ({ ringCard with hst.ready := true } : Card).hst.ready = true)
    ∧ ((ringCard.hst.arriving.filter fun x => x.1 == 1) = (1, 0) :: [])
    ∧ (∃ o ∈ readers, ∃ p : Op, ((ringCard.setOp 7 (some { opOf o (dsc []) with data := [] })).op 7) = some p ∧ p.committed = false
      ∧ p.produced = false ∧ readers.contains p.opcode = true) := by
  refine ⟨⟨rfl, by decide +kernel⟩, by decide +kernel, by decide +kernel, by decide +kernel, by decide +kernel, by decide +kernel,
    0x30, by decide +kernel, opOf 0x30 (dsc []), by decide +kernel⟩

/-! ### Lanes, recorder, card power -/

/-- A card whose lane B is in a state. -/
def laneIn (l st : Nat) (c : Card := card) : Card := flds c [(laneFld l, st)]

/-- CoreEvents. -/
theorem witness_cores :
    (Live (on (laneIn 1 5)) ∧ (laneIn 1 5).lan.split = false ∧ (laneIn 1 5).lan.recovery = false ∧ 2 ≤ (laneIn 1 5).laneState 1
      ∧ (laneIn 1 5).laneState 1 ≤ 5 ∧ ∀ i < 3, (laneIn 1 5).coreState 1 i = 0)
    ∧ ((flds (laneIn 1 3) [(coreFld 1 2, 1)]).tim.slot = 0 ∧ (flds (laneIn 1 3) [(coreFld 1 2, 1)]).laneState 1 ≠ 6
      ∧ ((flds (laneIn 1 3) [(coreFld 1 2, 1)]).coresIn 1 0).head? = some 0 ∧ (flds (laneIn 1 3) [(coreFld 1 2, 1)]).coresIn 1 1 = [2]
      ∧ ∀ y ∈ ((flds (laneIn 1 3) [(coreFld 1 2, 1)]).lane 1).faults, y.1 = 2 → y.2 ≠ 0)
    ∧ ((laneIn 0 4).laneState 0 ≠ 0 ∧ (laneIn 0 4).laneState 0 ≠ 6 ∧ ((laneIn 0 4).core 0 2).stopped = false
      ∧ (((laneIn 0 4).core 0 2).csrGet 0x7C0).getLsbD 1 = false ∧ (((laneIn 0 4).core 0 2).csrGet 0x7C0).getLsbD 0 = false)
    ∧ ((({} : Core).csrSet 0x7C0 1).csrGet 0x7C0).getLsbD 0 = true
    ∧ ((((({} : Core).csrSet 0x7C0 1).csrSet 0x7C2 0x200000).set 2 80).trap true 3).pushValid = true
    ∧ (((({} : Core).csrSet 0x7C0 1).trap false 2).pushValid = false) := by
  refine ⟨⟨rfl, by decide +kernel⟩, by decide +kernel⟩

/-- ShadowLane, ImageEvents. -/
theorem witness_shadow :
    (({ laneIn 1 3 with lan.takeoverDue := some (1, 0) } : Card).lan.takeoverDue = some (1, 0) ∧ (laneIn 1 3).canTakeOver 1 = true
      ∧ (laneIn 1 3).laneState 1 = 3 ∧ (laneIn 1 2).canTakeOver 1 = false)
    ∧ ((1 ≠ (laneIn 1 2 (laneIn 0 4)).primary) ∧ (laneIn 1 2 (laneIn 0 4)).laneState 1 = 2 ∧ (laneIn 1 2 (laneIn 0 4)).upd = 0
      ∧ (laneIn 1 2 (laneIn 0 4)).laneState (laneIn 1 2 (laneIn 0 4)).primary = 4 ∧ ((laneIn 1 2 (laneIn 0 4)).lane 1).resetDue = false
      ∧ (laneIn 1 2 (laneIn 0 4)).lan.prepareDue = false)
    ∧ ((flds card [(LAN_STATUS.UPD, 2)]).upd = 2 ∧ (flds card [(LAN_STATUS.UPD, 2)]).fld LAN_CFG.SHADOW_MIN ≤ 65535 ∧ card.upd ≠ 2)
    ∧ (10000 ≤ ({ card with lan.bootFrames := 10000 } : Card).lan.bootFrames ∧ ({ card with lan.bootFrames := 9999 } : Card).lan.bootFrames < 10000)
    ∧ (((flds card [(imgFld 1, 1)]).setBank 1 { manifest := [1] }).imgState 1 = 1 ∧ ({ manifest := [1] } : Bank).missing = 0 ∧ ({ manifest := [1] } : Bank).badParts = [])
    ∧ (({ manifest := List.replicate 24 0 ++ [4] } : Bank).badParts = [2]) ∧ card.imgState card.standbyBank ≠ 1
    ∧ (({ card.setSatUpd 4 (some { op := 7, bank := 1, places := [32], step := 7 }) with tim.slot := 6 } : Card).satUpd 4
        = some { op := 7, bank := 1, places := [32], step := 7 } ∧ card.updPending 4 32 = false ∧ card.bit (CHN_STATUS.RESETTING 4) = false
      ∧ (∀ q ∈ places, q ≠ 32 → q ≤ card.satCount 4 → card.inService 4 q = true ∧ card.bit (CHN_SAT_STATE.STALE 4 q) = false)
      ∧ card.satUpd 4 = none) := by
  decide +kernel

/-- A network piece of 520 bytes. -/
def piece : Envelope :=
  { signed 2 0x20 { len := 520, keyId := 7, body := [5, 0, 0, 0, 1, 0, 7] ++ List.replicate 513 0 } with udp := 27001 }

/-- NETWORK_PARCEL. -/
theorem witness_piece :
    (flds plantCard [(LAN_CTRL.NET_UPD, 1), (LAN_CTRL.UPD_PORT, 27001)]).bit LAN_CTRL.NET_UPD = true
    ∧ piece.udp = (flds plantCard [(LAN_CTRL.NET_UPD, 1), (LAN_CTRL.UPD_PORT, 27001)]).fld LAN_CTRL.UPD_PORT ∧ leAt piece.body 6 1 ≤ 7
    ∧ (heard 0x20 piece (flds plantCard [(LAN_CTRL.NET_UPD, 1), (LAN_CTRL.UPD_PORT, 27001)])).plantCheck 0x20 piece = none := by
  decide +kernel

/-- A record of event 0x0002. -/
def rec0 : Record := { code := 2, sevflags := 2, pm := 0, p := [0, 0, 0, 0] }

/-- RecordIntake, RecordStoring, Origins. -/
theorem witness_recorder :
    (eventSev 0x0001 = some 4 ∧ eventSev 0xFFFF = none ∧ card.rcd.intake.length < 64
      ∧ 64 ≤ ({ card with rcd.intake := List.replicate 64 rec0 } : Card).rcd.intake.length)
    ∧ (Live (on { card with rcd.intake := [rec0] }) ∧ NoDeletes { card with rcd.intake := [rec0] } ∧ card.storeLeft = true
      ∧ firstFree 32768 card.rcd.store (fun k => !card.regionRetired (k / 128)) 0 = some 0 ∧ card.rcd.intake = [])
    ∧ (({ card with rcd.origin := some { frame := 0, pm := 0, buffer := 0, op := none } } : Card).rcd.origin.isSome = true)
    ∧ (card.rcd.origin = none ∧ (ringCard.setOp 7 (some (opOf 0xA2 (dsc [])))).originOp = some 7 ∧ (ringCard.setOp 7 (some (opOf 0xA2 (dsc [])))).masters = true)
    ∧ (64 < framesSince (65 : BitVec 32) 0 ∧ framesSince (64 : BitVec 32) 0 ≤ 64
      ∧ ∀ n ∈ strings, (([(1, 1, []), (1, 2, []), (1, 3, []), (1, 4, [])] : List (Nat × Nat × List Byte)).any fun x => x.1 == 1 && x.2.1 == n) = true) := by
  refine ⟨by decide +kernel, ⟨rfl, ?_, by decide +kernel⟩, by decide +kernel⟩
  unfold NoDeletes; decide +kernel

/-- ColdStarts, WarmResets, Feeds, Removal. -/
theorem witness_power :
    (card.sys.powered = true ∧ ({ card with sys.lostFeeds := [0, 1] } : Card).sys.lostFeeds.contains 0 = true
      ∧ ({ card with sys.powered := false } : Card).sys.lostFeeds.contains 0 = false)
    ∧ (({ card with sys.restarting := true, lan.recovery := true } : Card).sys.requestsEnded = 0 ∧ card.sys.sessionsEnded = [] ∧ card.sys.restarting = false)
    ∧ (({ card with sys.lostFeeds := [1] } : Card).sys.lostFeeds ≠ [] ∧ ({ card with sys.lostFeeds := [1] } : Card).sys.lostFeeds.contains 0 = false)
    ∧ (card.sys.lostFeeds = [] ∧ card.fld SYS_FEED_STAT.ACTIVE ≠ 1)
    ∧ ((flds { card with sys.lostFeeds := [0] } [(SYS_FEED_STAT.ACTIVE, 1)]).sys.lostFeeds.contains 0 = true
      ∧ (flds { card with sys.lostFeeds := [0] } [(SYS_FEED_STAT.ACTIVE, 1)]).bit SYS_FEED_STAT.HOLDUP = false)
    ∧ ((flds card [(SYS_FEED_STAT.RETURN_PEND, 1)]).bit SYS_FEED_STAT.RETURN_PEND = true ∧ card.bit SYS_FEED_STAT.RETURN_PEND = false)
    ∧ ((flds card [(SYS_FEED_STAT.HOLDUP, 1)]).bit SYS_FEED_STAT.HOLDUP = true)
    ∧ (card.fld SYS_SLOT.REMOVE = 0 ∧ (flds card [(SYS_SLOT.REMOVE, 2)]).fld SYS_SLOT.REMOVE = 2)
    ∧ ((flds card [(SYS_SLOT.REMOVE, 1)]).fld SYS_SLOT.REMOVE = 1 ∧ card.sys.drainPending = false
      ∧ ∀ n ∈ strings, ((flds card [(SYS_SLOT.REMOVE, 1)]).safState n = 0 ∨ (flds card [(SYS_SLOT.REMOVE, 1)]).safState n = 6)
        ∧ (flds card [(SYS_SLOT.REMOVE, 1)]).bit (SAF_STR_STATE.WELD_PEND n) = false) := by
  decide +kernel

/-! ### Sessions and debug -/

/-- A card with a session of a role open through J9, and the debug unit in a state. -/
def debugged (role st : Nat) : Card :=
  { card with sec.sessions := [{ id := 3, role := role, path := 1, opened := 0, last := 0 }], sec.dbg.j9 := some 3, sec.dbg.state := st }

/-- SessionEnds, TapInstructions, J9Authentication. -/
theorem witness_sessions :
    (card.session (BitVec.ofNat 16 1) = some { id := 1, role := 3, path := 0, opened := 0, last := 0 } ∧ card.session (BitVec.ofNat 16 2) = none
      ∧ card.fld SEC_CFG.LIFE * 3600 * 1000000000 = 43200000000000 ∧ card.fld SEC_CFG.IDLE * 60 * 1000000000 = 900000000000
      ∧ card.tim.clock = 0 ∧ card.blocked 8 = false)
    ∧ ((((debugged 3 0).tap 0).j9Session.any fun x => decide (x.role = 3)) = true ∧ ((debugged 3 0).tap 0).stringsDead = true)
    ∧ ((((debugged 2 0).tap 0).j9Session.any fun x => decide (x.role = 3)) = false ∧ ((flds card [(SAF_STR_STATE.STATE 4, 4)]).tap 0).stringsDead = false)
    ∧ (card.sec.dbg.j9 = none ∧ (debugged 3 0).sec.dbg.j9 = some 3)
    ∧ (((card.tap 8).key 7).role < 2 ∧ 2 ≤ ((card.tap 8).key 1).role ∧ (card.tap 8).blocked 1 = false ∧ (card.tap 8).sec.sessions.length < 16
      ∧ (({ card with sec.keys := [(0, { role := 3, blockEnd := 1 })] } : Card).tap 8).blocked 0 = true
      ∧ 16 ≤ (({ card with sec.sessions := List.replicate 16 { id := 9, role := 1, path := 0, opened := 0, last := 0 } } : Card).tap 8).sec.sessions.length)
    ∧ (((card.tap 9).sec.challenges.find? fun x => x.path == 1) = none)
    ∧ (({ card with tim.clock := 10000000000, sec.challenges := [{ handle := 0, slot := 7, path := 1, nonce := 0, issued := 0 }] } : Card).sec.challenges.find?
        fun x => x.path == 1 && decide (10000000000 ≤ x.issued + 10000000000)) = some { handle := 0, slot := 7, path := 1, nonce := 0, issued := 0 } := by
  decide +kernel

/-- DebugRefusals, DebugCommands: no session, each refusal, and each state in which a command is valid. -/
theorem witness_debug :
    (addressed {} card).j9Session = none
    ∧ (addressed {} (debugged 1 0)).j9Session = some { id := 3, role := 1, path := 1, opened := 0, last := 0 }
    ∧ memOk { addr := 0x200000 } = false ∧ memOk { addr := 0x1FFFFC } = true ∧ regOk { arg := 32 } = true ∧ regOk { arg := 31 } = true
    ∧ (({ debugged 3 2 with sec.dbg.busy := some 1 } : Card).sec.dbg.busy.isSome = true)
    ∧ ((debugged 3 1).sec.dbg.bps.set (fun _ => none) 7 (some (1, 4))).get (fun _ => none) 7 = some (1, 4) := by
  decide +kernel

/-- A debug command that is ready. -/
theorem witness_debug_ready (role st : Nat) (h : role ≤ 3) (x : DbgCmd) (z : x.zero = 0) : DebugReady x role true [st] (debugged 3 st) :=
  ⟨⟨{ id := 3, role := 3, path := 1, opened := 0, last := 0 }, rfl, h⟩, z, rfl, List.mem_singleton.mpr rfl, rfl⟩

/-! ### Registers -/

/-- RegisterWriteChecks, RejectedWrites, RegisterWriteValues, LockedWrites, Recurrences. -/
theorem witness_registers :
    (Sys2Proof.Machine.classOf 0x0FF0 = none)
    ∧ (∃ r, Sys2Proof.Machine.classOf TIM_PULSE_CFG = some r ∧ (0xFFFFFFFF : Word) &&& ~~~BitVec.ofNat 32 (r.rw ||| r.w1c ||| r.wo ||| r.ro) ≠ 0)
    ∧ (∃ r, Sys2Proof.Machine.classOf TIM_FRAME_CFG = some r ∧ WriteAccepted card r TIM_FRAME_CFG (card.reg TIM_FRAME_CFG))
    ∧ (∃ r, Sys2Proof.Machine.classOf TIM_STATUS = some r ∧ r.w1c.testBit TIM_STATUS.STEP_SEEN.lo = true ∧ WriteAccepted card r TIM_STATUS (BitVec.ofNat 32 (2 ^ TIM_STATUS.STEP_SEEN.lo))) := by
  refine ⟨by decide +kernel, ⟨_, rfl, by decide +kernel⟩, ⟨_, rfl, ?_⟩, ⟨_, rfl, by decide +kernel, ?_⟩⟩ <;> unfold WriteAccepted <;> decide +kernel

/-- A card whose registers a session has unlocked. -/
def unlocked : Card := { card with sec.unlock := some 1 }

/-- RejectedWrites, LockedWrites: a value out of range, one that another field forbids, a change that the lock holds. -/
theorem witness_rejected :
    (∃ r, Sys2Proof.Machine.classOf TIM_FRAME_CFG = some r ∧ unlocked.locked TIM_FRAME_CFG = false
      ∧ outOfRange r.base (TIM_FRAME_CFG.FRAME_SLEW.put (unlocked.reg TIM_FRAME_CFG) 401) = true
      ∧ (TIM_FRAME_CFG.FRAME_SLEW.put (unlocked.reg TIM_FRAME_CFG) 401) &&& ~~~BitVec.ofNat 32 (r.rw ||| r.w1c ||| r.wo ||| r.ro) = 0)
    ∧ (∃ r, Sys2Proof.Machine.classOf DSP_INTERVAL = some r ∧ unlocked.crossBad DSP_INTERVAL 7 = true)
    ∧ (∃ r, Sys2Proof.Machine.classOf TIM_FRAME_CFG = some r
      ∧ WriteAccepted card r TIM_FRAME_CFG (TIM_FRAME_CFG.FRAME_SLEW.put (card.reg TIM_FRAME_CFG) 399) ∧ card.sec.unlock = none
      ∧ (card.reg TIM_FRAME_CFG ^^^ TIM_FRAME_CFG.FRAME_SLEW.put (card.reg TIM_FRAME_CFG) 399) &&& BitVec.ofNat 32 r.rw ≠ 0)
    ∧ NoDeletes unlocked := by
  refine ⟨⟨_, rfl, by decide +kernel⟩, ⟨_, rfl, by decide +kernel⟩, ⟨_, rfl, ?_, by decide +kernel⟩, ?_⟩
  · unfold WriteAccepted; decide +kernel
  · unfold NoDeletes; decide +kernel

/-- RegisterCommands: the admin pair may be activated. -/
theorem witness_admin :
    (flds card [(HST_ASQ_BASE_LO.ADDR_LO, 1), (HST_ACQ_BASE_HI.ADDR_HI, 1)]).hst.adminActive = false
    ∧ (flds card [(HST_ASQ_BASE_LO.ADDR_LO, 1), (HST_ACQ_BASE_HI.ADDR_HI, 1)]).bit HST_CTRL.ADMIN_EN = false
    ∧ ¬((flds card [(HST_ASQ_BASE_LO.ADDR_LO, 1)]).fld HST_ASQ_BASE_LO.ADDR_LO = 0 ∧ card.fld HST_ASQ_BASE_HI.ADDR_HI = 0)
    ∧ ¬((flds card [(HST_ACQ_BASE_HI.ADDR_HI, 1)]).fld HST_ACQ_BASE_LO.ADDR_LO = 0
      ∧ (flds card [(HST_ACQ_BASE_HI.ADDR_HI, 1)]).fld HST_ACQ_BASE_HI.ADDR_HI = 0) := by
  decide +kernel

/-- The frames' lists of commands are not empty. -/
theorem witness_frame_lists :
    timeEvent .timNowSnapshot = true ∧ tileOfInstr (.rdred (op 0 0 0 0 255)) = some 255 ∧ hostEvent .pcieLinkUp = true ∧ fieldEvent .safeState = true
    ∧ canEvent .canTsSnapshot = true ∧ debugEvent .idcode = true := ⟨rfl, rfl, rfl, rfl, rfl, rfl⟩

/-! ### Effects of one step -/

/-- The card after a command. -/
def after' (i : Instr) (c : Card) : Card :=
  match exec i (on c) with
  | .next t => t.card
  | _ => c

/-- A tile whose lane 0 holds two words, and the tile after an instruction. -/
def ran (i : Instr) (u v : BitVec 18) (t : Tile := { run := 1 }) : Tile :=
  let c := card.setTile (card.phys 0) { t with mem := [(0x2001, u), (0x2002, v)] }
  (after' i c).tile (c.phys 0)

/-- R58, R62: a signed addition past the greatest S1.17 value holds the bound and sets ALU; the program counter goes on. -/
theorem test_add_clamps : ((ran (.add (op 1 0 1 2)) 0x1FFFF 1).word 0x2000, ((ran (.add (op 1 0 1 2)) 0x1FFFF 1).lane 0).flags,
    (ran (.add (op 1 0 1 2)) 0x1FFFF 1).pc) = (0x1FFFF, 4, 1) := by decide +kernel

/-- An unsigned subtraction below zero holds zero. -/
theorem test_sub_clamps : ((ran (.sub (op 0 0 1 2)) 1 2).word 0x2000, ((ran (.sub (op 0 0 1 2)) 1 2).lane 0).flags) = (0, 4) := by
  decide +kernel

/-- The products of S1.17 codes: −1 times −1 is 2^34 in the accumulator that V names. -/
theorem test_mac : (((ran (.mac (op 7 0 1 2)) 0x20000 0x20000).lane 0).acc1, ((ran (.mac (op 7 0 1 2)) 0x20000 0x20000).lane 0).acc0) = (2 ^ 34, 0) := by
  decide +kernel

/-- A comparison that fails clears P. -/
theorem test_cmps : ((ran (.cmps (op 0 0 1 2)) 1 1).lane 0).p ≠ ((ran (.cmps (op 0 0 1 2)) 1 2).lane 0).p := by decide +kernel

/-- LOOP counts down and branches until its counter is 1. -/
theorem test_loop : ((ran (.loop (op 0 3 1 5)) 0 0 { run := 1, l := [(3, 2)], pc := 9 }).pc, (ran (.loop (op 0 3 1 5)) 0 0 { run := 1, l := [(3, 1)], pc := 9 }).pc)
    = (517, 10) := by decide +kernel

/-- Fields outside the row trap. -/
theorem test_reserved : (ran (.neg (op 0 0 1 0)) 1 0).run = 3 := by decide +kernel

/-- After frame 2^32 − 1 comes slot 0 of frame 0. -/
theorem test_next_frame : (({ card with tim.slot := 7, tim.frame := 0xFFFFFFFF } : Card).nextFrame.tim.frame,
    ({ card with tim.slot := 7, tim.frame := 0xFFFFFFFF } : Card).nextFrame.tim.slot) = (0, 0) := by decide +kernel

/-- A CAN_SEND that has waited TX_TO frames ends. -/
theorem test_can_timeout : ((after' (.canSendTimeout 1 127) { flds (asking 1 127) [(CAN_CTRL.TX_TO 1, 5)] with tim.frame := 5 }).hole 1 127).asked = false
    ∧ ((after' (.canSendTimeout 1 127) { flds (asking 1 127) [(CAN_CTRL.TX_TO 1, 5)] with tim.frame := 4 }).hole 1 127).asked = true := by decide +kernel

/-- A request of 10 frames ends in the tenth. -/
theorem test_request_expiry :
    (after' (.requestExpiry 255) { card.putRequest 255 (some (req 3)) with tim.frame := 10 }).entry 255 = none
    ∧ ((after' (.requestExpiry 255) { card.putRequest 255 (some (req 3)) with tim.frame := 9 }).entry 255).isSome = true := by decide +kernel

/-- SHA-256 of "abc" (FIPS 180-4). -/
theorem test_sha256 : fromBe (sha256 [0x61, 0x62, 0x63]) = 0xBA7816BF8F01CFEA414140DE5DAE2223B00361A396177A9CB410FF61F20015AD := by
  decide +kernel

/-- HMAC-SHA-256 of RFC 4231, test case 2. -/
theorem test_hmac : fromBe (hmac [0x4a, 0x65, 0x66, 0x65] [0x77, 0x68, 0x61, 0x74, 0x20, 0x64, 0x6f, 0x20, 0x79, 0x61, 0x20, 0x77, 0x61, 0x6e, 0x74, 0x20, 0x66,
    0x6f, 0x72, 0x20, 0x6e, 0x6f, 0x74, 0x68, 0x69, 0x6e, 0x67, 0x3f]) = 0x5BDCC146BF60754E6A042426089575C75A003F089D2739839DEC58B964EC3843 := by
  decide +kernel

/-- CRC-32 of "123456789" is 0xCBF43926. -/
theorem test_crc32 : crc32 [0x31, 0x32, 0x33, 0x34, 0x35, 0x36, 0x37, 0x38, 0x39] = 0xCBF43926 := by decide +kernel

end Sys2Proof.Tests
end

/-! What a command that is an effect on the card comes to, and the obligations that follow from it: that every command
completes (O5), the snapshots and steps of time (O17), and the accounts (O33). -/

namespace Sys2Proof.Machine

open Sys2Proof.Claims

/-! ### Outcomes -/

/-- A command that is an effect under `State.on` makes that effect on a card with power. -/
theorem becomes_of_on {i : Instr} {s : State} {f : Card → Card} (hl : Live s) (h : exec i s = s.on f) :
    Becomes i s (f s.card) := by
  have hon : s.on f = .next { s with card := settle s.card (f s.card) } := State.on_powered s f hl
  exact h.trans hon

/-- A command that makes a card ends in that card, settled, with the queue as it was. -/
theorem gives_of_becomes {i : Instr} {s : State} {c : Card} {P : Card → Prop} (h : Becomes i s c)
    (hP : P (settle s.card c)) : Gives i s P := by
  refine ⟨_, h, rfl, ?_⟩
  dsimp only
  exact hP

/-- An effect of the card leaves the queue alone. -/
theorem State.on_next (s : State) (f : Card → Card) : ∃ t, s.on f = .next t ∧ t.pending = s.pending := by
  refine ⟨_, rfl, ?_⟩
  split <;> rfl

/-! ### O5 -/

theorem everyCommandCompletes : EveryCommandCompletes := by
  intro i s
  rcases exec_form i s with ⟨_, f, hf⟩ | ⟨_, f, hf⟩
  · rw [hf]
    exact State.on_next s f
  · exact ⟨_, hf, rfl⟩

theorem withoutPower : WithoutPower := by
  intro i s hp hi
  rcases exec_form i s with ⟨_, f, hf⟩ | ⟨hpow, _⟩
  · rw [hf, State.on_unpowered s f hp]
  · rw [hi] at hpow
    cases hpow

/-- Settles O5: every command is an effect on the card, and only the power events act without power (`exec_form`). -/
theorem commandsComplete : Obligations.CommandsComplete := ⟨everyCommandCompletes, withoutPower⟩

/-! ### O17 -/

/-- A field of a register that is neither live nor of the blocks HST and REC is as the command left it. -/
theorem fld_settle (old new : Card) (f : Fld) (h1 : f.off / 0x1000 ≠ 10) (h2 : f.off / 0x1000 ≠ 12) (h : f.off ∉ liveRegs) :
    (settle old new).fld f = new.fld f := by
  simp [Card.fld, reg_settle old new h1 h2 h]

/-- The two halves of a 64-bit value. -/
theorem halves (v : Nat) (h : v < 2 ^ 64) : v % 2 ^ 32 + 2 ^ 32 * (v / 2 ^ 32 % 2 ^ 32) = v := by omega

/-- Two words of different registers, written one after the other, both read back. -/
theorem fld_two_words (c : Card) {a b : Nat} (v w : Nat) (h : a ≠ b) :
    ((c.setFld ⟨a, 0, 32⟩ v).setFld ⟨b, 0, 32⟩ w).fld ⟨a, 0, 32⟩ = v % 2 ^ 32
      ∧ ((c.setFld ⟨a, 0, 32⟩ v).setFld ⟨b, 0, 32⟩ w).fld ⟨b, 0, 32⟩ = w % 2 ^ 32 := by
  rw [Card.fld_setFld_other _ _ _ _ h, Card.fld_setFld_same _ _ _ (by simp), Card.fld_setFld_same _ _ _ (by simp)]
  exact ⟨rfl, rfl⟩

/-- The holding registers of the time unit show no live contents, and lie in its block. -/
theorem fld_settle_timeSnapshot (old new : Card) : ∀ f ∈ [TIM_NOW_LO.NOW, TIM_NOW_HI.NOW, TIM_FRAME_PM_LO.FRAME_PM,
    TIM_FRAME_PM_HI.FRAME_PM, TIM_FRAME_NUM.FRAME_NUM], (settle old new).fld f = new.fld f := by
  intro f hf
  have hout : ∀ f ∈ [TIM_NOW_LO.NOW, TIM_NOW_HI.NOW, TIM_FRAME_PM_LO.FRAME_PM, TIM_FRAME_PM_HI.FRAME_PM,
      TIM_FRAME_NUM.FRAME_NUM], f.off / 0x1000 ≠ 10 ∧ f.off / 0x1000 ≠ 12 ∧ f.off ∉ liveRegs := by decide +kernel
  obtain ⟨h10, h12, hlive⟩ := hout f hf
  exact fld_settle old new f h10 h12 hlive

theorem exec_timNowSnapshot (s : State) : exec .timNowSnapshot s = execTimNowSnapshot s := rfl

theorem exec_timFramePmSnapshot (s : State) : exec .timFramePmSnapshot s = execTimFramePmSnapshot s := rfl

theorem exec_plantTimeStep (s : State) : exec .plantTimeStep s = execPlantTimeStep s := rfl

theorem timeSnapshots : TimeSnapshots := by
  constructor
  · intro s hl
    have h := becomes_of_on hl (exec_timNowSnapshot s)
    apply gives_of_becomes h
    obtain ⟨hlo, hhi⟩ := fld_two_words (s.card.jrnFree 0x06) (a := TIM_NOW_LO) (b := TIM_NOW_HI) s.card.pm
      (s.card.pm / 2 ^ 32) (by decide)
    rw [fld_settle_timeSnapshot _ _ TIM_NOW_LO.NOW (by simp), fld_settle_timeSnapshot _ _ TIM_NOW_HI.NOW (by simp)]
    exact (congrArg₂ (fun a b => a + 2 ^ 32 * b) hlo hhi).trans (halves _ (Nat.mod_lt _ (by decide)))
  · intro s hl hpm
    have h := becomes_of_on hl (exec_timFramePmSnapshot s)
    apply gives_of_becomes h
    obtain ⟨hlo, hhi⟩ := fld_two_words (s.card.jrnFree 0x06) (a := TIM_FRAME_PM_LO) (b := TIM_FRAME_PM_HI) s.card.tim.framePm
      (s.card.tim.framePm / 2 ^ 32) (by decide)
    rw [fld_settle_timeSnapshot _ _ TIM_FRAME_PM_LO.FRAME_PM (by simp), fld_settle_timeSnapshot _ _ TIM_FRAME_PM_HI.FRAME_PM (by simp),
      fld_settle_timeSnapshot _ _ TIM_FRAME_NUM.FRAME_NUM (by simp), Card.fld_setFld_same _ _ _ (by decide),
      Card.fld_setFld_other _ TIM_FRAME_NUM.FRAME_NUM TIM_FRAME_PM_LO.FRAME_PM _ (by decide),
      Card.fld_setFld_other _ TIM_FRAME_NUM.FRAME_NUM TIM_FRAME_PM_HI.FRAME_PM _ (by decide)]
    exact ⟨(congrArg₂ (fun a b => a + 2 ^ 32 * b) hlo hhi).trans (halves _ hpm), Nat.mod_eq_of_lt s.card.frame.isLt⟩

theorem plantTimeSteps : PlantTimeSteps := by
  intro s d hl hslot hdue
  have h := becomes_of_on hl (exec_plantTimeStep s)
  rw [hdue] at h
  dsimp only at h
  rwa [if_neg (not_not.mpr hslot)] at h

/-- Settles O17: a snapshot writes the halves of a 64-bit value into words that nothing after the command touches; a step
that is due in slot 7 is the effect of its command. -/
theorem timeReadingsAndSteps : Obligations.TimeReadingsAndSteps := ⟨timeSnapshots, plantTimeSteps⟩

/-! ### O33 -/

theorem exec_accountCommit (s : State) : exec .accountCommit s = execAccountCommit s := rfl

theorem exec_intervalClose (s : State) : exec .intervalClose s = execIntervalClose s := rfl

theorem exec_dspHwmSnapshot (s : State) : exec .dspHwmSnapshot s = execDspHwmSnapshot s := rfl

theorem exec_dspAcctSnapshot (s : State) : exec .dspAcctSnapshot s = execDspAcctSnapshot s := rfl

/-- A register of the dispatcher's block is as the command left it. -/
theorem fld_settle_dsp (old new : Card) (f : Fld) (h : f.off / 0x1000 = 7) : (settle old new).fld f = new.fld f :=
  fld_settle_block old new f (by omega)

theorem accountCommit_due (s : State) (hl : Live s) (h : 1000 ≤ s.card.dsp.since) :
    Becomes .accountCommit s s.card.commitAccounts := by
  have hb := becomes_of_on hl (exec_accountCommit s)
  rwa [if_neg (Nat.not_lt.mpr h)] at hb

theorem accountCommit_early (s : State) (hl : Live s) (h : s.card.dsp.since < 1000) : Becomes .accountCommit s s.card := by
  have hb := becomes_of_on hl (exec_accountCommit s)
  rwa [if_pos h] at hb

theorem intervalClose_none (s : State) (hl : Live s) (h : s.card.tim.slot ≠ 7 ∨ s.card.dsp.ivls.length < 2) :
    Becomes .intervalClose s s.card := by
  have hb := becomes_of_on hl (exec_intervalClose s)
  split at hb
  · exact hb
  · rename_i hslot
    split at hb
    · rename_i x y r hivls
      rcases h with h | h
      · exact absurd h hslot
      · rw [hivls] at h
        simp at h
    · exact hb

theorem dspHwmSnapshot_shows (s : State) (hl : Live s) : Gives .dspHwmSnapshot s fun c' =>
    c'.fld DSP_HWM_LO.HWM = s.card.dsp.hwm % 2 ^ 32 ∧ c'.fld DSP_HWM_HI.HWM = s.card.dsp.hwm / 2 ^ 32 % 2 ^ 32 := by
  have h := becomes_of_on hl (exec_dspHwmSnapshot s)
  apply gives_of_becomes h
  rw [fld_settle_dsp _ _ DSP_HWM_LO.HWM (by decide), fld_settle_dsp _ _ DSP_HWM_HI.HWM (by decide)]
  exact fld_two_words (s.card.jrnFree 0x06) s.card.dsp.hwm (s.card.dsp.hwm / 2 ^ 32) (by decide)

/-- In slot 7 a closed interval becomes a record, with a gap record where whole intervals passed, and is committed (R255, R258). -/
theorem intervalClose_closes (s : State) (x y : Ivl) (r : List Ivl) (hl : Live s) (hslot : s.card.tim.slot = 7)
    (hivls : s.card.dsp.ivls = x :: y :: r) :
    let c := { s.card with dsp.ivls := y :: r }.putRecord x.start ((x.stop - x.start) / second) x.flags x.frames x.mwh
    let c := (c.record 0x7010 ([pN s.card.dsp.seq, pN x.flags] ++ pLoHi (code 64 x.start))).fire 90
    let g := (c.putRecord x.stop ((y.start - x.stop) / second) 2 0 []).stick DSP_STICKY.GAP
    Becomes .intervalClose s
      (if y.skipped = 0 then c.commitAccounts else (g.record 0x7013 [pN c.dsp.seq, pN y.skipped]).commitAccounts) := by
  have hb := becomes_of_on hl (exec_intervalClose s)
  rw [if_neg (not_not.mpr hslot), hivls] at hb
  intro c₁ c g
  have hc := apply_ite Card.commitAccounts (y.skipped = 0) c (g.record 0x7013 [pN c.dsp.seq, pN y.skipped])
  rw [← hc]
  exact hb

/-- Steps of a list that keep a property keep it in the whole. -/
theorem each_keeps {α : Type} {step : Card → α → Card} {P : Card → Prop} (l : List α)
    (h : ∀ c, ∀ y ∈ l, P c → P (step c y)) (c : Card) (hc : P c) : P (c.each l step) :=
  List.foldlRecOn l step hc fun c hc y hy => h c y hy hc

/-- Where the step of `x` establishes `P` from `I`, every step keeps `I` and no other step undoes `P`, a list with `x` ends
in `P`. -/
theorem each_establishes {α : Type} {step : Card → α → Card} {I P : Card → Prop} {x : α} (l : List α) (hx : x ∈ l)
    (hI : ∀ c y, I c → I (step c y)) (hset : ∀ c, I c → P (step c x))
    (hkeep : ∀ c, ∀ y ∈ l, y ≠ x → P c → P (step c y)) (c : Card) (hc : I c) : P (c.each l step) := by
  obtain ⟨before, after, rfl⟩ := List.append_of_mem hx
  have hbefore : I (c.each before step) := each_keeps before (fun c y _ => hI c y) c hc
  have hthere : I ((c.each before step).each [x] step) ∧ P ((c.each before step).each [x] step) :=
    ⟨hI _ x hbefore, hset _ hbefore⟩
  have hafter := each_keeps (P := fun c => I c ∧ P c) after (step := step)
    (fun c y hy ⟨hi, hp⟩ => ⟨hI c y hi, by
      by_cases hyx : y = x
      · rw [hyx]; exact hset c hi
      · exact hkeep c y (by simp [hy]) hyx hp⟩) _ hthere
  simpa only [Card.each, List.foldl_append, List.foldl_cons, List.foldl_nil] using hafter.2

/-- The words of a counter of the snapshot: counter `k` of string `n`, low and high. -/
def ShowsCounter (n k v : Nat) (c : Card) : Prop :=
  c.fld (DSP_ACCT_WORD.WORD n (2 * k)) = v % 2 ^ 32 ∧ c.fld (DSP_ACCT_WORD.WORD n (2 * k + 1)) = v / 2 ^ 32 % 2 ^ 32

/-- Counter `k` of string `n` as of the last frame boundary, written into its words. -/
def Card.showCounter (c : Card) (n k : Nat) : Card :=
  let v := c.dsp.shown.get (fun _ => 0) (4 * (n - 1) + k)
  (c.setFld (DSP_ACCT_WORD.WORD n (2 * k)) v).setFld (DSP_ACCT_WORD.WORD n (2 * k + 1)) (v / 2 ^ 32)

@[simp] theorem Card.showCounter_dsp (c : Card) (n k : Nat) : (c.showCounter n k).dsp = c.dsp := rfl

theorem showsCounter_showCounter (c : Card) (n k : Nat) :
    ShowsCounter n k (c.dsp.shown.get (fun _ => 0) (4 * (n - 1) + k)) (c.showCounter n k) :=
  fld_two_words c _ _ (by simp only [DSP_ACCT_WORD]; omega)

/-- Writing one counter leaves the words of another as they are. -/
theorem ShowsCounter.showCounter_other {c : Card} {n k v : Nat} (h : ShowsCounter n k v c) {m j : Nat} (hn : StringNo n)
    (hm : StringNo m) (hk : k < 4) (hj : j < 4) (hne : m ≠ n ∨ j ≠ k) : ShowsCounter n k v (c.showCounter m j) := by
  obtain ⟨hn1, hn4⟩ := hn
  obtain ⟨hm1, hm4⟩ := hm
  have hoff : ∀ a < 2, ∀ b < 2, DSP_ACCT_WORD n (2 * k + a) ≠ DSP_ACCT_WORD m (2 * j + b) := by
    intro a ha b hb
    simp only [DSP_ACCT_WORD]
    omega
  have hother : ∀ a < 2, (c.showCounter m j).fld (DSP_ACCT_WORD.WORD n (2 * k + a)) = c.fld (DSP_ACCT_WORD.WORD n (2 * k + a)) := by
    intro a ha
    exact (Card.fld_setFld_other _ (DSP_ACCT_WORD.WORD m (2 * j + 1)) _ _ (hoff a ha 1 (by decide))).trans
      (Card.fld_setFld_other _ (DSP_ACCT_WORD.WORD m (2 * j)) _ _ (hoff a ha 0 (by decide)))
  exact ⟨(hother 0 (by decide)).trans h.1, (hother 1 (by decide)).trans h.2⟩

/-- Writing all 16 counters shows each of them. -/
theorem showsCounter_all (c : Card) (n k : Nat) (hn : StringNo n) (hk : k < 4) :
    ShowsCounter n k (c.dsp.shown.get (fun _ => 0) (4 * (n - 1) + k))
      (c.each strings fun c s => c.each [0, 1, 2, 3] fun c k => c.showCounter s k) := by
  have hstrings : ∀ m ∈ strings, StringNo m := by simp [strings, StringNo]
  have hcounters : ∀ j ∈ [0, 1, 2, 3], j < 4 := by decide
  refine each_establishes (I := fun d => d.dsp = c.dsp) (x := n) strings ?_ ?_ ?_ ?_ c rfl
  · obtain ⟨h1, h4⟩ := hn
    simp only [strings, List.mem_cons, List.not_mem_nil, or_false]
    omega
  · intro d m hd
    exact each_keeps (P := fun d => d.dsp = c.dsp) _ (fun d j _ hd => (d.showCounter_dsp m j).trans hd) d hd
  · intro d hd
    refine each_establishes (I := fun d => d.dsp = c.dsp) (x := k) _ ?_ (fun d j hd => (d.showCounter_dsp n j).trans hd) ?_ ?_ d hd
    · simp only [List.mem_cons, List.not_mem_nil, or_false]
      omega
    · intro d hd
      rw [← hd]
      exact showsCounter_showCounter d n k
    · intro d j hj hjk h
      exact h.showCounter_other hn hn hk (hcounters j hj) (Or.inr hjk)
  · intro d m hm hmn h
    exact each_keeps _ (fun d j hj h => h.showCounter_other hn (hstrings m hm) hk (hcounters j hj) (Or.inl hmn)) d h

/-- The words below the counters' are as they were. -/
theorem fld_showCounters_below (c : Card) (f : Fld) (hf : f.off < 0x7080) :
    (c.each strings fun c s => c.each [0, 1, 2, 3] fun c k => c.showCounter s k).fld f = c.fld f := by
  have hword : ∀ n w, f.off ≠ (DSP_ACCT_WORD.WORD n w).off := by
    intro n w
    simp only [DSP_ACCT_WORD.WORD, DSP_ACCT_WORD]
    omega
  have hone : ∀ (d : Card) (n k : Nat), (d.showCounter n k).fld f = d.fld f := fun d n k =>
    (Card.fld_setFld_other _ (DSP_ACCT_WORD.WORD n (2 * k + 1)) f _ (hword n _)).trans
      (Card.fld_setFld_other d (DSP_ACCT_WORD.WORD n (2 * k)) f _ (hword n _))
  refine each_keeps (P := fun d => d.fld f = c.fld f) _ (fun d n _ hd => ?_) c rfl
  exact each_keeps (P := fun d => d.fld f = c.fld f) _ (fun d k _ hd => (hone d n k).trans hd) d hd

theorem dspAcctSnapshot_shows (s : State) (hl : Live s) : Gives .dspAcctSnapshot s fun c' =>
      c'.fld DSP_ACCT_PM_LO.ACCT_PM = s.card.dsp.shownPm % 2 ^ 32
      ∧ c'.fld DSP_ACCT_PM_HI.ACCT_PM = s.card.dsp.shownPm / 2 ^ 32 % 2 ^ 32
      ∧ ∀ n, StringNo n → ∀ k < 4,
          c'.fld (DSP_ACCT_WORD.WORD n (2 * k)) = s.card.dsp.shown.get (fun _ => 0) (4 * (n - 1) + k) % 2 ^ 32
          ∧ c'.fld (DSP_ACCT_WORD.WORD n (2 * k + 1))
            = s.card.dsp.shown.get (fun _ => 0) (4 * (n - 1) + k) / 2 ^ 32 % 2 ^ 32 := by
  have h := becomes_of_on hl (exec_dspAcctSnapshot s)
  apply gives_of_becomes h
  obtain ⟨hlo, hhi⟩ := fld_two_words (s.card.jrnFree 0x06) (a := DSP_ACCT_PM_LO) (b := DSP_ACCT_PM_HI) s.card.dsp.shownPm
    (s.card.dsp.shownPm / 2 ^ 32) (by decide)
  refine ⟨?_, ?_, fun n hn k hk => ?_⟩
  · rw [fld_settle_dsp _ _ DSP_ACCT_PM_LO.ACCT_PM (by decide)]
    refine (fld_showCounters_below _ DSP_ACCT_PM_LO.ACCT_PM (by decide)).trans ?_
    rw [Card.fld_setFld_other _ _ DSP_ACCT_PM_LO.ACCT_PM _ (by decide),
      Card.fld_setFld_other _ _ DSP_ACCT_PM_LO.ACCT_PM _ (by decide)]
    exact hlo
  · rw [fld_settle_dsp _ _ DSP_ACCT_PM_HI.ACCT_PM (by decide)]
    refine (fld_showCounters_below _ DSP_ACCT_PM_HI.ACCT_PM (by decide)).trans ?_
    rw [Card.fld_setFld_other _ _ DSP_ACCT_PM_HI.ACCT_PM _ (by decide),
      Card.fld_setFld_other _ _ DSP_ACCT_PM_HI.ACCT_PM _ (by decide)]
    exact hhi
  · have hblock : ∀ w < 8, (DSP_ACCT_WORD.WORD n w).off / 0x1000 = 7 := by
      obtain ⟨h1, h4⟩ := hn
      intro w hw
      simp only [DSP_ACCT_WORD.WORD, DSP_ACCT_WORD]
      omega
    rw [fld_settle_dsp _ _ _ (hblock _ (by omega)), fld_settle_dsp _ _ _ (hblock _ (by omega))]
    exact showsCounter_all _ n k hn hk

/-- Settles O33: each command of the accounts is the effect that the clause states; the snapshots' words lie apart, so that
the last write of each stays (`each_establishes`). -/
theorem accounts : Obligations.Accounts :=
  ⟨accountCommit_due, accountCommit_early, intervalClose_closes, intervalClose_none, dspHwmSnapshot_shows,
    dspAcctSnapshot_shows⟩

end Sys2Proof.Machine

/-! What follows a command where no ring waits for its deletion; frames of one block; the frame of the time unit's events
and of the tile instructions (O59). -/

namespace Sys2Proof.Machine

open Sys2Proof.Claims

/-! ### What follows a command, where no ring waits for its deletion -/

/-- No ring waits for its deletion, so none is deleted. -/
theorem finishDeletes_of_noDeletes (c : Card) (h : NoDeletes c) : c.finishDeletes = c := by
  unfold Card.finishDeletes
  refine List.foldlRecOn (motive := fun d => d = c) c.hst.sqs _ rfl fun d hd x hx => ?_
  have hx3 : x.2.state ≠ 3 := h x hx
  simp [hx3, hd]

theorem settle_of_noDeletes (old new : Card) (h : NoDeletes new) :
    settle old new = (fireSummaries old new.takeHanded).showLive := by
  unfold settle
  rw [finishDeletes_of_noDeletes new h]

theorem hostKept_refl (c : Card) : HostKept c c := ⟨rfl, rfl, rfl, rfl⟩

theorem hostKept_trans {a b c : Card} (h : HostKept a b) (k : HostKept b c) : HostKept a c := by
  obtain ⟨hmem, hops, hsqs, hcqs⟩ := h
  obtain ⟨kmem, kops, ksqs, kcqs⟩ := k
  exact ⟨kmem.trans hmem, kops.trans hops, ksqs.trans hsqs, kcqs.trans hcqs⟩

theorem hostKept_noDeletes {c c' : Card} (h : HostKept c c') (hc : NoDeletes c) : NoDeletes c' := by
  obtain ⟨_, _, hsqs, _⟩ := h
  unfold NoDeletes
  rw [hsqs]
  exact hc

theorem hostKept_foldl {α : Type} (l : List α) (f : Card → α → Card) (h : ∀ c x, HostKept c (f c x)) (c : Card) :
    HostKept c (l.foldl f c) :=
  List.foldlRecOn (motive := HostKept c) l f (hostKept_refl c) fun d hd x _ => hostKept_trans hd (h d x)

/-- A firing sets a pending bit and its vector's record. -/
theorem hostKept_fire (c : Card) (n : Nat) : HostKept c (c.fire n) := by
  have hvec : ∀ (d : Card) v x, HostKept d (d.setVec v x) := fun d v x => ⟨rfl, rfl, rfl, rfl⟩
  have hfire : ∀ (d : Card) v, HostKept d (d.fireVec v) := by
    intro d v
    unfold Card.fireVec Card.sendVec
    dsimp only
    split
    · exact hvec d v _
    · split
      · exact hvec d v _
      · exact hvec d v _
  have hpend : HostKept c (c.setFld ⟨HST_EV_PEND (n / 32), n % 32, 1⟩ 1) := ⟨rfl, rfl, rfl, rfl⟩
  unfold Card.fire
  split
  · exact hostKept_refl c
  · dsimp only
    split
    · exact hostKept_trans hpend (hfire _ _)
    · exact hpend

theorem hostKept_recordAt (c : Card) (pm ev : Nat) (ps : List Word) : HostKept c (c.recordAt pm ev ps) := by
  unfold Card.recordAt
  split
  · exact hostKept_refl c
  · exact ⟨rfl, rfl, rfl, rfl⟩

theorem hostKept_record (c : Card) (ev : Nat) (ps : List Word) : HostKept c (c.record ev ps) := hostKept_recordAt c _ ev ps

theorem hostKept_intakeOne (c : Card) (r : Record) : HostKept c (c.intakeOne r) := by
  unfold Card.intakeOne
  split
  · exact ⟨rfl, rfl, rfl, rfl⟩
  · exact ⟨rfl, rfl, rfl, rfl⟩

/-- The intake is the recorder's. -/
theorem hostKept_takeHanded (c : Card) : HostKept c c.takeHanded := by
  unfold Card.takeHanded Card.each
  dsimp only
  refine hostKept_trans (b := { c with rcd.handed := [] }) ⟨rfl, rfl, rfl, rfl⟩ ?_
  split
  · exact hostKept_foldl _ _ hostKept_intakeOne _
  · exact hostKept_trans ⟨rfl, rfl, rfl, rfl⟩ (hostKept_foldl _ _ hostKept_intakeOne _)

theorem hostKept_fireSummaries (old c : Card) : HostKept c (fireSummaries old c) := by
  unfold fireSummaries
  refine hostKept_foldl _ _ (fun d b => ?_) c
  split
  · exact hostKept_fire d _
  · exact hostKept_refl d

theorem hostKept_showLive (c : Card) : HostKept c c.showLive := by
  have hhst : c.showLive.hst = c.hst := Card.showLive_keeps c Card.hst fun _ _ _ => rfl
  refine ⟨?_, ?_, ?_, ?_⟩
  · rw [hhst]
  · rw [hhst]
  · rw [hhst]
  · rw [hhst]

/-- What follows a command leaves host memory, the operations and the rings alone, where no ring waits for its deletion. -/
theorem hostKept_settle (old new : Card) (h : NoDeletes new) : HostKept new (settle old new) := by
  rw [settle_of_noDeletes old new h]
  exact hostKept_trans (hostKept_takeHanded new) (hostKept_trans (hostKept_fireSummaries old _) (hostKept_showLive _))

/-! ### Frames of a block -/

/-- Command `i` is an effect that relates the card before to the card after by `R`. -/
def EffectIn (R : Card → Card → Prop) (i : Instr) : Prop := ∀ s, ∃ f, exec i s = s.on f ∧ ∀ c, R c (f c)

/-- Such a command leaves the state as it is, or settles a card that `R` relates to the one before. -/
theorem EffectIn.settled {R : Card → Card → Prop} {i : Instr} (h : EffectIn R i) {s t : State} (ht : exec i s = .next t) :
    t.card = s.card ∨ ∃ c, R s.card c ∧ t.card = settle s.card c := by
  obtain ⟨f, hf, hR⟩ := h s
  rw [hf] at ht
  cases hp : s.card.sys.powered
  · rw [State.on_unpowered s f hp] at ht
    exact Or.inl (by rw [Host.Outcome.next.inj ht])
  · rw [State.on_powered s f hp] at ht
    exact Or.inr ⟨f s.card, hR s.card, by rw [← Host.Outcome.next.inj ht]⟩

/-- The registers of block `b`, the host interface's firings and the recorder may differ; of the structures that the frames
of the time unit and of the tiles name, all but `tim` and `til` are as they were. -/
structure BlockOnly (b : Nat) (c c' : Card) : Prop where
  strings : StringsKept c c'
  host : HostKept c c'
  regs : RegsKept [b, 10, 12] c c'
  sys : c'.sys = c.sys
  sec : c'.sec = c.sec
  lan : c'.lan = c.lan
  thm : c'.thm = c.thm
  fio : c'.fio = c.fio
  can : c'.can = c.can

theorem BlockOnly.refl (b : Nat) (c : Card) : BlockOnly b c c :=
  ⟨⟨rfl, rfl, rfl, rfl, rfl, rfl⟩, hostKept_refl c, fun _ _ _ => rfl, rfl, rfl, rfl, rfl, rfl, rfl⟩

theorem BlockOnly.trans {b : Nat} {x y z : Card} (h : BlockOnly b x y) (k : BlockOnly b y z) : BlockOnly b x z := by
  obtain ⟨hchn, hest, himp, hcnv, hsaf, hdsp⟩ := h.strings
  obtain ⟨kchn, kest, kimp, kcnv, ksaf, kdsp⟩ := k.strings
  exact ⟨⟨kchn.trans hchn, kest.trans hest, kimp.trans himp, kcnv.trans hcnv, ksaf.trans hsaf, kdsp.trans hdsp⟩,
    hostKept_trans h.host k.host, fun off hl hb => (k.regs off hl hb).trans (h.regs off hl hb), k.sys.trans h.sys,
    k.sec.trans h.sec, k.lan.trans h.lan, k.thm.trans h.thm, k.fio.trans h.fio, k.can.trans h.can⟩

/-- What only the host side may change. -/
theorem BlockOnly.of_hostOnly (b : Nat) {c c' : Card} (h : HostOnly c c') (k : HostKept c c') : BlockOnly b c c' := by
  refine ⟨⟨h.chn, h.est, h.imp, h.cnv, h.saf, h.dsp⟩, k, fun off _ hb => ?_, h.sys, h.sec, h.lan, h.thm, h.fio, h.can⟩
  simp only [List.mem_cons, List.not_mem_nil, or_false, not_or] at hb
  obtain ⟨_, h10, h12⟩ := hb
  exact h.reg off h10 h12

theorem BlockOnly.record (b : Nat) (c : Card) (ev : Nat) (ps : List Word) : BlockOnly b c (c.record ev ps) :=
  .of_hostOnly b (hostOnly_record c ev ps) (hostKept_record c ev ps)

theorem BlockOnly.fire (b : Nat) (c : Card) (n : Nat) : BlockOnly b c (c.fire n) :=
  .of_hostOnly b (hostOnly_fire c n) (hostKept_fire c n)

theorem BlockOnly.jrnFree (b : Nat) (c : Card) (t : Nat) : BlockOnly b c (c.jrnFree t) :=
  ⟨⟨rfl, rfl, rfl, rfl, rfl, rfl⟩, ⟨rfl, rfl, rfl, rfl⟩, fun _ _ _ => rfl, rfl, rfl, rfl, rfl, rfl, rfl⟩

/-- A write of a register of the block. -/
theorem BlockOnly.setReg {b : Nat} (c : Card) {off : Nat} (v : Word) (h : off / 0x1000 = b) : BlockOnly b c (c.setReg off v) := by
  refine ⟨⟨rfl, rfl, rfl, rfl, rfl, rfl⟩, ⟨rfl, rfl, rfl, rfl⟩, fun o _ hb => ?_, rfl, rfl, rfl, rfl, rfl, rfl⟩
  refine Card.reg_setReg_other c v ?_
  rintro rfl
  exact hb (by simp [h])

/-- What follows a command, where no ring waits for its deletion. -/
theorem BlockOnly.settle {b : Nat} {c c' : Card} (h : BlockOnly b c c') (hc : NoDeletes c) : BlockOnly b c (settle c c') := by
  have hnew : NoDeletes c' := hostKept_noDeletes h.host hc
  obtain ⟨hchn, hest, himp, hcnv, hsaf, hdsp⟩ := h.strings
  refine ⟨⟨?_, ?_, ?_, ?_, ?_, ?_⟩, hostKept_trans h.host (hostKept_settle c c' hnew), fun off hl hb => ?_, ?_, ?_, ?_, ?_, ?_, ?_⟩
  case refine_7 =>
    rw [← h.regs off hl hb]
    simp only [List.mem_cons, List.not_mem_nil, or_false, not_or] at hb
    obtain ⟨_, h10, h12⟩ := hb
    exact reg_settle c c' h10 h12 hl
  · rw [settle_chn, hchn]
  · rw [settle_est, hest]
  · rw [settle_imp, himp]
  · rw [settle_cnv, hcnv]
  · rw [settle_saf, hsaf]
  · rw [settle_dsp, hdsp]
  · rw [settle_sys, h.sys]
  · rw [settle_sec, h.sec]
  · rw [settle_lan, h.lan]
  · rw [settle_thm, h.thm]
  · rw [settle_fio, h.fio]
  · rw [settle_can, h.can]

/-! ### The time unit's own steps -/

/-- Only the time unit, its registers, the firings and the recorder may differ. -/
structure TimeOnly (c c' : Card) : Prop extends BlockOnly 1 c c' where
  til : c'.til = c.til

theorem TimeOnly.refl (c : Card) : TimeOnly c c := ⟨.refl 1 c, rfl⟩

theorem TimeOnly.trans {x y z : Card} (h : TimeOnly x y) (k : TimeOnly y z) : TimeOnly x z :=
  ⟨h.toBlockOnly.trans k.toBlockOnly, k.til.trans h.til⟩

theorem TimeOnly.ite {p : Prop} [Decidable p] {c x y : Card} (hx : TimeOnly c x) (hy : TimeOnly c y) :
    TimeOnly c (if p then x else y) := by
  split
  · exact hx
  · exact hy

/-- A change of the time unit's own structure. -/
theorem TimeOnly.inside (c : Card) (t : Tim) : TimeOnly c { c with tim := t } :=
  ⟨⟨⟨rfl, rfl, rfl, rfl, rfl, rfl⟩, ⟨rfl, rfl, rfl, rfl⟩, fun _ _ _ => rfl, rfl, rfl, rfl, rfl, rfl, rfl⟩, rfl⟩

theorem TimeOnly.setFld (c : Card) (f : Fld) (v : Nat) (h : f.off / 0x1000 = 1) : TimeOnly c (c.setFld f v) :=
  ⟨.setReg c _ h, rfl⟩

theorem TimeOnly.record (c : Card) (ev : Nat) (ps : List Word) : TimeOnly c (c.record ev ps) :=
  ⟨.record 1 c ev ps, (hostOnly_record c ev ps).til⟩

theorem TimeOnly.jrnTime (c : Card) (kind : Nat) (v : Int) : TimeOnly c (c.jrnTime kind v) :=
  ⟨⟨⟨rfl, rfl, rfl, rfl, rfl, rfl⟩, ⟨rfl, rfl, rfl, rfl⟩, fun _ _ _ => rfl, rfl, rfl, rfl, rfl, rfl, rfl⟩, rfl⟩

theorem TimeOnly.jrnFree (c : Card) (t : Nat) : TimeOnly c (c.jrnFree t) := ⟨.jrnFree 1 c t, rfl⟩

theorem TimeOnly.setPort (c : Card) (p : Nat) (x : TimPort) : TimeOnly c (c.setPort p x) := .inside c _

theorem TimeOnly.setRate (c : Card) : TimeOnly c c.setRate := .setFld c _ _ (by decide)

theorem TimeOnly.loseTime (c : Card) (n : Nat) : TimeOnly c (c.loseTime n) :=
  (TimeOnly.setFld c TIM_STATUS.TIME_STATE 0 (by decide)).trans (.record _ _ _)

theorem TimeOnly.loseGrandmaster (c : Card) (cause : Nat) : TimeOnly c (c.loseGrandmaster cause) := by
  have hreq : TimeOnly c c.requalify := .inside c _
  unfold Card.loseGrandmaster
  dsimp only
  split
  · have hhold : TimeOnly c.requalify ((((({ c.requalify with tim.prop := 0, tim.holdSince := c.requalify.tim.clock } : Card).setRate).setFld
        TIM_STATUS.TIME_STATE 2)).record 0x1002 [pN cause]) :=
      (TimeOnly.inside _ _).trans ((TimeOnly.setRate _).trans ((TimeOnly.setFld _ _ _ (by decide)).trans (.record _ _ _)))
    split
    · exact hreq.trans (hhold.trans (.loseTime _ _))
    · exact hreq.trans hhold
  · exact hreq

theorem TimeOnly.follow (c : Card) (gm : BitVec 64) : TimeOnly c (c.follow gm) := by
  unfold Card.follow
  split
  · exact .inside c _
  · split
    · exact .refl c
    · exact (TimeOnly.loseGrandmaster c 1).trans (.inside _ _)

theorem TimeOnly.choosePort (c : Card) (lost : Nat) : TimeOnly c (c.choosePort lost) := .inside c _

theorem TimeOnly.movePort (c : Card) (port : Nat) : TimeOnly c (c.movePort port) := by
  unfold Card.movePort
  split
  · exact .refl c
  · rename_i p cause _
    split
    · exact .refl c
    · have hmove : TimeOnly c ((({ c with tim.moveDue := none } : Card).setFld TIM_STATUS.ACTIVE_PORT p).record 0x1005 [pN p, pN cause]) :=
        (TimeOnly.inside c _).trans ((TimeOnly.setFld _ _ _ (by decide)).trans (.record _ _ _))
      dsimp only
      split
      · exact hmove.trans ((TimeOnly.follow _ _).trans (.setFld _ _ _ (by decide)))
      · exact hmove

theorem TimeOnly.qualify (c : Card) (offset : Int) : TimeOnly c (c.qualify offset) := by
  unfold Card.qualify
  dsimp only
  split
  · split
    · exact (TimeOnly.inside c _).trans (.record _ _ _)
    · exact .inside c _
  · exact .inside c _

theorem TimeOnly.servo (c : Card) (port : Nat) (offset : Int) : TimeOnly c (c.servo port offset) :=
  .ite (.inside c _) ((TimeOnly.inside c _).trans (.setRate _))

theorem TimeOnly.lockTest (c : Card) (port : Nat) (offset : Int) : TimeOnly c (c.lockTest port offset) :=
  (TimeOnly.inside c _).trans
    (.ite ((TimeOnly.inside _ _).trans ((TimeOnly.setFld _ TIM_STATUS.TIME_STATE _ (by decide)).trans (.record _ _ _))) (.refl _))

theorem TimeOnly.offset (c : Card) (port : Nat) (offset : Int) : TimeOnly c (c.offset port offset) := by
  have hshow : TimeOnly c (c.setSfld TIM_OFFSET.OFFSET (clampInt (-2147483647) 2147483647 offset)) :=
    .setFld c _ _ (by decide)
  refine hshow.trans (.ite (.refl _) (.ite (.qualify _ _) ?_))
  exact (TimeOnly.inside _ _).trans (.trans (.ite (.inside _ _) (.servo _ _ _)) (.lockTest _ _ _))

theorem TimeOnly.validPulse (c : Card) (delta : Int) : TimeOnly c (c.validPulse delta) := by
  have herr : TimeOnly c (c.setSfld TIM_PULSE_STAT.ERR (clampInt (-32767) 32767 delta)) := .setFld c _ _ (by decide)
  have hstate : ∀ d : Card, TimeOnly d (d.setFld TIM_STATUS.PULSE_STATE 1) := fun d => .setFld d _ _ (by decide)
  exact herr.trans ((TimeOnly.inside _ _).trans
    (.trans (.ite (.ite ((hstate _).trans (.record _ _ _)) (.refl _)) (hstate _)) (.ite (.ite (.inside _ _) (.inside _ _)) (.refl _))))

theorem TimeOnly.spuriousPulse (c : Card) (delta : Int) : TimeOnly c (c.spuriousPulse delta) := by
  have hcount : TimeOnly c (c.count TIM_PULSE_STAT.SPURIOUS) := .setFld c _ _ (by decide)
  exact hcount.trans (.ite ((TimeOnly.inside _ _).trans (.record _ _ _)) (.refl _))

/-! ### The events of the time unit -/

theorem exec_syncReceived (port : Nat) (offset : Int) (s : State) :
    exec (.syncReceived port offset) s = execSyncReceived port offset s := rfl
theorem exec_announceReceived (port : Nat) (a : Announce) (s : State) :
    exec (.announceReceived port a) s = execAnnounceReceived port a s := rfl
theorem exec_announceTimeout (port : Nat) (s : State) : exec (.announceTimeout port) s = execAnnounceTimeout port s := rfl
theorem exec_portLinkLoss (port : Nat) (s : State) : exec (.portLinkLoss port) s = execPortLinkLoss port s := rfl
theorem exec_holdoverLimitExpiry (s : State) : exec .holdoverLimitExpiry s = execHoldoverLimitExpiry s := rfl
theorem exec_delayReqEgress (port seqId : Nat) (s : State) :
    exec (.delayReqEgress port seqId) s = execDelayReqEgress port seqId s := rfl
theorem exec_delayRespReceived (port seqId : Nat) (delay : Int) (s : State) :
    exec (.delayRespReceived port seqId delay) s = execDelayRespReceived port seqId delay s := rfl
theorem exec_framePulseEdge (delta : Int) (s : State) : exec (.framePulseEdge delta) s = execFramePulseEdge delta s := rfl
theorem exec_pulseLost (s : State) : exec .pulseLost s = execPulseLost s := rfl

theorem timeOnly_syncReceived (port : Nat) (offset : Int) : EffectIn TimeOnly (.syncReceived port offset) :=
  fun s => ⟨_, exec_syncReceived port offset s, fun c =>
    .ite (.refl c) ((TimeOnly.jrnTime c _ _).trans ((TimeOnly.setPort _ _ _).trans ((TimeOnly.movePort _ _).trans
      (.trans (.ite (.offset _ _ _) (.refl _)) (.setPort _ _ _)))))⟩

theorem timeOnly_announceReceived (port : Nat) (a : Announce) : EffectIn TimeOnly (.announceReceived port a) :=
  fun s => ⟨_, exec_announceReceived port a s, fun c =>
    .ite (.refl c) ((TimeOnly.jrnTime c _ _).trans ((TimeOnly.setPort _ _ _).trans
      (.trans (.ite ((TimeOnly.follow _ _).trans (.setFld _ TIM_UTC_OFFSET.UTC_OFFSET _ (by decide))) (.refl _)) (.choosePort _ _))))⟩

theorem timeOnly_announceTimeout (port : Nat) : EffectIn TimeOnly (.announceTimeout port) :=
  fun s => ⟨_, exec_announceTimeout port s, fun c =>
    .ite (.refl c) ((TimeOnly.setPort c _ _).trans ((TimeOnly.choosePort _ _).trans (.ite (.loseGrandmaster _ _) (.refl _))))⟩

theorem timeOnly_portLinkLoss (port : Nat) : EffectIn TimeOnly (.portLinkLoss port) :=
  fun s => ⟨_, exec_portLinkLoss port s, fun c =>
    .ite (.refl c) ((TimeOnly.jrnTime c _ _).trans ((TimeOnly.setPort _ _ _).trans (.choosePort _ _)))⟩

theorem timeOnly_holdoverLimitExpiry : EffectIn TimeOnly .holdoverLimitExpiry :=
  fun s => ⟨_, exec_holdoverLimitExpiry s, fun c => .ite (.loseTime c _) (.refl c)⟩

theorem timeOnly_delayReqEgress (port seqId : Nat) : EffectIn TimeOnly (.delayReqEgress port seqId) :=
  fun s => ⟨_, exec_delayReqEgress port seqId s, fun c => by
    have hlose : ∀ d : Card, TimeOnly d (if (!d.bit TIM_STATUS.TSQ_OVF) = true
        then ((d.count TIM_TSQ_STAT.LOST).stick TIM_STATUS.TSQ_OVF).record 0x1011 [pN seqId, pN port]
        else (d.count TIM_TSQ_STAT.LOST).stick TIM_STATUS.TSQ_OVF) := fun d =>
      have hsticky : TimeOnly d ((d.count TIM_TSQ_STAT.LOST).stick TIM_STATUS.TSQ_OVF) :=
        (TimeOnly.setFld d TIM_TSQ_STAT.LOST _ (by decide)).trans (.setFld _ TIM_STATUS.TSQ_OVF _ (by decide))
      .ite (hsticky.trans (.record _ _ _)) hsticky
    exact .ite ((TimeOnly.inside c _).trans (hlose _)) (.ite (hlose c) (.inside c _))⟩

theorem timeOnly_delayRespReceived (port seqId : Nat) (delay : Int) : EffectIn TimeOnly (.delayRespReceived port seqId delay) :=
  fun s => ⟨_, exec_delayRespReceived port seqId delay s, fun c =>
    .ite ((TimeOnly.inside c _).trans ((TimeOnly.jrnTime _ _ _).trans (.setPort _ _ _))) (.refl c)⟩

theorem timeOnly_framePulseEdge (delta : Int) : EffectIn TimeOnly (.framePulseEdge delta) :=
  fun s => ⟨_, exec_framePulseEdge delta s, fun c =>
    (TimeOnly.jrnTime c _ _).trans (.ite (.validPulse _ _) (.spuriousPulse _ _))⟩

theorem timeOnly_pulseLost : EffectIn TimeOnly .pulseLost :=
  fun s => ⟨_, exec_pulseLost s, fun c =>
    .ite ((TimeOnly.setFld c TIM_STATUS.PULSE_STATE _ (by decide)).trans (.record _ _ _)) (.refl c)⟩

theorem timeOnly_timNowSnapshot : EffectIn TimeOnly .timNowSnapshot :=
  fun s => ⟨_, exec_timNowSnapshot s, fun c =>
    (TimeOnly.jrnFree c _).trans ((TimeOnly.setFld _ TIM_NOW_LO.NOW _ (by decide)).trans (.setFld _ TIM_NOW_HI.NOW _ (by decide)))⟩

theorem timeOnly_timFramePmSnapshot : EffectIn TimeOnly .timFramePmSnapshot :=
  fun s => ⟨_, exec_timFramePmSnapshot s, fun c =>
    (TimeOnly.jrnFree c _).trans ((TimeOnly.setFld _ TIM_FRAME_PM_LO.FRAME_PM _ (by decide)).trans
      ((TimeOnly.setFld _ TIM_FRAME_PM_HI.FRAME_PM _ (by decide)).trans (.setFld _ TIM_FRAME_NUM.FRAME_NUM _ (by decide))))⟩

/-- Every event of the time unit keeps to the time unit. -/
theorem timeOnly_of_timeEvent (i : Instr) (h : timeEvent i = true) : EffectIn TimeOnly i := by
  unfold timeEvent at h
  split at h
  · exact timeOnly_syncReceived _ _
  · exact timeOnly_announceReceived _ _
  · exact timeOnly_announceTimeout _
  · exact timeOnly_portLinkLoss _
  · exact timeOnly_holdoverLimitExpiry
  · exact timeOnly_delayReqEgress _ _
  · exact timeOnly_delayRespReceived _ _ _
  · exact timeOnly_framePulseEdge _
  · exact timeOnly_pulseLost
  · exact timeOnly_timNowSnapshot
  · exact timeOnly_timFramePmSnapshot
  · exact absurd h (by decide)

theorem timeFrame : TimeFrame := by
  intro i s t hi hdel ht
  have hframe : TimeOnly s.card t.card := by
    rcases (timeOnly_of_timeEvent i hi).settled ht with h | ⟨d, hd, h⟩
    · rw [h]
      exact .refl s.card
    · rw [h]
      exact ⟨hd.toBlockOnly.settle hdel, (settle_til s.card d).trans hd.til⟩
  exact ⟨hframe.strings, hframe.host, hframe.regs, hframe.sys, hframe.sec, hframe.lan, hframe.til, hframe.thm, hframe.fio,
    hframe.can⟩

/-! ### A tile's own steps -/

/-- Of the tiles only the physical tile `ph` may differ; beside the tiles only the array's own structure and registers, the
firings and the recorder, and the map still names the same physical tile for logical tile `t`. -/
structure TileKept (t ph : Nat) (c c' : Card) : Prop extends BlockOnly 3 c c' where
  tim : c'.tim = c.tim
  phys : c'.phys t = c.phys t
  tiles : ∀ p, p ≠ ph → c'.tile p = c.tile p

/-- A step of logical tile `t` while it is served by physical tile `ph`. -/
def TileOnly (t ph : Nat) (c c' : Card) : Prop := t < 256 → c.phys t = ph → TileKept t ph c c'

section TileOnly

variable {t ph : Nat}

theorem TileOnly.refl (c : Card) : TileOnly t ph c c := fun _ _ => ⟨.refl 3 c, rfl, rfl, fun _ _ => rfl⟩

theorem TileOnly.trans {x y z : Card} (h : TileOnly t ph x y) (k : TileOnly t ph y z) : TileOnly t ph x z := by
  intro ht hx
  have hxy := h ht hx
  have hyz := k ht (hxy.phys.trans hx)
  exact ⟨hxy.toBlockOnly.trans hyz.toBlockOnly, hyz.tim.trans hxy.tim, hyz.phys.trans hxy.phys,
    fun p hp => (hyz.tiles p hp).trans (hxy.tiles p hp)⟩

theorem TileOnly.ite {p : Prop} [Decidable p] {c x y : Card} (hx : TileOnly t ph c x) (hy : TileOnly t ph c y) :
    TileOnly t ph c (if p then x else y) := by
  split
  · exact hx
  · exact hy

/-- A change of the array's structure that leaves the tiles alone. -/
theorem TileOnly.inside (c : Card) (x : Til) (h : x.tiles = c.til.tiles) : TileOnly t ph c { c with til := x } := fun _ _ =>
  ⟨⟨⟨rfl, rfl, rfl, rfl, rfl, rfl⟩, ⟨rfl, rfl, rfl, rfl⟩, fun _ _ _ => rfl, rfl, rfl, rfl, rfl, rfl, rfl⟩, rfl, rfl,
    fun p _ => by simp only [Card.tile, h]⟩

theorem TileOnly.setTile (c : Card) (x : Tile) : TileOnly t ph c (c.setTile ph x) := fun _ _ =>
  ⟨⟨⟨rfl, rfl, rfl, rfl, rfl, rfl⟩, ⟨rfl, rfl, rfl, rfl⟩, fun _ _ _ => rfl, rfl, rfl, rfl, rfl, rfl, rfl⟩, rfl, rfl,
    fun _ hp => Store.get_set_other c.til.tiles (fun _ => {}) x hp⟩

/-- A write of the physical tile behind `t`. -/
theorem TileOnly.setOwn (c : Card) (x : Tile) : TileOnly t ph c (c.setTile (c.phys t) x) := fun ht h => by
  rw [h]
  exact TileOnly.setTile c x ht h

theorem TileOnly.modTile (c : Card) (f : Tile → Tile) : TileOnly t ph c (c.modTile ph f) := .setTile c _

/-- The map's registers lie above the block's other ones. -/
theorem TileOnly.setFld (c : Card) (f : Fld) (v : Nat) (h : f.off / 0x1000 = 3) (hmap : f.off < TIL_MAP 0) :
    TileOnly t ph c (c.setFld f v) := fun _ _ => by
  refine ⟨.setReg c _ h, rfl, Card.fld_setFld_other c f _ v ?_, fun _ _ => rfl⟩
  simp only [TIL_MAP.PHYS, TIL_MAP] at hmap ⊢
  omega

theorem TileOnly.of_hostOnly {c c' : Card} (h : HostOnly c c') (k : HostKept c c') : TileOnly t ph c c' := fun ht _ => by
  refine ⟨.of_hostOnly 3 h k, h.tim, ?_, fun p _ => by simp only [Card.tile, h.til]⟩
  have hreg : c'.reg (TIL_MAP t) = c.reg (TIL_MAP t) := by
    apply h.reg <;> simp only [TIL_MAP] <;> omega
  simp only [Card.phys, Card.fld, TIL_MAP.PHYS, hreg]

theorem TileOnly.record (c : Card) (ev : Nat) (ps : List Word) : TileOnly t ph c (c.record ev ps) :=
  .of_hostOnly (hostOnly_record c ev ps) (hostKept_record c ev ps)

theorem TileOnly.fire (c : Card) (n : Nat) : TileOnly t ph c (c.fire n) := .of_hostOnly (hostOnly_fire c n) (hostKept_fire c n)

theorem TileOnly.jrnFree (c : Card) (typ : Nat) : TileOnly t ph c (c.jrnFree typ) := fun _ _ =>
  ⟨.jrnFree 3 c typ, rfl, rfl, fun _ _ => rfl⟩

theorem TileOnly.draw (c : Card) : TileOnly t ph c c.draw.2 := fun _ _ =>
  ⟨⟨⟨rfl, rfl, rfl, rfl, rfl, rfl⟩, ⟨rfl, rfl, rfl, rfl⟩, fun _ _ _ => rfl, rfl, rfl, rfl, rfl, rfl, rfl⟩, rfl, rfl,
    fun _ _ => rfl⟩

/-! ### Memory errors and traps -/

theorem TileOnly.dueRetire (c : Card) (p cause : Nat) : TileOnly t ph c (c.dueRetire p cause) :=
  .ite (.refl c) (.inside c _ rfl)

theorem TileOnly.corrected (c : Card) (n : Nat) : TileOnly t ph c (c.corrected ph n) :=
  .ite (.refl c) ((TileOnly.setFld c TIL_ECC_CNT.CE _ (by decide) (by decide)).trans ((TileOnly.modTile _ _).trans
    (.ite ((TileOnly.setFld _ TIL_STICKY.CE_LIMIT _ (by decide) (by decide)).trans (.dueRetire _ _ _)) (.refl _))))

theorem TileOnly.doubleBit (c : Card) (addr : Nat) : TileOnly t ph c (c.doubleBit ph addr) := by
  have hcount : TileOnly t ph c ((c.count TIL_ECC_CNT.UE).stick TIL_STICKY.UE) :=
    (TileOnly.setFld c TIL_ECC_CNT.UE _ (by decide) (by decide)).trans (.setFld _ TIL_STICKY.UE _ (by decide) (by decide))
  unfold Card.doubleBit
  refine hcount.trans (.trans ?_ (.trans (.ite (.dueRetire _ _ _) (.refl _)) (.modTile _ _)))
  split
  · exact .ite (.dueRetire _ _ _) (.refl _)
  · exact .refl _

/-- The fields that the first trap of a frame fills. -/
theorem TileOnly.showTrap (c : Card) (code pc lane frame : Nat) : TileOnly t ph c
    (((((c.setFld TIL_TRAP.TILE t).setFld TIL_TRAP.CODE code).setFld TIL_TRAP.PC pc).setFld TIL_TRAP.LANE lane).setFld
      TIL_TRAP_FRAME.FRAME frame) :=
  (TileOnly.setFld c TIL_TRAP.TILE _ (by decide) (by decide)).trans
    ((TileOnly.setFld _ TIL_TRAP.CODE _ (by decide) (by decide)).trans
      ((TileOnly.setFld _ TIL_TRAP.PC _ (by decide) (by decide)).trans
        ((TileOnly.setFld _ TIL_TRAP.LANE _ (by decide) (by decide)).trans
          (.setFld _ TIL_TRAP_FRAME.FRAME _ (by decide) (by decide)))))

theorem TileOnly.trapTile (c : Card) (code pc lane : Nat) : TileOnly t ph c (c.trapTile t code pc lane) := by
  intro ht hph
  subst hph
  suffices h : TileOnly t (c.phys t) c (c.trapTile t code pc lane) from h ht rfl
  unfold Card.trapTile
  extract_lets p hw c₁ c₂ c₃ same _ c₄ c₅ c₆ c₇
  have h₁ : TileOnly t p c c₁ := by
    refine (TileOnly.setFld c _ _ ?_ ?_).trans (.setFld _ TIL_STICKY.TRAP _ (by decide) (by decide))
    · cases hw <;> decide
    · cases hw <;> decide
  have h₂ : TileOnly t p c₁ c₂ := .ite (.showTrap _ _ _ _ _) (.refl _)
  have h₃ : TileOnly t p c₂ c₃ := (TileOnly.record _ _ _).trans ((TileOnly.fire _ _).trans (.jrnFree _ _))
  have h₄ : TileOnly t p c₃ c₄ := .inside _ _ rfl
  have h₅ : TileOnly t p c₄ c₅ := .modTile _ _
  have h₆ : TileOnly t p c₅ c₆ := by
    unfold c₆
    split
    · exact .ite (.dueRetire _ _ _) (.refl _)
    · exact .refl _
  have h₇ : TileOnly t p c₅ c₇ := .ite (h₆.trans (.modTile _ _)) (.refl _)
  have h₈ : TileOnly t p c₇ ((c₇.stick TIL_STICKY.KERNEL_FAULT).record 0x3022 [pN code, pN pc, 2, c₇.frame]) :=
    (TileOnly.setFld _ TIL_STICKY.KERNEL_FAULT _ (by decide) (by decide)).trans (.record _ _ _)
  exact h₁.trans (h₂.trans (h₃.trans (h₄.trans (h₅.trans (h₇.trans (.ite h₈ (.refl _)))))))

/-! ### Outcomes of an instruction -/

theorem TileOnly.goOn (c : Card) (x : Tile) (pc : Nat) : TileOnly t ph c (c.goOn t x pc) :=
  (TileOnly.setOwn c _).trans (.ite (.trapTile _ _ _ _) (.refl _))

theorem TileOnly.endBatch (c : Card) (x : Tile) : TileOnly t ph c (c.endBatch t x) := by
  unfold Card.endBatch
  split
  · exact .setOwn c _
  · exact .ite (.setOwn c _) (.setOwn c _)

theorem TileOnly.finishExchange (c : Card) (y : Tile) (x : TileOp) (vals : List Nat) :
    TileOnly t ph c (c.finishExchange t y x vals) := by
  unfold Card.finishExchange
  dsimp only
  split
  · exact .refl c
  · exact .goOn c _ _

theorem TileOnly.tileOut (c : Card) (y : Tile) (o : TileOut) : TileOnly t ph c (c.tileOut t y o) := by
  unfold Card.tileOut
  split
  · exact .goOn c _ _
  · exact .goOn c _ _
  · exact .trapTile c _ _ _
  · exact .endBatch c _
  · rename_i y' ch sum v merge
    extract_lets _ old new new' _ c₁
    have h₁ : TileOnly t ph c c₁ := .inside c _ rfl
    exact h₁.trans (.goOn _ _ _)
  · exact (TileOnly.setOwn c _).trans (.finishExchange _ _ _ _)
  · exact .setOwn c _

theorem TileOnly.uncorrectable (c : Card) (addr pc lane : Nat) :
    TileOnly t ph c ((c.doubleBit ph addr).trapTile t 7 pc lane) := (TileOnly.doubleBit c addr).trans (.trapTile _ _ _ _)

end TileOnly

/-- An instruction keeps to its tile; one of no logical tile does nothing. -/
theorem tileOnly_tileRun (c : Card) (x : TileOp) (product : Bool) (f : TileCtx → Tile → TileOp → TileOut) :
    TileOnly x.tile (c.phys x.tile) c (c.tileRun x product f) := by
  unfold Card.tileRun
  extract_lets t p c₁ c₂ y fetch c₃
  have h₁ : TileOnly t p c c₁ := .modTile c _
  have h₂ : TileOnly t p c₁ c₂ := .corrected _ _
  have h₃ : TileOnly t p c₂ c₃ := by
    unfold c₃
    split
    · exact .ite (.uncorrectable _ _ _ _) (.trapTile _ _ _ _)
    · exact .uncorrectable _ _ _ _
    · exact .ite (.trapTile _ _ _ _) (.tileOut _ _ _)
    · exact .tileOut _ _ _
  exact .ite (.refl c) (h₁.trans (h₂.trans (h₃.trans (.draw _))))

/-- What an instruction of logical tile `n` does to the card. -/
def TileStep (n : Nat) (c c' : Card) : Prop := TileKept n (c.phys n) c c'

theorem TileStep.refl (n : Nat) (c : Card) : TileStep n c c := ⟨.refl 3 c, rfl, rfl, fun _ _ => rfl⟩

theorem tileStep_tileRun (c : Card) (x : TileOp) (product : Bool) (f : TileCtx → Tile → TileOp → TileOut) :
    TileStep x.tile c (c.tileRun x product f) := by
  by_cases ht : x.tile < 256
  · exact tileOnly_tileRun c x product f ht rfl
  · have hnone : c.tileRun x product f = c := if_pos (Or.inl (Nat.not_lt.mp ht))
    rw [hnone]
    exact .refl x.tile c

/-- A command that runs one instruction of the tile that `x` names. -/
theorem tileStep_of_exec {i : Instr} {x : TileOp} {product : Bool} {f : TileCtx → Tile → TileOp → TileOut}
    (h : ∀ s, exec i s = s.on fun c => c.tileRun x product f) : EffectIn (TileStep x.tile) i :=
  fun s => ⟨_, h s, fun c => tileStep_tileRun c x product f⟩

theorem exec_tileUndefinedOpcode (x : TileOp) (opc : Nat) (s : State) :
    exec (.tileUndefinedOpcode x opc) s = execTileUndefinedOpcode x opc s := rfl

theorem tileStep_tileUndefinedOpcode (x : TileOp) (opc : Nat) : EffectIn (TileStep x.tile) (.tileUndefinedOpcode x opc) := by
  refine fun s => ⟨_, exec_tileUndefinedOpcode x opc s, fun c => ?_⟩
  split
  · exact tileStep_tileRun c x _ _
  · exact .refl x.tile c

/-- Every instruction of a tile, an undefined one too, keeps to its tile. -/
theorem tileStep_of_tileOfInstr (i : Instr) (n : Nat) (h : tileOfInstr i = some n) : EffectIn (TileStep n) i := by
  unfold tileOfInstr at h
  split at h
  case h_44 x opc => exact Option.some.inj h ▸ tileStep_tileUndefinedOpcode x opc
  case h_45 => cases h
  all_goals exact Option.some.inj h ▸ tileStep_of_exec fun _ => rfl

theorem tileFrame : TileFrame := by
  intro i s t n hi hdel ht
  have hframe : BlockOnly 3 s.card t.card ∧ t.card.tim = s.card.tim ∧ ∀ p, p ≠ s.card.phys n → t.card.tile p = s.card.tile p := by
    rcases (tileStep_of_tileOfInstr i n hi).settled ht with h | ⟨d, hd, h⟩
    · rw [h]
      exact ⟨.refl 3 s.card, rfl, fun _ _ => rfl⟩
    · rw [h]
      refine ⟨hd.toBlockOnly.settle hdel, (settle_tim s.card d).trans hd.tim, fun p hp => ?_⟩
      rw [← hd.tiles p hp]
      simp only [Card.tile, settle_til]
  obtain ⟨hblock, htim, htiles⟩ := hframe
  exact ⟨hblock.strings, hblock.host, hblock.regs, hblock.sys, htim, hblock.sec, hblock.lan, hblock.thm, hblock.fio,
    hblock.can, htiles⟩

/-- Settles O59: each step of the time unit and of a tile changes only what its relation (`TimeOnly`, `TileOnly`) lets
differ; the relations compose, and what follows a command keeps them. -/
theorem timeAndTileFrames : Obligations.TimeAndTileFrames := ⟨timeFrame, tileFrame⟩

end Sys2Proof.Machine

/-! Register writes: what a write leaves in its register, the lock, and recurrences (O56). -/

namespace Sys2Proof.Machine

open Sys2Proof.Claims

/-! ### The register index -/

theorem exec_registerWrite (off : Nat) (w : Word) (be : BitVec 4) (same : Word) (s : State) :
    exec (.registerWrite off w be same) s = execRegisterWrite off w be same s := rfl

/-- An assigned offset lies in one of the 16 blocks. -/
theorem blockOf_of_classOf {off : Nat} {r : RegClass} (h : classOf off = some r) : blockOf off < 16 := by
  by_contra hge
  obtain ⟨k, hk⟩ := Nat.exists_eq_add_of_le' (Nat.not_lt.mp hge)
  have hnone : regsOf (k + 16) = [] := rfl
  rw [classOf, hk, hnone] at h
  cases h

/-- The registers whose writes set more going than themselves, but for CAN_WIN_STAT. -/
def actingRegs : List Nat :=
  [SYS_CNT_CLR, TIM_CNT_CLR, CHN_CNT_CLR 1, CHN_CNT_CLR 2, CHN_CNT_CLR 3, CHN_CNT_CLR 4, TIL_CNT_CLR, TIL_SAT_CLR, EST_CNT_CLR,
    IMP_CNT_CLR, CNV_CNT_CLR, DSP_CNT_CLR, SAF_CNT_CLR, HST_CNT_CLR, LAN_CNT_CLR, REC_CNT_CLR, FIO_CNT_CLR, SEC_CNT_CLR,
    CAN_CNT_CLR 0, CAN_CNT_CLR 1, TIM_CTRL, HST_CTRL, CNV_SD_CFG, FIO_DO_SAFE, CAN_CTRL 0, CAN_CTRL 1, CAN_WIN_SEL, CHN_CTRL 1,
    CHN_CTRL 2, CHN_CTRL 3, CHN_CTRL 4] ++ (List.range 16).map (0x90A0 + ·)

/-- The counters of recurrences and of dropped records. -/
def countingRegs : List Nat :=
  [HST_RECUR 0, HST_RECUR 1, HST_RECUR 2, HST_RECUR 3, HST_RECUR_LAST, REC_DROP 0, REC_DROP 1, REC_DROP 2, REC_DROP 3]

/-- No acting, counting or live register has a W1C bit. -/
theorem w1c_eq_zero {off : Nat} {r : RegClass} (hr : classOf off = some r) (h : off ∈ actingRegs ++ countingRegs ++ liveRegs) :
    r.w1c = 0 := by
  have hall : ∀ o ∈ actingRegs ++ countingRegs ++ liveRegs, (classOf o).all (fun r => r.w1c == 0) = true := by decide +kernel
  have := hall off h
  simpa [hr] using this

/-! ### What a write sets going -/

theorem Card.when_of_not (c : Card) {b : Bool} (f : Card → Card) (h : b = false) : c.when b f = c := by
  simp [Card.when, h]

/-- A change that keeps a property keeps it where it is made under a condition. -/
theorem Card.when_keeps {P : Card → Prop} {c : Card} {b : Bool} {f : Card → Card} (hc : P c) (hf : b = true → P (f c)) :
    P (c.when b f) := iteInduction hf fun _ => hc

/-- A register that is no counter clear clears nothing. -/
theorem clearCounters_of_not_acting (c : Card) {off : Nat} (w : Word) (h : off ∉ actingRegs) : c.clearCounters off w = c := by
  have hchn : blockOf off = 2 → off ≠ CHN_CNT_CLR ((off - 0x2000) / 0x400 + 1) := by
    intro hb heq
    have hclear : ∀ n < 4, CHN_CNT_CLR (n + 1) ∈ actingRegs := by decide
    exact h (heq ▸ hclear ((off - 0x2000) / 0x400) (by unfold blockOf at hb; omega))
  have hcan : ∀ n ∈ [0, 1], off ≠ CAN_CNT_CLR n := by
    intro n hn heq
    have hclear : ∀ n ∈ [0, 1], CAN_CNT_CLR n ∈ actingRegs := by decide
    exact h (heq ▸ hclear n hn)
  simp only [actingRegs, List.mem_append, List.mem_cons, List.not_mem_nil, or_false, not_or] at h
  simp only [Card.clearCounters, h, if_false]
  split
  · rename_i hb
    exact Card.when_of_not c _ (by simp [hchn hb])
  · split
    · exact each_keeps (P := fun d => d = c) [0, 1]
        (fun d n hn hd => (Card.when_of_not d _ (by simp [hcan n hn])).trans hd) c rfl
    · rfl

/-- A register that is neither acting nor CAN_WIN_STAT sets nothing going. -/
theorem afterWrite_of_not_acting (c : Card) {off : Nat} (old w : Word) (h : off ∉ actingRegs) (hwin : off ≠ CAN_WIN_STAT) :
    c.afterWrite off old w = c := by
  have hao : ¬(0x90A0 ≤ off ∧ off < 0x90B0) := by
    intro hr
    refine h (List.mem_append_right _ (List.mem_map.mpr ⟨off - 0x90A0, ?_, ?_⟩))
    · rw [List.mem_range]
      omega
    · omega
  have hchn : ∀ n ∈ strings, off ≠ CHN_CTRL n := by
    intro n hn heq
    have hctrl : ∀ n ∈ strings, CHN_CTRL n ∈ actingRegs := by decide
    exact h (heq ▸ hctrl n hn)
  unfold Card.afterWrite
  rw [clearCounters_of_not_acting c w h]
  simp only [actingRegs, List.mem_append, List.mem_cons, List.not_mem_nil, or_false, not_or] at h
  simp only [h, hao, hwin, if_false]
  exact each_keeps (P := fun d => d = c) strings
    (fun d n hn hd => (if_neg fun hc => hchn n hn hc.1).trans hd) c rfl

/-- A counter clear does not change the register that was written. -/
theorem reg_clearCounters_self (c : Card) (off : Nat) (w : Word) : (c.clearCounters off w).reg off = c.reg off := by
  let P : Card → Prop := fun d => d.reg off = c.reg off
  have hreg : ∀ {d : Card} {o : Nat}, off ≠ o → P d → P (d.setReg o 0) := fun ho hd => (Card.reg_setReg_other _ _ ho).trans hd
  have hfld : ∀ {d : Card} {f : Fld}, off ≠ f.off → P d → P (d.setFld f 0) := fun ho hd => (Card.reg_setFld_other _ _ _ ho).trans hd
  have heach : ∀ {d : Card} (l : List Nat) (g : Nat → Nat), (∀ n ∈ l, off ≠ g n) → P d → P (d.each l fun c n => c.setReg (g n) 0) :=
    fun l g hl hd => each_keeps (P := P) l (fun _ n hn hd => hreg (hl n hn) hd) _ hd
  have hwhen : ∀ {d : Card} {b : Bool} {f : Card → Card}, P d → P (f d) → P (d.when b f) :=
    fun hd hf => Card.when_keeps (P := P) hd fun _ => hf
  have hc : P c := rfl
  change P _
  unfold Card.clearCounters
  extract_lets a b d₁ d₂ n d₃
  refine iteInduction (fun h => hwhen hc (hreg (by rw [h]; decide) hc)) fun _ => ?_
  refine iteInduction (fun h => ?_) fun _ => ?_
  · have h₁ : P d₁ := hwhen hc (hfld (by rw [h]; decide) (hfld (by rw [h]; decide) hc))
    have h₂ : P d₂ := hwhen h₁ (hreg (by rw [h]; decide) h₁)
    exact hwhen h₂ (hfld (by rw [h]; decide) (hfld (by rw [h]; decide) h₂))
  refine iteInduction (fun _ => Card.when_keeps hc fun hb => hreg ?_ hc) fun _ => ?_
  · simp only [Bool.and_eq_true, decide_eq_true_eq] at hb
    rw [hb.2]
    simp only [CHN_CNT_CLR, CHN_ERR_CNT]
    omega
  refine iteInduction (fun h => ?_) fun _ => ?_
  · have h₁ : P (c.when a (·.setReg TIL_TRAP_CNT 0)) := hwhen hc (hreg (by rw [h]; decide) hc)
    exact hwhen h₁ (hreg (by rw [h]; decide) h₁)
  refine iteInduction (fun h => hwhen hc (hreg (by rw [h]; decide) (hreg (by rw [h]; decide) hc))) fun _ => ?_
  refine iteInduction (fun h => hwhen hc (heach _ _ (by rw [h]; decide) hc)) fun _ => ?_
  refine iteInduction (fun h => hwhen hc (hreg (by rw [h]; decide) (hreg (by rw [h]; decide) hc))) fun _ => ?_
  refine iteInduction (fun h => hwhen hc (heach _ _ (by rw [h]; decide) hc)) fun _ => ?_
  refine iteInduction (fun h => hwhen hc (hreg (by rw [h]; decide) hc)) fun _ => ?_
  refine iteInduction (fun h => ?_) fun _ => ?_
  · have h₁ : P (c.when a (·.setReg SAF_TEST_CNT 0)) := hwhen hc (hreg (by rw [h]; decide) hc)
    exact hwhen h₁ (heach _ _ (by rw [h]; decide) h₁)
  refine iteInduction (fun h => ?_) fun _ => ?_
  · have h₁ : P (c.when a (·.setFld HST_DLQ_STAT.LOST 0)) := hwhen hc (hfld (by rw [h]; decide) hc)
    exact hwhen h₁ (heach _ _ (by rw [h]; decide) h₁)
  refine iteInduction (fun h => hwhen hc (hreg (by rw [h]; decide) hc)) fun _ => ?_
  refine iteInduction (fun h => ?_) fun _ => ?_
  · have h₁ : P d₃ := hwhen hc (hfld (by rw [h]; decide) (heach _ _ (by rw [h]; decide) hc))
    exact hwhen h₁ (hreg (by rw [h]; decide) h₁)
  refine iteInduction (fun h => hwhen hc (hfld (by rw [h]; decide) hc)) fun _ => ?_
  refine iteInduction (fun h => hwhen hc (hreg (by rw [h]; decide) hc)) fun _ => ?_
  refine iteInduction (fun _ => ?_) fun _ => hc
  refine each_keeps (P := P) _ (fun d n _ hd => Card.when_keeps hd fun hb => hreg ?_ hd) c hc
  simp only [Bool.and_eq_true, decide_eq_true_eq] at hb
  rw [hb.2]
  simp only [CAN_CNT_CLR, CAN_CNT]
  omega

/-- The registers whose writes change themselves further, or show other contents. -/
def selfActingRegs : List Nat :=
  [TIM_CTRL, CNV_SD_CFG, CAN_CTRL 0, CAN_CTRL 1, CAN_WIN_SEL, CAN_WIN_STAT, CHN_CTRL 1, CHN_CTRL 2, CHN_CTRL 3, CHN_CTRL 4]

/-- What a write sets going leaves the written register alone, but for those. -/
theorem reg_afterWrite_self (c : Card) {off : Nat} (old w : Word) (h : off ∉ selfActingRegs) (hb : blockOf off ≠ 10) :
    (c.afterWrite off old w).reg off = c.reg off := by
  let P : Card → Prop := fun d => d.reg off = c.reg off
  have hhst : off ≠ HST_CTRL := by
    rintro rfl
    exact hb (by decide)
  have hchn : ∀ n ∈ strings, off ≠ CHN_CTRL n := by
    intro n hn heq
    have hctrl : ∀ n ∈ strings, CHN_CTRL n ∈ selfActingRegs := by decide
    exact h (heq ▸ hctrl n hn)
  simp only [selfActingRegs, List.mem_cons, List.not_mem_nil, or_false, not_or] at h
  change P _
  unfold Card.afterWrite
  extract_lets c₁
  have h₁ : P c₁ := reg_clearCounters_self c off w
  simp only [h, hhst, if_false]
  refine iteInduction (fun _ => ?_) fun _ => iteInduction (fun _ => h₁) fun _ => ?_
  · exact iteInduction (motive := P) (fun _ => h₁) fun _ => h₁
  · refine each_keeps (P := P) strings (fun d n hn hd => ?_) c₁ h₁
    exact iteInduction (motive := P) (fun hc => absurd hc.1 (hchn n hn)) fun _ => hd

/-! ### The write -/

theorem hostOnly_recur (c : Card) {off : Nat} (bit : Nat) (h : blockOf off < 16) : HostOnly c (c.recur off bit) := by
  refine (HostOnly.setFld c _ _ (Or.inl ?_)).trans ((HostOnly.setFld _ _ _ (Or.inl (by decide))).trans
    ((HostOnly.setFld _ _ _ (Or.inl (by decide))).trans (hostOnly_record _ _ _)))
  simp only [HST_RECUR.COUNT, HST_RECUR]
  omega

/-- The word of a register once the W1C bits that were written are cleared and those that the hardware sets are set. -/
def clearedWord (r : RegClass) (v w same : Word) : Word :=
  (v &&& ~~~(w &&& BitVec.ofNat 32 r.w1c)) ||| (same &&& BitVec.ofNat 32 r.w1c)

/-- Beside that word, clearing W1C bits counts recurrences and fires. -/
theorem hostOnly_clearBits (c : Card) (r : RegClass) {off : Nat} (w same : Word) (h : blockOf off < 16) :
    HostOnly (c.setReg off (clearedWord r (c.reg off) w same)) (c.clearBits r off w same) := by
  unfold Card.clearBits
  extract_lets m c₁ c₂
  have h₂ : HostOnly c₁ c₂ := HostOnly.foldl _ _ (fun d b => hostOnly_recur d b h) c₁
  refine h₂.trans (iteInduction (fun _ => ?_) fun _ => iteInduction (fun _ => .refl c₂) fun _ => hostOnly_fire _ _)
  exact HostOnly.foldl _ _ (fun d b => hostOnly_fire d _) c₂

/-- A record changes no register until the intake. -/
theorem Card.regs_record (c : Card) (ev : Nat) (ps : List Word) : (c.record ev ps).regs = c.regs := by
  unfold Card.record Card.recordAt
  split <;> rfl

/-- A locked write that would change an RW field is noted; any other is as it was. -/
theorem lockCheck_noted (c : Card) (r : RegClass) {off : Nat} (w : Word) (hl : c.locked off = true)
    (hw : (c.reg off ^^^ w) &&& BitVec.ofNat 32 r.rw ≠ 0) : c.lockCheck r off w =
      ((c.stick SEC_STICKY.LOCKED_WRITE).count SEC_CNT.LOCKED_WRITE).record 0xF013 [pN off, w] := by
  unfold Card.lockCheck
  exact if_pos (Bool.and_eq_true_iff.mpr ⟨hl, bne_iff_ne.mpr hw⟩)

/-- What the check of the lock changes: the registers of block SEC, and the recorder. -/
theorem lockCheck_cases {P : Card → Prop} (c : Card) (r : RegClass) (off : Nat) (w : Word) (hc : P c)
    (hn : P (((c.stick SEC_STICKY.LOCKED_WRITE).count SEC_CNT.LOCKED_WRITE).record 0xF013 [pN off, w])) :
    P (c.lockCheck r off w) := iteInduction (fun _ => hn) fun _ => hc

theorem lockCheck_sec (c : Card) (r : RegClass) (off : Nat) (w : Word) : (c.lockCheck r off w).sec = c.sec :=
  lockCheck_cases (P := fun d => d.sec = c.sec) c r off w rfl (hostOnly_record _ _ _).sec

theorem lockCheck_reg (c : Card) (r : RegClass) (off : Nat) (w : Word) {o : Nat} (h : blockOf o ≠ 15) :
    (c.lockCheck r off w).reg o = c.reg o := by
  have hsec : o ≠ SEC_STICKY ∧ o ≠ SEC_CNT := by
    constructor
    · rintro rfl
      exact h (by decide)
    · rintro rfl
      exact h (by decide)
  refine lockCheck_cases (P := fun d => d.reg o = c.reg o) c r off w rfl ?_
  exact (Card.reg_of_regs (Card.regs_record _ _ _) o).trans
    ((Card.reg_setFld_other _ _ _ hsec.2).trans (Card.reg_setFld_other _ _ _ hsec.1))

/-- A write that is accepted is checked against the lock and applied. -/
theorem busWrite_of_accepted {c : Card} {r : RegClass} {off : Nat} {w : Word} (same : Word) (h : WriteAccepted c r off w) :
    c.busWrite off w 0xF same = (c.lockCheck r off w).applyWrite r off w same := by
  obtain ⟨hr, hrsvd, hfree⟩ := h
  have hpass : ¬((!c.locked off && (outOfRange r.base w || c.crossBad off w)) = true) := by
    rcases hfree with hl | ⟨ho, hx⟩
    · simp [hl]
    · simp [ho, hx]
  unfold Card.busWrite
  rw [hr]
  exact (if_neg (not_not.mpr rfl)).trans ((if_neg (not_not.mpr hrsvd)).trans (if_neg hpass))

theorem becomes_registerWrite {s : State} {r : RegClass} {off : Nat} {w : Word} (same : Word) (hl : Live s)
    (h : WriteAccepted s.card r off w) :
    Becomes (.registerWrite off w 0xF same) s ((s.card.lockCheck r off w).applyWrite r off w same) := by
  have hb := becomes_of_on hl (exec_registerWrite off w 0xF same s)
  rwa [busWrite_of_accepted same h] at hb

theorem lockedWrites : LockedWrites := by
  intro s r off w hl hacc hun hb hw
  have hlock : s.card.locked off = true := by simp [Card.locked, hb, hun]
  rw [← lockCheck_noted s.card r w hlock hw]
  exact becomes_registerWrite 0 hl hacc

/-! ### The word after a write -/

/-- The audit record of a write that the unlock lets through. -/
def Card.auditWrite (c : Card) (r : RegClass) (off : Nat) (w : Word) : Card :=
  match c.sec.unlock with
  | some id => if blockOf off = 10 ∨ r.rw = 0 then c else c.record 0xF011 [pN id.toNat, pN (c.roleOf id), pN off, w]
  | none => c

theorem auditWrite_cases {P : Card → Prop} (c : Card) (r : RegClass) (off : Nat) (w : Word) (hc : P c)
    (hrec : ∀ ps, P (c.record 0xF011 ps)) : P (c.auditWrite r off w) := by
  unfold Card.auditWrite
  split
  · exact iteInduction (fun _ => hc) fun _ => hrec _
  · exact hc

/-- The word that an accepted write gives the RW bits of a register, before its W1C bits. -/
def writtenWord (c : Card) (r : RegClass) (off : Nat) (w : Word) : Word :=
  let free := !c.locked off && !(decide (off = HST_CTRL) && c.hst.adminActive)
  let m := if free then BitVec.ofNat 32 r.rw else 0
  (c.reg off &&& ~~~m) ||| (w &&& m)

/-- A write: the word, the W1C bits, the audit record, and what it sets going. -/
theorem applyWrite_eq (c : Card) (r : RegClass) (off : Nat) (w same : Word) : c.applyWrite r off w same =
    (((((c.jrnFree 0x06).setReg off (writtenWord c r off w)).clearBits r off w same).auditWrite r off w).afterWrite off
      (c.reg off) w) := rfl

theorem writtenWord_cleared (c : Card) (r : RegClass) {off : Nat} (w same : Word) (h : blockOf off ≠ 10) :
    clearedWord r (writtenWord c r off w) w same = wordAfter c r off w same := by
  have hhst : off ≠ HST_CTRL := by
    rintro rfl
    exact h (by decide)
  unfold clearedWord writtenWord wordAfter
  cases c.locked off <;> simp [hhst]

/-- An accepted write leaves the word that R5 gives it. -/
theorem reg_applyWrite (c : Card) (r : RegClass) {off : Nat} (w same : Word) (h16 : blockOf off < 16) (h10 : blockOf off ≠ 10)
    (h12 : blockOf off ≠ 12) (hself : off ∉ selfActingRegs) :
    (c.applyWrite r off w same).reg off = wordAfter c r off w same := by
  rw [applyWrite_eq, reg_afterWrite_self _ _ _ hself h10]
  generalize hd : (c.jrnFree 0x06).setReg off (writtenWord c r off w) = d
  have hreg : d.reg off = writtenWord c r off w := by rw [← hd, Card.reg_setReg_same]
  refine (auditWrite_cases (P := HostOnly (d.clearBits r off w same)) _ r off w (.refl _) fun ps => hostOnly_record _ _ ps).reg
    off h10 h12 |>.trans ?_
  rw [(hostOnly_clearBits d r w same h16).reg off h10 h12, Card.reg_setReg_same, hreg, writtenWord_cleared c r w same h10]

theorem wordAfter_lockCheck (c : Card) (r : RegClass) {off : Nat} (w same : Word) (h : blockOf off ≠ 15) :
    wordAfter (c.lockCheck r off w) r off w same = wordAfter c r off w same := by
  unfold wordAfter Card.locked
  rw [lockCheck_reg c r off w h, lockCheck_sec]

theorem registerWriteValues : RegisterWriteValues := by
  intro s r off w same hl _ hacc hb hlive hself
  simp only [List.mem_cons, List.not_mem_nil, or_false, not_or] at hb
  obtain ⟨h10, h12, h15⟩ := hb
  apply gives_of_becomes (becomes_registerWrite same hl hacc)
  rw [reg_settle _ _ h10 h12 hlive, reg_applyWrite _ r w same (blockOf_of_classOf hacc.1) h10 h12 hself,
    wordAfter_lockCheck s.card r w same h15]

end Sys2Proof.Machine

/-! What lasts from a write to the end of its command, and recurrences (O56). -/

namespace Sys2Proof.Machine

open Sys2Proof.Claims

/-! ### Properties of a register that last -/

/-- The field of a set bit. -/
theorem Fld.of_bit (o i : Nat) (w : Word) : Fld.of ⟨o, i, 1⟩ w = (w.getLsbD i).toNat := by
  rw [← BitVec.testBit_toNat, Nat.toNat_testBit]
  rfl

theorem Card.bit_iff (c : Card) (o i : Nat) : c.bit ⟨o, i, 1⟩ = (c.reg o).getLsbD i := by
  simp [Card.bit, Card.fld, Fld.of_bit]

/-- Setting a one-bit field clears no bit. -/
theorem getLsbD_put_one {f : Fld} (hf : f.w = 1) {v : Word} {i : Nat} (h : v.getLsbD i = true) :
    (f.put v 1).getLsbD i = true := by
  have hi : i < 32 := BitVec.lt_of_getLsbD h
  rw [← BitVec.testBit_toNat] at h ⊢
  rw [Fld.testBit_put f v 1 i hi, hf]
  split
  · rw [show i - f.lo = 0 by omega]
    rfl
  · exact h

/-- Setting a one-bit field sets its bit. -/
theorem reg_setFld_bit (c : Card) (o : Nat) {i : Nat} (hi : i < 32) : ((c.setFld ⟨o, i, 1⟩ 1).reg o).getLsbD i = true := by
  rw [Card.setFld, Card.reg_setReg_same, ← BitVec.testBit_toNat, Fld.testBit_put _ _ 1 i hi, if_pos (by simp)]
  simp

/-- The property `P` of register `o` outlives firings, the intake and the live registers: `o` is no live register and no
counter of dropped records, and where firings or drops set bits in it, setting bits keeps `P`. -/
structure Lasting (o : Nat) (P : Word → Prop) : Prop where
  notLive : o ∉ liveRegs
  notDrop : ∀ j < 4, o ≠ REC_DROP j
  sets : (∃ k < 16, o = HST_EV_PEND k) ∨ o = REC_STICKY → ∀ f : Fld, f.w = 1 → ∀ v, P v → P (f.put v 1)

/-- A set bit lasts. -/
theorem lasting_bit {o : Nat} (i : Nat) (hlive : o ∉ liveRegs) (hdrop : ∀ j < 4, o ≠ REC_DROP j) :
    Lasting o fun v => v.getLsbD i = true := ⟨hlive, hdrop, fun _ _ hf _ h => getLsbD_put_one hf h⟩

/-- What the counters of recurrences and HST_RECUR_LAST hold lasts. -/
theorem lasting_recur {o : Nat} (P : Word → Prop) (h : o = HST_RECUR_LAST ∨ ∃ k < 4, o = HST_RECUR k) : Lasting o P := by
  have hrange : 0xA024 ≤ o ∧ o < 0xA038 ∧ o % 4 = 0 := by
    rcases h with rfl | ⟨k, hk, rfl⟩
    · decide
    · unfold HST_RECUR
      omega
  have hlive : ∀ o < 5, 0xA024 + 4 * o ∉ liveRegs := by decide +kernel
  refine ⟨?_, ?_, ?_⟩
  · have := hlive ((o - 0xA024) / 4) (by omega)
    rwa [show 0xA024 + 4 * ((o - 0xA024) / 4) = o by omega] at this
  · intro j _
    unfold REC_DROP
    omega
  · rintro (⟨k, -, rfl⟩ | rfl)
    · unfold HST_EV_PEND at hrange
      omega
    · exact absurd hrange (by decide)

theorem Card.regs_fireVec (c : Card) (v : Nat) : (c.fireVec v).regs = c.regs := by
  unfold Card.fireVec
  extract_lets x
  refine iteInduction (motive := fun d : Card => d.regs = c.regs) (fun _ => rfl) fun _ => ?_
  exact iteInduction (motive := fun d : Card => d.regs = c.regs) (fun _ => rfl) fun _ => rfl

section
variable {o : Nat} {P : Word → Prop} (h : Lasting o P) {c : Card}
include h

theorem Lasting.setFld {f : Fld} (hf : f.w = 1) (ho : (∃ k < 16, f.off = HST_EV_PEND k) ∨ f.off = REC_STICKY)
    (hc : P (c.reg o)) : P ((c.setFld f 1).reg o) := by
  by_cases heq : o = f.off
  · subst heq
    rw [Card.setFld, Card.reg_setReg_same]
    exact h.sets ho f hf _ hc
  · rwa [Card.reg_setFld_other c f 1 heq]

theorem Lasting.fire (n : Nat) (hc : P (c.reg o)) : P ((c.fire n).reg o) := by
  unfold Card.fire
  refine iteInduction (motive := fun e : Card => P (e.reg o)) (fun _ => hc) fun hn => ?_
  have hset : P ((c.setFld ⟨HST_EV_PEND (n / 32), n % 32, 1⟩ 1).reg o) :=
    h.setFld rfl (.inl ⟨n / 32, by omega, rfl⟩) hc
  refine iteInduction (motive := fun e : Card => P (e.reg o)) (fun _ => ?_) fun _ => hset
  rwa [Card.reg_of_regs (Card.regs_fireVec _ _)]

theorem Lasting.countDrop (sev : Nat) (hc : P (c.reg o)) : P ((c.countDrop sev).reg o) := by
  refine h.setFld (f := REC_STICKY.DROPPED) rfl (.inr rfl) ?_
  have hoff : o ≠ (if sev % 2 = 0 then REC_DROP.EVEN (sev % 8 / 2) else REC_DROP.ODD (sev % 8 / 2)).off := by
    split <;> exact h.notDrop _ (by omega)
  rwa [Card.count, Card.reg_setFld_other _ _ _ hoff]

theorem Lasting.takeHanded (hc : P (c.reg o)) : P (c.takeHanded.reg o) := by
  unfold Card.takeHanded
  extract_lets l d
  have hd : P (({ d with rcd.handed := [] } : Card).reg o) :=
    iteInduction (motive := fun e : Card => P (({ e with rcd.handed := [] } : Card).reg o)) (fun _ => hc) fun _ => hc
  refine each_keeps (P := fun e => P (e.reg o)) l (fun e r _ he => ?_) _ hd
  exact iteInduction (motive := fun e : Card => P (e.reg o)) (fun _ => h.countDrop _ he) fun _ => he

theorem Lasting.fireSummaries (old : Card) (hc : P (c.reg o)) : P ((fireSummaries old c).reg o) :=
  each_keeps (P := fun e => P (e.reg o)) (List.range 16) (fun _ b _ he =>
    iteInduction (motive := fun e : Card => P (e.reg o)) (fun _ => h.fire (64 + b) he) fun _ => he) c hc

theorem Lasting.settle (old : Card) (hdel : NoDeletes c) (hc : P (c.reg o)) : P ((settle old c).reg o) := by
  rw [settle_of_noDeletes old c hdel, Card.reg_showLive_other _ h.notLive]
  exact h.fireSummaries old (h.takeHanded hc)

end

/-! ### Recurrences -/

/-- The word with bit `b` alone set. -/
def bitWord (b : Nat) : Word := BitVec.ofNat 32 (2 ^ b)

theorem getLsbD_bitWord {b : Nat} (hb : b < 32) (i : Nat) : (bitWord b).getLsbD i = decide (i = b) := by
  have hbit : ∀ b < 32, ∀ i < 32, (bitWord b).getLsbD i = decide (i = b) := by decide +kernel
  by_cases hi : i < 32
  · exact hbit b hb i hi
  · rw [BitVec.getLsbD_of_ge _ _ (by omega)]
    simp
    omega

theorem bitsOf_bitWord : ∀ b < 32, bitsOf (bitWord b) = [b] := by decide +kernel

/-- A word that holds bit `b` meets `bitWord b` in that bit alone. -/
theorem and_bitWord {b : Nat} (hb : b < 32) {v : Word} (h : v.getLsbD b = true) : v &&& bitWord b = bitWord b := by
  apply BitVec.eq_of_getLsbD_eq
  intro i _
  rw [BitVec.getLsbD_and, getLsbD_bitWord hb]
  by_cases hib : i = b
  · rw [hib, h, Bool.true_and]
  · rw [decide_eq_false hib, Bool.and_false]

/-- The source that a recurrence fires: that of a pending bit, or the summary source of the block. -/
def recurSource (off b : Nat) : Nat :=
  if HST_EV_PEND 0 ≤ off ∧ off < HST_EV_PEND 16 then 32 * ((off - HST_EV_PEND 0) / 4) + b else 64 + blockOf off

theorem Card.each_singleton {α : Type} (c : Card) (x : α) (f : Card → α → Card) : c.each [x] f = f c x := by
  rw [Card.each, List.foldl_cons, List.foldl_nil]

/-- Clearing W1C bits: the word, the recurrences, and the sources that fire. -/
theorem clearBits_eq (c : Card) (r : RegClass) (off : Nat) (w same : Word) : c.clearBits r off w same =
    let hits := w &&& same &&& BitVec.ofNat 32 r.w1c
    let d := (c.setReg off (clearedWord r (c.reg off) w same)).each (bitsOf hits) fun c b => c.recur off b
    if HST_EV_PEND 0 ≤ off ∧ off < HST_EV_PEND 16 then
      d.each (bitsOf same) fun c b => c.fire (32 * ((off - HST_EV_PEND 0) / 4) + b)
    else if hits = 0 then d else d.fire (64 + blockOf off) := rfl

/-- Clearing W1C bits where the hardware sets one of them counts that recurrence and fires its source. -/
theorem clearBits_bitWord (c : Card) (r : RegClass) (off : Nat) {b : Nat} {w : Word} (hb : b < 32)
    (hr : (BitVec.ofNat 32 r.w1c).getLsbD b = true) (hw : w.getLsbD b = true) : c.clearBits r off w (bitWord b) =
      ((c.setReg off (clearedWord r (c.reg off) w (bitWord b))).recur off b).fire (recurSource off b) := by
  have hboth : w &&& bitWord b &&& BitVec.ofNat 32 r.w1c = bitWord b := by
    rw [and_bitWord hb hw, BitVec.and_comm, and_bitWord hb hr]
  have hne : bitWord b ≠ 0 := by
    intro h0
    have := getLsbD_bitWord hb b
    simp [h0] at this
  simp only [clearBits_eq, hboth, bitsOf_bitWord b hb, Card.each_singleton, if_neg hne, recurSource, apply_ite (Card.fire _)]

/-- A recurrence is counted for the block of its register and named in HST_RECUR_LAST. -/
theorem regs_recur (c : Card) (off bit : Nat) : (c.recur off bit).regs =
    (((c.count (HST_RECUR.COUNT (blockOf off / 4) (blockOf off % 4))).setFld HST_RECUR_LAST.OFFSET off).setFld
      HST_RECUR_LAST.BIT bit).regs := Card.regs_record _ _ _

theorem reg_recur_other (c : Card) {off : Nat} (bit : Nat) {o : Nat} (hlast : o ≠ HST_RECUR_LAST)
    (hcnt : o ≠ HST_RECUR (blockOf off / 4)) : (c.recur off bit).reg o = c.reg o := by
  rw [Card.reg_of_regs (regs_recur c off bit), Card.reg_setFld_other _ _ _ hlast, Card.reg_setFld_other _ _ _ hlast]
  exact Card.reg_setFld_other c _ _ hcnt

theorem fld_recur_count (c : Card) (off bit : Nat) :
    (c.recur off bit).fld (HST_RECUR.COUNT (blockOf off / 4) (blockOf off % 4)) =
      min (c.fld (HST_RECUR.COUNT (blockOf off / 4) (blockOf off % 4)) + 1) 255 := by
  generalize hf : HST_RECUR.COUNT (blockOf off / 4) (blockOf off % 4) = f
  have hlast : f.off ≠ HST_RECUR_LAST := by
    rw [← hf]
    simp only [HST_RECUR.COUNT, HST_RECUR, HST_RECUR_LAST]
    omega
  have hw : f.w = 8 := by rw [← hf]; rfl
  have hlo : f.lo + f.w ≤ 32 := by
    rw [← hf]
    simp only [HST_RECUR.COUNT]
    omega
  rw [Card.fld_of_regs (regs_recur c off bit), Card.fld_setFld_other _ _ _ _ hlast, Card.fld_setFld_other _ _ _ _ hlast, hf,
    Card.count, Card.fld_setFld_same _ _ _ hlo, hw]
  exact Nat.mod_eq_of_lt (by omega)

theorem fld_recur_offset (c : Card) {off : Nat} (bit : Nat) (h : blockOf off < 16) :
    (c.recur off bit).fld HST_RECUR_LAST.OFFSET = off := by
  rw [Card.fld_of_regs (regs_recur c off bit),
    Card.fld_setFld_beside _ HST_RECUR_LAST.BIT HST_RECUR_LAST.OFFSET bit rfl (by decide) (by decide),
    Card.fld_setFld_same _ _ _ (by decide)]
  exact Nat.mod_eq_of_lt (by unfold blockOf at h; change off < 65536; omega)

theorem fld_recur_bit (c : Card) (off : Nat) {bit : Nat} (h : bit < 32) :
    (c.recur off bit).fld HST_RECUR_LAST.BIT = bit := by
  rw [Card.fld_of_regs (regs_recur c off bit), Card.fld_setFld_same _ _ _ (by decide)]
  exact Nat.mod_eq_of_lt h

/-! ### Rings through a write -/

theorem hostKept_lockCheck (c : Card) (r : RegClass) (off : Nat) (w : Word) : HostKept c (c.lockCheck r off w) :=
  lockCheck_cases (P := HostKept c) c r off w (hostKept_refl c)
    (hostKept_trans ⟨rfl, rfl, rfl, rfl⟩ (hostKept_record _ _ _))

theorem hostKept_recur (c : Card) (off bit : Nat) : HostKept c (c.recur off bit) :=
  hostKept_trans ⟨rfl, rfl, rfl, rfl⟩ (hostKept_record _ _ _)

/-! ### The write that clears a bit as the hardware sets it -/

/-- The card once a write of `w`, in whose cycle the hardware sets bit `b`, stands in its register. -/
def Card.cleared (c : Card) (r : RegClass) (off b : Nat) (w : Word) : Card :=
  let d := (c.jrnFree 0x06).setReg off (writtenWord c r off w)
  d.setReg off (clearedWord r (d.reg off) w (bitWord b))

theorem hostKept_cleared (c : Card) (r : RegClass) (off b : Nat) (w : Word) : HostKept c (c.cleared r off b w) :=
  ⟨rfl, rfl, rfl, rfl⟩

theorem reg_cleared_other (c : Card) (r : RegClass) {off o : Nat} (b : Nat) (w : Word) (h : o ≠ off) :
    (c.cleared r off b w).reg o = c.reg o := by
  rw [Card.cleared, Card.reg_setReg_other _ _ h, Card.reg_setReg_other _ _ h]
  rfl

/-- The bit that the hardware sets reads 1. -/
theorem reg_cleared_bit (c : Card) (r : RegClass) (off : Nat) {b : Nat} (w : Word) (hb : b < 32)
    (hr : (BitVec.ofNat 32 r.w1c).getLsbD b = true) : ((c.cleared r off b w).reg off).getLsbD b = true := by
  rw [Card.cleared, Card.reg_setReg_same, clearedWord, BitVec.getLsbD_or,
    BitVec.getLsbD_and (x := bitWord b), getLsbD_bitWord hb, hr]
  simp

/-- A write of a register that sets nothing going, where the hardware sets in its cycle a bit that it clears. -/
theorem applyWrite_bitWord (c : Card) (r : RegClass) {off b : Nat} {w : Word} (hb : b < 32)
    (hr : (BitVec.ofNat 32 r.w1c).getLsbD b = true) (hw : w.getLsbD b = true) (hact : off ∉ actingRegs)
    (hwin : off ≠ CAN_WIN_STAT) : c.applyWrite r off w (bitWord b) =
      (((c.cleared r off b w).recur off b).fire (recurSource off b)).auditWrite r off w := by
  rw [applyWrite_eq, afterWrite_of_not_acting _ _ _ hact hwin, clearBits_bitWord _ r off hb hr hw]
  rfl

theorem hostKept_auditWrite (c : Card) (r : RegClass) (off : Nat) (w : Word) : HostKept c (c.auditWrite r off w) :=
  auditWrite_cases (P := HostKept c) c r off w (hostKept_refl c) fun ps => hostKept_record c _ ps

/-- A property that lasts outlives the audit record of a write and what follows the command. -/
theorem Lasting.settle_auditWrite {o : Nat} {P : Word → Prop} (h : Lasting o P) {c : Card} (old : Card) (r : RegClass) (off : Nat)
    (w : Word) (hdel : NoDeletes c) (hc : P (c.reg o)) : P ((Machine.settle old (c.auditWrite r off w)).reg o) := by
  refine h.settle old (hostKept_noDeletes (hostKept_auditWrite c r off w) hdel) ?_
  refine auditWrite_cases (P := fun d => P (d.reg o)) c r off w hc fun ps => ?_
  rwa [Card.reg_of_regs (Card.regs_record c _ ps)]

/-- A register with a W1C bit neither sets anything going nor counts nor is live. -/
theorem not_mem_of_w1c {off b : Nat} {r : RegClass} (hr : classOf off = some r) (h : r.w1c.testBit b = true) :
    off ∉ actingRegs ++ countingRegs ++ liveRegs := by
  intro hm
  rw [w1c_eq_zero hr hm, Nat.zero_testBit] at h
  exact absurd h (by decide)

theorem ne_counting {off : Nat} (h : off ∉ countingRegs) :
    (∀ j < 4, off ≠ HST_RECUR j) ∧ off ≠ HST_RECUR_LAST ∧ ∀ j < 4, off ≠ REC_DROP j := by
  have hrecur : ∀ j < 4, HST_RECUR j ∈ countingRegs := by decide
  have hname : HST_RECUR_LAST ∈ countingRegs := by decide
  have hdrop : ∀ j < 4, REC_DROP j ∈ countingRegs := by decide
  exact ⟨fun j hj heq => h (heq ▸ hrecur j hj), fun heq => h (heq ▸ hname), fun j hj heq => h (heq ▸ hdrop j hj)⟩

/-- The summary source of a block sets the block's bit of HST_EV_PEND. -/
theorem reg_fire_summary (c : Card) {k : Nat} (h : k < 16) :
    ((c.fire (64 + k)).reg (HST_EV_PEND ((64 + k) / 32))).getLsbD ((64 + k) % 32) = true := by
  unfold Card.fire
  rw [if_neg (by omega)]
  extract_lets d
  have hd : (d.reg (HST_EV_PEND ((64 + k) / 32))).getLsbD ((64 + k) % 32) = true :=
    reg_setFld_bit c _ (Nat.mod_lt _ (by decide))
  refine iteInduction (motive := fun e : Card => (e.reg (HST_EV_PEND ((64 + k) / 32))).getLsbD ((64 + k) % 32) = true)
    (fun _ => ?_) fun _ => hd
  rwa [Card.reg_of_regs (Card.regs_fireVec _ _)]

theorem lasting_evPend {k : Nat} (h : k < 16) (i : Nat) : Lasting (HST_EV_PEND k) fun v => v.getLsbD i = true := by
  refine lasting_bit i (fun hl => evPend_not_live hl k h rfl) fun j _ => ?_
  unfold HST_EV_PEND REC_DROP
  omega

theorem recurrences : Recurrences := by
  intro s r off b w hl hdel hacc hwin hb hr hw k f
  have hk : k < 16 := blockOf_of_classOf hacc.1
  have hrow := not_mem_of_w1c hacc.1 hr
  simp only [List.mem_append, not_or] at hrow
  obtain ⟨⟨hact, hcount⟩, hlive⟩ := hrow
  have hbit : (BitVec.ofNat 32 r.w1c).getLsbD b = true := by
    rw [BitVec.getLsbD_ofNat, hr]
    simp [hb]
  obtain ⟨hrecur, hname, hdrop⟩ := ne_counting hcount
  have hf : f.off = HST_RECUR (k / 4) := rfl
  have hj : k / 4 < 4 := by omega
  have hbecomes := becomes_registerWrite (bitWord b) hl hacc
  rw [applyWrite_bitWord _ r hb hbit hw hact hwin] at hbecomes
  apply gives_of_becomes hbecomes
  generalize hd : (s.card.lockCheck r off w).cleared r off b w = d
  have hkept : HostKept s.card d := hd ▸ hostKept_trans (hostKept_lockCheck _ r off w) (hostKept_cleared _ r off b w)
  have hnew : NoDeletes ((d.recur off b).fire (recurSource off b)) :=
    hostKept_noDeletes (hostKept_trans hkept (hostKept_trans (hostKept_recur d off b) (hostKept_fire _ _))) hdel
  have hlasts : ∀ {o P}, Lasting o P → P ((d.recur off b).reg o) → P ((settle s.card
      (((d.recur off b).fire (recurSource off b)).auditWrite r off w)).reg o) := fun h hc =>
    h.settle_auditWrite s.card r off w hnew (h.fire _ hc)
  have hcnt : d.fld f = s.card.fld f := by
    have hblock : blockOf f.off ≠ 15 := by
      rw [hf]
      unfold blockOf HST_RECUR
      omega
    unfold Card.fld
    rw [← hd, reg_cleared_other _ r b w (hf ▸ (hrecur _ hj).symm), lockCheck_reg _ r off w hblock]
  have hread : ((d.recur off b).reg off).getLsbD b = true := by
    rw [reg_recur_other d b hname (hrecur _ hj), ← hd]
    exact reg_cleared_bit _ r off w hb hbit
  have hcounted : (d.recur off b).fld f = min (s.card.fld f + 1) 255 := hcnt ▸ fld_recur_count d off b
  have hset := hlasts (lasting_bit b hlive hdrop) hread
  have hcount' := hlasts (lasting_recur (fun v => f.of v = min (s.card.fld f + 1) 255) (.inr ⟨_, hj, hf⟩)) hcounted
  have hoff := hlasts (lasting_recur (fun v => HST_RECUR_LAST.OFFSET.of v = off) (.inl rfl)) (fld_recur_offset d b hk)
  have hnum := hlasts (lasting_recur (fun v => HST_RECUR_LAST.BIT.of v = b) (.inl rfl)) (fld_recur_bit d off hb)
  refine ⟨hset, hcount', hoff, hnum, fun hpend => ?_⟩
  rw [Card.bit_iff]
  refine (lasting_evPend (k := (64 + k) / 32) (by omega) _).settle_auditWrite s.card r off w hnew ?_
  rw [recurSource, if_neg hpend]
  exact reg_fire_summary _ hk

/-- Settles O56: the word after a write, the lock, and recurrences are each a theorem of their own. -/
theorem registerValues : Obligations.RegisterValues := ⟨registerWriteValues, lockedWrites, recurrences⟩

end Sys2Proof.Machine

/-! Triggers that come due: the due action fires, or is refused while the card holds or drains (O14). -/

namespace Sys2Proof.Machine

open Sys2Proof.Claims

theorem exec_triggerFire (slot : Nat) (s : State) : exec (.triggerFire slot) s = execTriggerFire slot s := rfl

/-- The opcode of a row whose action waits for a trigger means that row. -/
theorem rowOf_triggered {r : Row} (h : r ∈ triggered) : rowOf r.opcode = some r := by
  simp only [triggered, List.mem_cons, List.not_mem_nil, or_false] at h
  rcases h with rfl | rfl | rfl | rfl | rfl | rfl | rfl | rfl | rfl | rfl | rfl | rfl | rfl <;> rfl

theorem holding_released (c : Card) (slot : Nat) : (released c slot).holding = c.holding := by
  unfold Card.holding
  rw [released, Card.fld_modOp c slot _ SYS_CFG_STAT.STATE (by decide) (by decide)]

theorem draining_released (c : Card) (slot : Nat) : (released c slot).draining = c.draining := by
  unfold Card.draining
  rw [released, Card.fld_modOp c slot _ SYS_SLOT.REMOVE (by decide) (by decide), Card.modOp_sys]

/-- A trigger that may fire leaves the time unit; CFG_HOLD and DRAINING are checked again, in this order (R361). -/
theorem fireTrigger_of_op {c : Card} {slot : Nat} {o : Op} {t : Trig} {r : Row} (hop : c.op slot = some o)
    (htrig : o.trig = some t) (hrow : rowOf o.opcode = some r) (hprod : o.produced = false)
    (hqual : ¬(t.kind = 2 ∧ c.unqualified = true)) : c.fireTrigger slot =
      if r.hold && c.holding then (released c slot).complete slot 3 0xB0F0
      else if r.drain o.desc && c.draining then (released c slot).complete slot 3 0x0003
      else r.fire slot (released c slot) := by
  rw [← holding_released c slot, ← draining_released c slot]
  unfold Card.fireTrigger
  simp only [hop, htrig, hrow, hprod, Bool.false_eq_true, if_false, if_neg hqual]
  rfl

/-- A due trigger fires. -/
theorem becomes_triggerFire_due {r : Row} (hr : r ∈ triggered) {s : State} {slot : Nat} {o : Op} {t : Trig} (hl : Live s)
    (h : Due r s slot o t) : Becomes (.triggerFire slot) s
      (if r.hold && s.card.holding then (released s.card slot).complete slot 3 0xB0F0
      else if r.drain o.desc && s.card.draining then (released s.card slot).complete slot 3 0x0003
      else r.fire slot (released s.card slot)) := by
  obtain ⟨hop, hopc, htrig, hkind, hdue, hslots, hprod, hqual⟩ := h
  have hrow : rowOf o.opcode = some r := hopc ▸ rowOf_triggered hr
  have hready : (o.trig.any (fun t => decide (t.kind ≠ 0) && s.card.trigDue t) && o.accepts s.card.tim.slot) = true := by
    simp [htrig, hkind, hdue, Op.accepts, hrow, hslots]
  have hb := becomes_of_on hl (exec_triggerFire slot s)
  simp only [hop] at hb
  rwa [if_pos hready, fireTrigger_of_op hop htrig hrow hprod hqual] at hb

theorem becomes_triggerFire_none {s : State} {slot : Nat} (hl : Live s)
    (h : ∀ o, s.card.op slot = some o → o.trig.any s.card.trigDue = false) : Becomes (.triggerFire slot) s s.card := by
  have hb := becomes_of_on hl (exec_triggerFire slot s)
  split at hb
  · exact hb
  · next o hop =>
    have hnone : o.trig.any (fun t => decide (t.kind ≠ 0) && s.card.trigDue t) = false := by
      have hdue := h o hop
      cases htrig : o.trig with
      | none => rfl
      | some t =>
        simp only [htrig, Option.any_some] at hdue ⊢
        rw [hdue, Bool.and_false]
    rwa [hnone, Bool.false_and, if_neg (by decide)] at hb

theorem triggerFires : TriggerFires := by
  refine ⟨fun r hr s slot o t hl hdue hhold hdrain => ?_, fun s slot hl h => becomes_triggerFire_none hl h⟩
  have hb := becomes_triggerFire_due hr hl hdue
  rwa [hhold, hdrain] at hb

theorem triggerRefused : TriggerRefused := by
  intro r hr s slot o t hl hdue
  have hb := becomes_triggerFire_due hr hl hdue
  refine ⟨fun hhold => ?_, fun hhold hdrain => ?_⟩
  · rwa [if_pos hhold] at hb
  · rwa [hhold, if_neg Bool.false_ne_true, if_pos hdrain] at hb

/-- Settles O14: a trigger that is due comes to the two checks of R361 (`becomes_triggerFire_due`); none of a slot that has
none due comes to anything. -/
theorem triggersFire : Obligations.TriggersFire := ⟨triggerFires, triggerRefused⟩

end Sys2Proof.Machine

/-! Slot and frame boundaries, and the bound of the slew (O18). -/

namespace Sys2Proof.Machine

open Sys2Proof.Claims

theorem exec_slotBoundary (overrun : Bool) (s : State) : exec (.slotBoundary overrun) s = execSlotBoundary overrun s := rfl

theorem exec_frameBoundary (overrun : Bool) (sensors : List Sensor) (ecc : List EccEvent) (s : State) :
    exec (.frameBoundary overrun sensors ecc) s = execFrameBoundary overrun sensors ecc s := rfl

theorem slotBoundaries : SlotBoundaries := by
  intro s overrun hl hslot
  have hb := becomes_of_on hl (exec_slotBoundary overrun s)
  rwa [if_neg (Nat.not_le.mpr hslot)] at hb

/-- Outside a replay the frame counter advances, and the frame's postmark is that of the boundary (R36). -/
theorem nextFrame_tim (c : Card) (hload : c.rcd.loadedFrame = none) (hentry : c.rcd.entry = none) :
    c.nextFrame.tim = { c.tim with
      slot := 0, elapsed := 0, corr := c.tim.corrNext, corrNext := 0, gotCur := c.tim.gotNext, gotNext := false
      frame := c.tim.frame + 1, framePm := c.pm } := by
  unfold Card.nextFrame
  simp only [hload, hentry, Option.isSome_none, Bool.false_eq_true, if_false, apply_ite Card.tim, Card.record_tim, ite_self]
  rfl

theorem frameBoundaries : FrameBoundaries := by
  refine ⟨fun s overrun sensors ecc hl hslot hruns => ?_, fun c hload hentry => ?_, fun s overrun sensors ecc hl hslot => ?_⟩
  · have hb := becomes_of_on hl (exec_frameBoundary overrun sensors ecc s)
    rwa [if_neg (not_not.mpr hslot), if_neg (by rw [hruns]; decide)] at hb
  · rw [nextFrame_tim c hload hentry]
    exact ⟨rfl, rfl, rfl, rfl⟩
  · have hb := becomes_of_on hl (exec_frameBoundary overrun sensors ecc s)
    rwa [if_pos hslot] at hb

theorem clampInt_mem {lo hi : Int} (h : lo ≤ hi) (v : Int) : lo ≤ clampInt lo hi v ∧ clampInt lo hi v ≤ hi := by
  unfold clampInt
  split
  · omega
  · split
    · omega
    · omega

/-- In LOCKED slot 7 closes the phase error of the frame's start, held to FRAME_SLEW (R35). -/
theorem slot7Length_locked {c : Card} (h : c.fld TIM_STATUS.TIME_STATE = 1) : c.slot7Length =
    (125000 + clampInt (-(c.fld TIM_FRAME_CFG.FRAME_SLEW : Int)) (c.fld TIM_FRAME_CFG.FRAME_SLEW)
      (-((c.tim.framePm + 500000 : Int) % 1000000 - 500000))).toNat := by
  simp only [Card.slot7Length, if_pos h]

theorem frameSlewBound : FrameSlewBound := by
  intro c hlocked hslew
  have hrange : -(c.fld TIM_FRAME_CFG.FRAME_SLEW : Int) ≤ c.fld TIM_FRAME_CFG.FRAME_SLEW := by omega
  obtain ⟨hlo, hhi⟩ := clampInt_mem hrange (-((c.tim.framePm + 500000 : Int) % 1000000 - 500000))
  rw [slot7Length_locked hlocked]
  omega

/-- Settles O18: a boundary in its slot is the effect of its command; a frame's correction is held to FRAME_SLEW
(`clampInt_mem`). -/
theorem slotsAndFrames : Obligations.SlotsAndFrames := ⟨slotBoundaries, frameBoundaries, frameSlewBound⟩

end Sys2Proof.Machine

/-! Plant time from P2 Ethernet, and the transmit stamp queue (O16). -/

namespace Sys2Proof.Machine

open Sys2Proof.Claims

/-! ### The ports, and the registers of the time unit -/

theorem Card.port_setPort_same (c : Card) (p : Nat) (x : TimPort) : (c.setPort p x).port p = x :=
  Store.get_set_same c.tim.ports (fun _ => {}) p x

theorem Card.port_setPort_other (c : Card) {p q : Nat} (x : TimPort) (h : q ≠ p) : (c.setPort p x).port q = c.port q :=
  Store.get_set_other c.tim.ports (fun _ => {}) x h

theorem Card.port_of_ports {c c' : Card} (h : c'.tim.ports = c.tim.ports) (p : Nat) : c'.port p = c.port p := by
  simp only [Card.port, h]

theorem port_choosePort (c : Card) (lost p : Nat) : (c.choosePort lost).port p = c.port p := rfl

theorem port_settle (old new : Card) (p : Nat) : (settle old new).port p = new.port p :=
  Card.port_of_ports (by rw [settle_tim]) p

/-- TIM_STATUS, TIM_OFFSET and TIM_UTC_OFFSET show no live contents. -/
theorem fld_settle_time (old new : Card) {f : Fld} (h : f.off ∈ [TIM_STATUS, TIM_OFFSET, TIM_UTC_OFFSET]) :
    (settle old new).fld f = new.fld f := by
  have hout : ∀ o ∈ [TIM_STATUS, TIM_OFFSET, TIM_UTC_OFFSET], o / 0x1000 ≠ 10 ∧ o / 0x1000 ≠ 12 ∧ o ∉ liveRegs := by
    decide +kernel
  obtain ⟨h10, h12, hlive⟩ := hout _ h
  exact fld_settle old new f h10 h12 hlive

theorem signed_toNat {w : Nat} (hw : 0 < w) (x : BitVec w) : signed w x.toNat = x.toInt := by
  have hpow : 2 ^ w = 2 * 2 ^ (w - 1) := by rw [← pow_succ', Nat.sub_add_cancel hw]
  rw [BitVec.toInt_eq_toNat_cond, signed, Nat.mod_eq_of_lt x.isLt]
  exact if_congr (by omega) rfl rfl

/-- A two's complement code reads back as the value, where it fits. -/
theorem signed_code {w : Nat} (hw : 0 < w) {v : Int} (hlo : -2 ^ (w - 1) ≤ v) (hhi : v < 2 ^ (w - 1)) :
    signed w (code w v) = v := by
  rw [code, ← BitVec.toNat_ofInt, signed_toNat hw, BitVec.toInt_ofInt_eq_self hw hlo hhi]

/-! ### What the servo and the grandmaster's qualification leave alone -/

/-- The ports' records, the clock and the registers of the time unit but TIM_STATUS and TIM_RATE_ADJ are as they were. -/
structure PortsKept (c c' : Card) : Prop where
  ports : c'.tim.ports = c.tim.ports
  clock : c'.tim.clock = c.tim.clock
  reg : ∀ off, off / 0x1000 = 1 → off ∉ [TIM_STATUS, TIM_RATE_ADJ] → c'.reg off = c.reg off

theorem PortsKept.refl (c : Card) : PortsKept c c := ⟨rfl, rfl, fun _ _ _ => rfl⟩

theorem PortsKept.trans {x y z : Card} (h : PortsKept x y) (k : PortsKept y z) : PortsKept x z :=
  ⟨k.ports.trans h.ports, k.clock.trans h.clock, fun off hb ho => (k.reg off hb ho).trans (h.reg off hb ho)⟩

theorem PortsKept.ite {p : Prop} [Decidable p] {c x y : Card} (hx : PortsKept c x) (hy : PortsKept c y) :
    PortsKept c (if p then x else y) := iteInduction (fun _ => hx) fun _ => hy

theorem PortsKept.port {c c' : Card} (h : PortsKept c c') (p : Nat) : c'.port p = c.port p := Card.port_of_ports h.ports p

theorem PortsKept.fld {c c' : Card} (h : PortsKept c c') (f : Fld) (hb : f.off / 0x1000 = 1)
    (ho : f.off ∉ [TIM_STATUS, TIM_RATE_ADJ]) : c'.fld f = c.fld f := by
  unfold Card.fld
  rw [h.reg f.off hb ho]

/-- A change of the time unit's own structure that leaves the ports and the clock alone. -/
theorem PortsKept.inside (c : Card) (t : Tim) (hp : t.ports = c.tim.ports := by rfl)
    (hc : t.clock = c.tim.clock := by rfl) : PortsKept c { c with tim := t } := ⟨hp, hc, fun _ _ _ => rfl⟩

theorem PortsKept.setFld (c : Card) (f : Fld) (v : Nat) (h : f.off ∈ [TIM_STATUS, TIM_RATE_ADJ]) : PortsKept c (c.setFld f v) :=
  ⟨rfl, rfl, fun _ _ ho => Card.reg_setFld_other c f v fun heq => ho (heq ▸ h)⟩

theorem PortsKept.record (c : Card) (ev : Nat) (ps : List Word) : PortsKept c (c.record ev ps) :=
  ⟨by rw [Card.record_tim], by rw [Card.record_tim], fun off _ _ => Card.reg_of_regs (Card.regs_record c ev ps) off⟩

theorem PortsKept.setRate (c : Card) : PortsKept c c.setRate := .setFld c _ _ (by decide)

theorem PortsKept.loseTime (c : Card) (n : Nat) : PortsKept c (c.loseTime n) :=
  (PortsKept.setFld c TIM_STATUS.TIME_STATE 0 (by decide)).trans (.record _ _ _)

theorem PortsKept.requalify (c : Card) : PortsKept c c.requalify := .inside c _

/-- The card once LOCKED has become HOLDOVER (R32). -/
def Card.holdover (c : Card) (cause : Nat) : Card :=
  ((({ c.requalify with tim.prop := 0, tim.holdSince := c.tim.clock } : Card).setRate).setFld TIM_STATUS.TIME_STATE 2).record
    0x1002 [pN cause]

theorem PortsKept.holdover (c : Card) (cause : Nat) : PortsKept c (c.holdover cause) :=
  (PortsKept.requalify c).trans ((PortsKept.inside _ _).trans ((PortsKept.setRate _).trans
    ((PortsKept.setFld _ TIM_STATUS.TIME_STATE 2 (by decide)).trans (.record _ _ _))))

theorem fld_holdover_state (c : Card) (cause : Nat) : (c.holdover cause).fld TIM_STATUS.TIME_STATE = 2 := by
  rw [Card.holdover, Card.fld_record _ _ _ _ (by decide) (by decide), Card.fld_setFld_same _ _ _ (by decide)]
  rfl

/-- A loss or change of the grandmaster, by cases of TIME_STATE and HOLDOVER_LIMIT (R32). -/
theorem loseGrandmaster_eq (c : Card) (cause : Nat) : c.loseGrandmaster cause =
    if c.fld TIM_STATUS.TIME_STATE = 1 then
      if c.fld TIM_HOLDOVER_CFG.HOLDOVER_LIMIT = 0 then (c.holdover cause).loseTime 0 else c.holdover cause
    else c.requalify := by
  rw [← (PortsKept.holdover c cause).fld TIM_HOLDOVER_CFG.HOLDOVER_LIMIT (by decide) (by decide)]
  rfl

theorem PortsKept.loseGrandmaster (c : Card) (cause : Nat) : PortsKept c (c.loseGrandmaster cause) := by
  rw [loseGrandmaster_eq]
  exact .ite (.ite ((PortsKept.holdover c cause).trans (.loseTime _ 0)) (.holdover c cause)) (.requalify c)

theorem PortsKept.follow (c : Card) (gm : BitVec 64) : PortsKept c (c.follow gm) := by
  unfold Card.follow
  split
  · exact .inside c _
  · exact .ite (.refl c) ((PortsKept.loseGrandmaster c 1).trans (.inside _ _))

theorem PortsKept.qualify (c : Card) (offset : Int) : PortsKept c (c.qualify offset) :=
  .ite (.ite ((PortsKept.inside c _).trans (.record _ _ _)) (.inside c _)) (.inside c _)

theorem PortsKept.servo (c : Card) (port : Nat) (offset : Int) : PortsKept c (c.servo port offset) :=
  .ite (.inside c _) ((PortsKept.inside c _).trans (.setRate _))

theorem PortsKept.lockTest (c : Card) (port : Nat) (offset : Int) : PortsKept c (c.lockTest port offset) :=
  (PortsKept.inside c _).trans (.ite ((PortsKept.inside _ _).trans
    ((PortsKept.setFld _ TIM_STATUS.TIME_STATE _ (by decide)).trans (.record _ _ _))) (.refl _))

/-- TIM_OFFSET shows the offset of the active port, within its range (R30). -/
def Card.showOffset (c : Card) (offset : Int) : Card :=
  c.setSfld TIM_OFFSET.OFFSET (clampInt (-2147483647) 2147483647 offset)

/-- Beside that, an offset feeds the qualification or the servo. -/
theorem PortsKept.offset (c : Card) (port : Nat) (offset : Int) : PortsKept (c.showOffset offset) (c.offset port offset) :=
  .ite (.refl _) (.ite (.qualify _ _) ((PortsKept.inside _ _).trans
    (.trans (.ite (.inside _ _) (.servo _ _ _)) (.lockTest _ _ _))))

theorem sfld_showOffset (c : Card) (offset : Int) :
    (c.showOffset offset).sfld TIM_OFFSET.OFFSET = clampInt (-2147483647) 2147483647 offset := by
  obtain ⟨hlo, hhi⟩ := clampInt_mem (lo := -2147483647) (hi := 2147483647) (by decide) offset
  have hcode : code 32 (clampInt (-2147483647) 2147483647 offset) < 2 ^ 32 := by unfold code; omega
  rw [Card.sfld, Card.showOffset, Card.setSfld, Card.fld_setFld_same _ _ _ (by decide)]
  exact (congrArg (signed 32) (Nat.mod_eq_of_lt hcode)).trans (signed_code (by decide) (by omega) (by omega))

theorem offset_port (c : Card) (port p : Nat) (offset : Int) : (c.offset port offset).port p = c.port p :=
  (PortsKept.offset c port offset).port p

theorem offset_clock (c : Card) (port : Nat) (offset : Int) : (c.offset port offset).tim.clock = c.tim.clock :=
  (PortsKept.offset c port offset).clock

theorem sfld_offset (c : Card) (port : Nat) (offset : Int) :
    (c.offset port offset).sfld TIM_OFFSET.OFFSET = clampInt (-2147483647) 2147483647 offset := by
  rw [Card.sfld, (PortsKept.offset c port offset).fld TIM_OFFSET.OFFSET (by decide) (by decide)]
  exact sfld_showOffset c offset

/-- The grandmaster that the time unit follows is the one announced (R29). -/
theorem follow_gm (c : Card) (gm : BitVec 64) : (c.follow gm).tim.gm = some gm := by
  unfold Card.follow
  split
  · rfl
  · next g hg =>
    split
    · next heq => rw [hg, heq]
    · rfl

/-! ### The events -/

/-- The card once a Sync of a port is noted (R29). -/
def Card.heardSync (c : Card) (port : Nat) (offset : Int) : Card :=
  (c.jrnTime 0 offset).setPort port { c.port port with link := true }

/-- The card once the offset of a Sync is measured, at the active port and while a lane runs (R30). -/
def Card.takeOffset (c : Card) (port : Nat) (offset : Int) : Card :=
  if port = c.fld TIM_STATUS.ACTIVE_PORT ∧ c.laneRuns then c.offset port offset else c

theorem takeOffset_port (c : Card) (port p : Nat) (offset : Int) : (c.takeOffset port offset).port p = c.port p :=
  iteInduction (motive := fun d : Card => d.port p = c.port p) (fun _ => offset_port c port p offset) fun _ => rfl

theorem takeOffset_clock (c : Card) (port : Nat) (offset : Int) : (c.takeOffset port offset).tim.clock = c.tim.clock :=
  iteInduction (motive := fun d : Card => d.tim.clock = c.tim.clock) (fun _ => offset_clock c port offset) fun _ => rfl

theorem movePort_of_none {c : Card} (h : c.tim.moveDue = none) (port : Nat) : c.movePort port = c := by
  unfold Card.movePort
  rw [h]

/-- A Sync, where no move of the active port waits for it. -/
theorem becomes_syncReceived {s : State} {port : Nat} {offset : Int} (hl : Live s) (hen : s.card.bit TIM_CTRL.PTP_EN = true)
    (hp : port < 2) (hmove : s.card.tim.moveDue = none) : Becomes (.syncReceived port offset) s
      (let c := (s.card.heardSync port offset).takeOffset port offset
      c.setPort port { c.port port with lastSync := c.tim.clock }) := by
  have hb := becomes_of_on hl (exec_syncReceived port offset s)
  have hstays : (s.card.heardSync port offset).movePort port = s.card.heardSync port offset :=
    movePort_of_none (c := s.card.heardSync port offset) hmove port
  rw [if_neg (by simp [hen, hp])] at hb
  exact hstays ▸ hb

theorem syncReceived_gives (s : State) (port : Nat) (offset : Int) (hl : Live s) (hen : s.card.bit TIM_CTRL.PTP_EN = true)
    (hp : port < 2) (hmove : s.card.tim.moveDue = none) :
    Gives (.syncReceived port offset) s fun c' => (c'.port port).link = true ∧ (c'.port port).lastSync = s.card.tim.clock
      ∧ (port = s.card.fld TIM_STATUS.ACTIVE_PORT → s.card.laneRuns = true →
          c'.sfld TIM_OFFSET.OFFSET = clampInt (-2147483647) 2147483647 offset) := by
  apply gives_of_becomes (becomes_syncReceived hl hen hp hmove)
  simp only [port_settle, Card.port_setPort_same, takeOffset_port, takeOffset_clock]
  refine ⟨?_, rfl, fun hact hruns => ?_⟩
  · exact congrArg TimPort.link (Card.port_setPort_same _ port _)
  · have htaken : (s.card.heardSync port offset).takeOffset port offset = (s.card.heardSync port offset).offset port offset :=
      if_pos ⟨hact, hruns⟩
    rw [Card.sfld, fld_settle_time _ _ (by decide), htaken]
    exact sfld_offset _ port offset

/-- The card once an Announce of a port is noted (R29). -/
def Card.heardAnnounce (c : Card) (port : Nat) (a : Announce) : Card :=
  (c.jrnTime 5 port).setPort port { c.port port with link := true, ann := some a }

/-- The active port's Announce names the grandmaster and the offset of UTC (R29). -/
def Card.followAnnounce (c : Card) (port : Nat) (a : Announce) : Card :=
  if port = c.fld TIM_STATUS.ACTIVE_PORT then (c.follow a.gm).setFld TIM_UTC_OFFSET.UTC_OFFSET a.utcOffset.toNat else c

theorem followAnnounce_port (c : Card) (port p : Nat) (a : Announce) : (c.followAnnounce port a).port p = c.port p :=
  iteInduction (motive := fun d : Card => d.port p = c.port p) (fun _ => (PortsKept.follow c a.gm).port p) fun _ => rfl

theorem becomes_announceReceived {s : State} {port : Nat} {a : Announce} (hl : Live s)
    (hen : s.card.bit TIM_CTRL.PTP_EN = true) (hp : port < 2) (hdom : a.domain = s.card.fld TIM_CTRL.DOMAIN) :
    Becomes (.announceReceived port a) s (((s.card.heardAnnounce port a).followAnnounce port a).choosePort 1) := by
  have hb := becomes_of_on hl (exec_announceReceived port a s)
  rwa [if_neg (by simp [hen, hp, hdom])] at hb

theorem announceReceived_gives (s : State) (port : Nat) (a : Announce) (hl : Live s)
    (hen : s.card.bit TIM_CTRL.PTP_EN = true) (hp : port < 2) (hdom : a.domain = s.card.fld TIM_CTRL.DOMAIN) :
    Gives (.announceReceived port a) s fun c' => (c'.port port).ann = some a ∧ (c'.port port).link = true
      ∧ (port = s.card.fld TIM_STATUS.ACTIVE_PORT → c'.fld TIM_UTC_OFFSET.UTC_OFFSET = a.utcOffset.toNat
          ∧ c'.tim.gm = some a.gm) := by
  apply gives_of_becomes (becomes_announceReceived hl hen hp hdom)
  have hport : (((s.card.heardAnnounce port a).followAnnounce port a).choosePort 1).port port
      = { s.card.port port with link := true, ann := some a } :=
    (followAnnounce_port _ port port a).trans (Card.port_setPort_same _ port _)
  rw [port_settle, hport]
  refine ⟨rfl, rfl, fun hact => ?_⟩
  have hfollows : (s.card.heardAnnounce port a).followAnnounce port a = ((s.card.heardAnnounce port a).follow a.gm).setFld
      TIM_UTC_OFFSET.UTC_OFFSET a.utcOffset.toNat := if_pos hact
  rw [fld_settle_time _ _ (by decide), settle_tim, hfollows]
  refine ⟨?_, follow_gm _ a.gm⟩
  exact (Card.fld_setFld_same _ TIM_UTC_OFFSET.UTC_OFFSET _ (by decide)).trans (Nat.mod_eq_of_lt a.utcOffset.isLt)

/-- The card once a port announces nothing (R32). -/
def Card.silent (c : Card) (port : Nat) : Card := (c.setPort port { c.port port with ann := none }).choosePort 1

theorem silent_ann (c : Card) (port : Nat) : ((c.silent port).port port).ann = none :=
  congrArg TimPort.ann (Card.port_setPort_same c port _)

theorem silent_port_other (c : Card) {port p : Nat} (h : p ≠ port) : (c.silent port).port p = c.port p :=
  Card.port_setPort_other c _ h

/-- Where neither port announces anything, the grandmaster is silent. -/
theorem grandmasterSilent_of_none {c : Card} (h0 : (c.port 0).ann = none) (h1 : (c.port 1).ann = none) :
    c.grandmasterSilent = true := by
  simp [Card.grandmasterSilent, h0, h1]

theorem becomes_announceTimeout {s : State} {port : Nat} (hl : Live s) (hp : port < 2) : Becomes (.announceTimeout port) s
    (if (s.card.silent port).grandmasterSilent then (s.card.silent port).loseGrandmaster 0 else s.card.silent port) := by
  have hb := becomes_of_on hl (exec_announceTimeout port s)
  rwa [if_neg (Nat.not_le.mpr hp)] at hb

theorem announceTimeout_gives (s : State) (port : Nat) (hl : Live s) (hp : port < 2) :
    Gives (.announceTimeout port) s fun c' => (c'.port port).ann = none
      ∧ ((s.card.port (1 - port)).ann = none → s.card.fld TIM_STATUS.TIME_STATE = 1 →
          s.card.fld TIM_HOLDOVER_CFG.HOLDOVER_LIMIT ≠ 0 → c'.fld TIM_STATUS.TIME_STATE = 2) := by
  apply gives_of_becomes (becomes_announceTimeout hl hp)
  have hkept : PortsKept (s.card.silent port) (if (s.card.silent port).grandmasterSilent then
      (s.card.silent port).loseGrandmaster 0 else s.card.silent port) := .ite (.loseGrandmaster _ 0) (.refl _)
  refine ⟨?_, fun hother hlocked hlimit => ?_⟩
  · rw [port_settle, hkept.port]
    exact silent_ann s.card port
  · have hboth : ((s.card.silent port).port 0).ann = none ∧ ((s.card.silent port).port 1).ann = none := by
      have hown := silent_ann s.card port
      rw [← silent_port_other s.card (port := port) (by omega)] at hother
      interval_cases port
      · exact ⟨hown, hother⟩
      · exact ⟨hother, hown⟩
    obtain ⟨h0, h1⟩ := hboth
    have hregs : ∀ f, (s.card.silent port).fld f = s.card.fld f := fun _ => rfl
    rw [fld_settle_time _ _ (by decide), if_pos (grandmasterSilent_of_none h0 h1), loseGrandmaster_eq, hregs, hregs,
      if_pos hlocked, if_neg hlimit]
    exact fld_holdover_state _ 0

theorem portLinkLoss_gives (s : State) (port : Nat) (hl : Live s) (hp : port < 2) :
    Gives (.portLinkLoss port) s fun c' => (c'.port port).link = false
      ∧ c'.fld TIM_STATUS.TIME_STATE = s.card.fld TIM_STATUS.TIME_STATE := by
  have hb := becomes_of_on hl (exec_portLinkLoss port s)
  rw [if_neg (Nat.not_le.mpr hp)] at hb
  apply gives_of_becomes hb
  rw [port_settle, fld_settle_time _ _ (by decide), port_choosePort, Card.port_setPort_same]
  exact ⟨rfl, rfl⟩

theorem holdoverLimitExpiry_gives (s : State) (hl : Live s) (hstate : s.card.fld TIM_STATUS.TIME_STATE = 2) :
    Gives .holdoverLimitExpiry s fun c' => c'.fld TIM_STATUS.TIME_STATE = 0 ∧ c'.tim.qualified = s.card.tim.qualified := by
  have hb := becomes_of_on hl (exec_holdoverLimitExpiry s)
  rw [if_pos hstate] at hb
  apply gives_of_becomes hb
  rw [fld_settle_time _ _ (by decide), settle_tim, Card.loseTime, Card.fld_record _ _ _ _ (by decide) (by decide),
    Card.fld_setFld_same _ _ _ (by decide), Card.record_tim]
  exact ⟨rfl, rfl⟩

/-! ### The transmit stamp queue -/

/-- A stamp of the queue is that of this key. -/
def hasKey (seqId port : Nat) (x : Nat × Nat × Nat) : Bool := decide (x.1 = seqId ∧ x.2.1 = port)

/-- A stamp is lost (R34): it is counted, TSQ_OVF is set, and the first loss since it was clear is recorded. -/
def Card.loseStamp (c : Card) (port seqId : Nat) : Card :=
  let d := (c.count TIM_TSQ_STAT.LOST).stick TIM_STATUS.TSQ_OVF
  if !c.bit TIM_STATUS.TSQ_OVF then d.record 0x1011 [pN seqId, pN port] else d

/-- A stamp enters the queue (R34): it replaces one of its key, and a full queue drops it. -/
def Card.queueStamp (c : Card) (port seqId : Nat) : Card :=
  if c.tim.tsq.any (hasKey seqId port) then
    ({ c with tim.tsq := c.tim.tsq.filter (fun x => !hasKey seqId port x) ++ [(seqId, port, c.pm)] } : Card).loseStamp port seqId
  else if 32 ≤ c.tim.tsq.length then c.loseStamp port seqId
  else { c with tim.tsq := c.tim.tsq ++ [(seqId, port, c.pm)] }

theorem exec_delayReqEgress_eq (port seqId : Nat) (s : State) :
    exec (.delayReqEgress port seqId) s = s.on fun c => c.queueStamp port seqId := by
  have hkey : ∀ x, decide (¬(x.1 = seqId ∧ x.2.1 = port)) = !hasKey seqId port x := fun x => decide_not
  rw [exec_delayReqEgress]
  unfold execDelayReqEgress
  simp only [hkey]
  rfl

theorem any_hasKey_eq_false {seqId port : Nat} {q : List (Nat × Nat × Nat)}
    (h : ∀ x ∈ q, ¬(x.1 = seqId ∧ x.2.1 = port)) : q.any (hasKey seqId port) = false :=
  List.any_eq_false.mpr fun x hx => by simpa [hasKey] using h x hx

theorem loseStamp_cases {P : Card → Prop} (c : Card) (port seqId : Nat)
    (h : P ((c.count TIM_TSQ_STAT.LOST).stick TIM_STATUS.TSQ_OVF))
    (hrec : P (((c.count TIM_TSQ_STAT.LOST).stick TIM_STATUS.TSQ_OVF).record 0x1011 [pN seqId, pN port])) :
    P (c.loseStamp port seqId) := iteInduction (fun _ => hrec) fun _ => h

/-- After every command TIM_TSQ_STAT shows the queue's length. -/
theorem fld_settle_tsqFill (old new : Card) (h : new.tim.tsq.length < 64) :
    (settle old new).fld TIM_TSQ_STAT.FILL = new.tim.tsq.length := by
  have hlive : TIM_TSQ_STAT ∈ liveRegs := by simp [liveRegs]
  have hshown : (settle old new).reg TIM_TSQ_STAT = _ := shown_settle old new TIM_TSQ_STAT hlive
  have hword : (settle old new).live TIM_TSQ_STAT =
      TIM_TSQ_STAT.FILL.put ((settle old new).reg TIM_TSQ_STAT) (settle old new).tim.tsq.length := by
    unfold Card.live
    rw [if_neg (by decide), if_pos rfl]
  rw [Card.fld, show TIM_TSQ_STAT.FILL.off = TIM_TSQ_STAT from rfl, hshown, hword, Fld.of_put _ _ _ (by decide), settle_tim]
  exact Nat.mod_eq_of_lt h

theorem delayReqEgress_queues (s : State) (port seqId : Nat) (hl : Live s)
    (hkey : ∀ x ∈ s.card.tim.tsq, ¬(x.1 = seqId ∧ x.2.1 = port)) (hroom : s.card.tim.tsq.length < 32) :
    Gives (.delayReqEgress port seqId) s fun c' => c'.tim.tsq = s.card.tim.tsq ++ [(seqId, port, s.card.pm)]
      ∧ c'.fld TIM_TSQ_STAT.FILL = s.card.tim.tsq.length + 1 := by
  have hb := becomes_of_on hl (exec_delayReqEgress_eq port seqId s)
  rw [Card.queueStamp, any_hasKey_eq_false hkey, if_neg Bool.false_ne_true, if_neg (Nat.not_le.mpr hroom)] at hb
  apply gives_of_becomes hb
  have hlen : (s.card.tim.tsq ++ [(seqId, port, s.card.pm)]).length = s.card.tim.tsq.length + 1 := List.length_append
  refine ⟨by rw [settle_tim], ?_⟩
  rw [fld_settle_tsqFill]
  · exact hlen
  · exact hlen ▸ (by omega)

theorem delayRespReceived_gives (s : State) (port seqId : Nat) (delay : Int) (hl : Live s)
    (hkey : (s.card.tim.tsq.any fun x => decide (x.1 = seqId ∧ x.2.1 = port)) = true) :
    Gives (.delayRespReceived port seqId delay) s fun c' => (c'.port port).delay = delay
      ∧ (∀ x ∈ c'.tim.tsq, ¬(x.1 = seqId ∧ x.2.1 = port)) := by
  have hb := becomes_of_on hl (exec_delayRespReceived port seqId delay s)
  rw [if_pos hkey] at hb
  apply gives_of_becomes hb
  rw [port_settle, settle_tim]
  refine ⟨congrArg TimPort.delay (Card.port_setPort_same _ port _), fun x hx => ?_⟩
  exact of_decide_eq_true (List.mem_filter.mp hx).2

theorem delayReqEgress_full (s : State) (port seqId : Nat) (hl : Live s)
    (hkey : ∀ x ∈ s.card.tim.tsq, ¬(x.1 = seqId ∧ x.2.1 = port)) (hfull : 32 ≤ s.card.tim.tsq.length)
    (hovf : s.card.bit TIM_STATUS.TSQ_OVF = false) : Becomes (.delayReqEgress port seqId) s
      (((s.card.count TIM_TSQ_STAT.LOST).stick TIM_STATUS.TSQ_OVF).record 0x1011 [pN seqId, pN port]) := by
  have hb := becomes_of_on hl (exec_delayReqEgress_eq port seqId s)
  have hfirst : (!s.card.bit TIM_STATUS.TSQ_OVF) = true := by rw [hovf]; rfl
  rwa [Card.queueStamp, any_hasKey_eq_false hkey, if_neg Bool.false_ne_true, if_pos hfull, Card.loseStamp, if_pos hfirst] at hb

theorem loseStamp_tim (c : Card) (port seqId : Nat) : (c.loseStamp port seqId).tim = c.tim :=
  loseStamp_cases (P := fun d => d.tim = c.tim) c port seqId rfl (Card.record_tim _ _ _)

theorem bit_loseStamp (c : Card) (port seqId : Nat) : (c.loseStamp port seqId).bit TIM_STATUS.TSQ_OVF = true := by
  have hstick : ((c.count TIM_TSQ_STAT.LOST).stick TIM_STATUS.TSQ_OVF).fld TIM_STATUS.TSQ_OVF = 1 :=
    Card.fld_setFld_same _ TIM_STATUS.TSQ_OVF 1 (by decide)
  refine decide_eq_true (loseStamp_cases (P := fun d => d.fld TIM_STATUS.TSQ_OVF ≠ 0) c port seqId ?_ ?_)
  · rw [hstick]
    decide
  · rw [Card.fld_record _ _ _ _ (by decide) (by decide), hstick]
    decide

theorem delayReqEgress_replaces (s : State) (port seqId : Nat) (hl : Live s)
    (hkey : ∃ x ∈ s.card.tim.tsq, x.1 = seqId ∧ x.2.1 = port) :
    Gives (.delayReqEgress port seqId) s fun c' => c'.bit TIM_STATUS.TSQ_OVF = true
      ∧ c'.tim.tsq.getLast? = some (seqId, port, s.card.pm) := by
  have hb := becomes_of_on hl (exec_delayReqEgress_eq port seqId s)
  obtain ⟨x, hx, hxkey⟩ := hkey
  rw [Card.queueStamp, if_pos (List.any_eq_true.mpr ⟨x, hx, decide_eq_true hxkey⟩)] at hb
  apply gives_of_becomes hb
  rw [Card.bit, fld_settle_time _ _ (by decide), settle_tim, loseStamp_tim]
  exact ⟨bit_loseStamp _ port seqId, List.getLast?_concat⟩

/-- What P2 Ethernet brings, event by event. -/
theorem ptpEvents : PtpEvents :=
  ⟨syncReceived_gives, announceReceived_gives, announceTimeout_gives, portLinkLoss_gives, holdoverLimitExpiry_gives,
    delayReqEgress_queues, delayRespReceived_gives⟩

theorem stampQueueOverflow : StampQueueOverflow := fun s port seqId hl =>
  ⟨delayReqEgress_full s port seqId hl, delayReqEgress_replaces s port seqId hl⟩

/-- Settles O16: each event is one effect on the card; the servo and the qualification leave the ports' records and the
registers of what was measured alone (`PortsKept`), and TIM_TSQ_STAT is live. -/
theorem ptpAndStamps : Obligations.PtpAndStamps := ⟨ptpEvents, stampQueueOverflow⟩

end Sys2Proof.Machine

/-! Arithmetic of the tiles: what a ready tile does with an instruction that does not trap, the outcomes of the operations
that instructions share, and the kinds of arithmetic instructions (O24). -/

namespace Sys2Proof.Machine

open Sys2Proof.Claims

/-! ### An instruction on a ready tile -/

/-- A ready tile executes the instruction; without an error of the memory or the lanes an outcome that is no trap stands. -/
theorem tileRun_of_ready {s : State} {x : TileOp} {product : Bool} {f : TileCtx → Tile → TileOp → TileOut} {o : TileOut}
    (hready : Ready x s) (hf : f ((fetched x s.card).tileCtx x.tile) (tileAt x s.card) x = o)
    (htrap : ∀ code lane, o ≠ .trap code lane) :
    s.card.tileRun x product f = ((fetched x s.card).tileOut x.tile (tileAt x s.card) o).draw.2 := by
  obtain ⟨htile, hstate, hrun, hstall, hmem, hlane⟩ := hready
  unfold Card.tileRun
  rw [if_neg (by simp [htile, hstate, hrun, hstall])]
  extract_lets c₁ c₂ y fetch c₃
  refine congrArg (fun c : Card => c.draw.2) ?_
  unfold c₃
  have hf' : f (c₂.tileCtx x.tile) y x = o := hf
  rw [hf', hmem, hlane]
  cases o with
  | trap code lane => exact absurd rfl (htrap code lane)
  | _ => rfl

/-- Wherever `g` gives an outcome, `m` is that outcome and no trap. -/
def TileOut.Answers (m : TileOut) (g : Option TileOut) : Prop := ∀ o, g = some o → m = o ∧ ∀ code lane, o ≠ .trap code lane

/-- A command that runs `f` on its tile does what `f` answers. -/
theorem does_of_answers {i : TileOp → Instr} {product : Bool} {f : TileCtx → Tile → TileOp → TileOut}
    {g : TileCtx → Tile → TileOp → Option TileOut} (hexec : ∀ x s, exec (i x) s = s.on fun c => c.tileRun x product f)
    (h : ∀ k t x, (f k t x).Answers (g k t x)) : Does i g := by
  intro s x o hl hready hg
  obtain ⟨hf, htrap⟩ := h _ _ _ o hg
  have hb := becomes_of_on hl (hexec x s)
  rwa [tileRun_of_ready hready hf htrap] at hb

/-! ### The shared operations of the instructions -/

theorem answers_ok (t : Tile) : (TileOut.ok t).Answers (some (.ok t)) := by
  rintro o ⟨⟩
  exact ⟨rfl, nofun⟩

/-- Where the condition fails there is nothing to answer. -/
theorem TileOut.Answers.guard {m : TileOut} {g : Option TileOut} {p : Prop} [Decidable p] (h : p → m.Answers g) :
    m.Answers (if p then g else none) := by
  split
  · next hp => exact h hp
  · exact nofun

/-- RESERVED traps only where the fields do not meet the row (R120), and there is nothing to answer there. -/
theorem TileOut.Answers.reserved {m : TileOut} {g : Option TileOut} {p : Prop} [Decidable p] (h : m.Answers g) :
    (unlessReserved (decide p) m).Answers (if p then g else none) :=
  .guard fun hp => by rwa [unlessReserved, if_pos (decide_eq_true hp)]

theorem answers_accumulate (t : Tile) (x : TileOp) (srcs : List (BitVec 9)) (g : Nat → Int → Int) :
    (t.accumulate x.v srcs fun l acc => clampAcc (g l acc)).Answers (accumulates t x srcs g) :=
  .guard fun hrange => by
    rw [Tile.accumulate, hrange]
    exact answers_ok _

theorem answers_compute (k : TileCtx) (t : Tile) (x : TileOp) (srcs : List (BitVec 9)) (ls : List Nat) (g : Nat → Nat × Nat) :
    (t.compute k.cls srcs x.d ls g).Answers (writes k t x srcs ls (fun l => (g l).1) fun l => (g l).2) :=
  .guard fun ⟨hrange, hwrite⟩ => by
    rw [Tile.compute, hrange, hwrite]
    exact answers_ok _

/-! ### The kinds of arithmetic instructions -/

/-- An instruction that puts `g` of the accumulator, clamped, into it (R57). -/
theorem does_accumulate {i : TileOp → Instr} {product : Bool} {ok : TileOp → Prop} [DecidablePred ok]
    {srcs : TileOp → List (BitVec 9)} (g : Tile → TileOp → Nat → Int → Int)
    (hexec : ∀ x s, exec (i x) s = s.on fun c => c.tileRun x product fun _ t x =>
      unlessReserved (decide (ok x)) (t.accumulate x.v (srcs x) fun l acc => clampAcc (g t x l acc))) :
    Does i fun _ t x => if ok x then accumulates t x (srcs x) (g t x) else none :=
  does_of_answers hexec fun _ t x => (answers_accumulate t x (srcs x) (g t x)).reserved

/-- An 18-bit operation on A and B writes its exact result, clamped (R60). -/
theorem does_alu {i : TileOp → Instr} {product : Bool} (g : Int → Int → Int)
    (hexec : ∀ x s, exec (i x) s = s.on fun c => c.tileRun x product fun k t x => tileAlu k t x g) :
    Does i fun k t x => if x.v.toNat ≤ 1 then computes k t x [x.a, x.b] (x.v.getLsbD 0) (fun l =>
      g (val t (x.v.getLsbD 0) x.a l) (val t (x.v.getLsbD 0) x.b l)) else none :=
  does_of_answers hexec fun k t x => (answers_compute k t x [x.a, x.b] t.on _).reserved

/-- An 18-bit operation on A alone, from format `src` to format `dst`, writes its exact result, clamped (R60). -/
theorem does_unary {i : TileOp → Instr} {product : Bool} {ok : TileOp → Prop} [DecidablePred ok] {src dst : TileOp → Bool}
    (g : TileOp → Int → Int) (hexec : ∀ x s, exec (i x) s = s.on fun c => c.tileRun x product fun k t x =>
      tileUnary k t x (decide (ok x)) (src x) (dst x) (g x)) :
    Does i fun k t x => if ok x then computes k t x [x.a] (dst x) (fun l => g x (val t (src x) x.a l)) else none :=
  does_of_answers hexec fun k t x => (answers_compute k t x [x.a] t.on _).reserved

/-! ### The accumulator -/

theorem clampAcc_eq (v : Int) : clampAcc v = if v < -(2 ^ 41) then (-(2 ^ 41), true)
    else if 2 ^ 41 - 1 < v then (2 ^ 41 - 1, true) else (v, false) := by
  unfold clampAcc clampInt
  split
  · next hlow => exact Prod.ext rfl (decide_eq_true hlow.ne')
  · split
    · next hhigh => exact Prod.ext rfl (decide_eq_true hhigh.ne)
    · exact Prod.ext rfl (decide_eq_false (not_not.mpr rfl))

/-! ### O24 -/

theorem tileAbs_eq (k : TileCtx) (t : Tile) (x : TileOp) :
    tileAbs k t x = tileUnary k t x (decide (x.v = 1 ∧ x.b = 0)) true true fun a => (a.natAbs : Int) := by
  have habs : (fun a : Int => if a < 0 then -a else a) = fun a => (a.natAbs : Int) := by
    funext a
    split <;> omega
  rw [tileAbs, habs]

theorem exec_abs (x : TileOp) (s : State) : exec (.abs x) s = s.on fun c => c.tileRun x false fun k t x =>
    tileUnary k t x (decide (x.v = 1 ∧ x.b = 0)) true true fun a => (a.natAbs : Int) := by
  simp only [← tileAbs_eq]
  rfl

/-- Settles O24: each instruction is of one of the kinds above, with its exact value; NARROW alone writes D from an
accumulator. -/
theorem tileArithmetic : Obligations.TileArithmetic :=
  ⟨clampAcc_eq,
    does_accumulate (fun t x l acc => acc + tileProduct t x l) fun _ _ => rfl,
    does_accumulate (fun t x l acc => acc - tileProduct t x l) fun _ _ => rfl,
    does_accumulate (fun t x l _ => tileProduct t x l) fun _ _ => rfl,
    does_accumulate (fun t x l _ => tileScaled t x l) fun _ _ => rfl,
    does_accumulate (fun t x l acc => acc + tileScaled t x l) fun _ _ => rfl,
    does_of_answers (f := tileNarrow) (fun _ _ => rfl) fun k t x => (answers_compute k t x [] t.on _).reserved,
    does_alu (· + ·) fun _ _ => rfl,
    does_alu (· - ·) fun _ _ => rfl,
    does_alu Min.min fun _ _ => rfl,
    does_alu Max.max fun _ _ => rfl,
    does_unary (fun _ a => -a) fun _ _ => rfl,
    does_unary (fun _ a => (a.natAbs : Int)) exec_abs,
    does_unary (fun x a => a * (2 ^ x.b.toNat : Nat)) fun _ _ => rfl,
    does_unary (fun x a => truncShift a x.b.toNat) fun _ _ => rfl,
    does_unary (fun _ a => a) fun _ _ => rfl⟩

end Sys2Proof.Machine

/-! Accepted descriptors, and the opcodes of the cells: chains, tiles, estimator, tracker, engines and dispatcher (O10). -/

namespace Sys2Proof.Machine

open Sys2Proof.Claims

/-! ### An accepted descriptor -/

/-- The descriptor of the operation that has entered a slot is the one that arrived. -/
theorem descOf_entered (r : Row) (d : Desc) (c : Card) (a : Nat × Nat) : (entered r d c a).descOf d.slot = d := by
  simp only [entered, Card.enter, Card.descOf, Card.op, Card.setOp, Store.get_set_same]

/-- Past the checks of R312, acceptance is the row's start on the card in which the descriptor is in flight. -/
theorem accept_of_accepted {r : Row} {d : Desc} {c : Card} {a : Nat × Nat} (h : Accepted r d c a) :
    c.accept r d = r.start d.slot (entered r d c a) := by
  obtain ⟨⟨harrives, hfence⟩, hhead, hown⟩ := h
  have hnow : (taken c a).acceptNow r d a.2 = r.start d.slot (entered r d c a) := by
    rw [noted] at hhead hown
    simp only [Card.acceptNow, hhead, hown]
    rfl
  have harr : c.hst.arriving.find? (·.1 == d.sq) = some a := harrives
  have hfree : ({ c with hst.arriving := c.hst.arriving.erase a } : Card).fenced d = false := hfence
  rw [Card.accept, harr]
  simp only [hfree, Bool.false_eq_true, if_false]
  exact hnow

theorem becomes_start {i : Desc → Instr} {r : Row} {s : State} {d : Desc} {a : Nat × Nat}
    (hexec : exec (i d) s = s.on fun c => c.accept r d) (hl : Live s) (h : Accepted r d s.card a) :
    Becomes (i d) s (r.start d.slot (entered r d s.card a)) := by
  have hb := becomes_of_on hl hexec
  rwa [accept_of_accepted h] at hb

/-- A command whose row's start, on a card that holds the descriptor in its slot, is `f`. -/
theorem takes_of_start {i : Desc → Instr} {r : Row} {f : Desc → Card → Card}
    (hexec : ∀ d s, exec (i d) s = s.on fun c => c.accept r d)
    (hstart : ∀ d c, c.descOf d.slot = d → r.start d.slot c = f d c) : Takes i r f := by
  intro s d a hl h
  have hb := becomes_start (hexec d s) hl h
  rwa [hstart d _ (descOf_entered r d s.card a)] at hb

/-- A command whose row's start, on a card that holds the descriptor in its slot, leads to `P`. -/
theorem ends_of_start {i : Desc → Instr} {r : Row} {P : Desc → Card → Card → Prop}
    (hexec : ∀ d s, exec (i d) s = s.on fun c => c.accept r d)
    (hstart : ∀ d old c, c.descOf d.slot = d → P d c (settle old (r.start d.slot c))) : Ends i r P :=
  fun s d a hl h => gives_of_becomes (becomes_start (hexec d s) hl h) (hstart d _ _ (descOf_entered r d s.card a))

/-- An accepted descriptor has passed its chapter's RESERVED_FIELD check. -/
theorem args_of_accepted {r : Row} {d : Desc} {c : Card} {a : Nat × Nat} (h : Accepted r d c a) :
    r.args (noted r d c a) d = none := by
  obtain ⟨_, _, hown⟩ := h
  unfold Card.ownChecks at hown
  split at hown
  · cases hown
  · assumption

/-! ### States of satellites -/

/-- What follows a command leaves the registers of the chains alone. -/
theorem fld_settle_chn (old new : Card) {f : Fld} (h : f.off / 0x1000 = 2) : (settle old new).fld f = new.fld f :=
  fld_settle_block old new f (by omega)

theorem satState_block {n p : Nat} (hn : StringNo n) (hp : 1 ≤ p ∧ p ≤ 32) : (CHN_SAT_STATE.STATE n p).off / 0x1000 = 2 := by
  obtain ⟨h1, h4⟩ := hn
  simp only [CHN_SAT_STATE.STATE, CHN_SAT_STATE]
  omega

/-- A place whose STATE changes shows the new one. -/
theorem satState_setSatState (c : Card) {n p v : Nat} (hn : StringNo n) (hp : 1 ≤ p ∧ p ≤ 32) (hv : v < 8) :
    (c.setSatState n p v).satState n p = v := by
  have hblock := satState_block hn hp
  have hoff : (CHN_SAT_STATE.STATE n p).off ≠ CHN_ADMITTED n := by
    simp only [CHN_SAT_STATE.STATE, CHN_SAT_STATE, CHN_ADMITTED]
    omega
  unfold Card.setSatState
  split
  · assumption
  · rw [Card.satState, Card.fld_fire _ _ _ (by omega) (by omega), Card.fld_setFld_other _ _ _ _ hoff,
      Card.fld_setFld_same _ _ _ (by simp [CHN_SAT_STATE.STATE])]
    exact Nat.mod_eq_of_lt hv

/-! ### The records of chains, places and engines -/

theorem Card.chain_setChain_same (c : Card) (n : Nat) (x : Chain) : (c.setChain n x).chain n = x :=
  Store.get_set_same c.chn.chains (fun _ => {}) n x

theorem Card.chain_modChain_same (c : Card) (n : Nat) (f : Chain → Chain) : (c.modChain n f).chain n = f (c.chain n) :=
  c.chain_setChain_same n _

theorem chain_settle (old new : Card) (n : Nat) : (settle old new).chain n = new.chain n := by
  rw [Card.chain, Card.chain, settle_chn]

theorem Card.sat_setSat_same (c : Card) (n p : Nat) (x : Sat) : (c.setSat n p x).sat n p = x :=
  Store.get_set_same c.chn.sats (fun _ => {}) (placeKey n p) x

theorem sat_settle (old new : Card) (n p : Nat) : (settle old new).sat n p = new.sat n p := by
  rw [Card.sat, Card.sat, settle_chn]

theorem Card.eng_modEng_same (c : Card) (n : Nat) (f : CnvStr → CnvStr) : (c.modEng n f).eng n = f (c.eng n) :=
  Store.get_set_same c.cnv.strs (fun _ => {}) n _

theorem eng_settle (old new : Card) (n : Nat) : (settle old new).eng n = new.eng n := by
  rw [Card.eng, Card.eng, settle_cnv]

/-! ### O10 -/

/-- CHN_ADMIT names a place of a string. -/
theorem place_of_chnAdmit {d : Desc} {c : Card} (h : rowChnAdmit.args c d = none) :
    StringNo (d.byte 0) ∧ 1 ≤ d.byte 1 ∧ d.byte 1 ≤ 32 := by
  simp only [rowChnAdmit, chnArgs, stringOk, placeOk, ite_eq_left_iff, reduceCtorEq, imp_false, not_not,
    Bool.and_eq_true, decide_eq_true_eq] at h
  obtain ⟨⟨⟨_, hstring⟩, hplace⟩, _⟩ := h
  exact ⟨hstring, hplace⟩

/-- CHN_ADMIT refuses the satellite, or asks for the ASSIGN that admits it. -/
theorem chnAdmit_ends : Ends .chnAdmit rowChnAdmit (fun d c c' =>
    (d.byte 2 = 1 → c'.satState (d.byte 0) (d.byte 1) = 4)
    ∧ (d.byte 2 ≠ 1 → c'.chn = ((c.modSat (d.byte 0) (d.byte 1) fun x => { x with admitOp := some d.slot }).assign
        (d.byte 0) (d.byte 1)).chn)) := by
  intro s d a hl h
  obtain ⟨hstring, hplace⟩ := place_of_chnAdmit (args_of_accepted h)
  have hblock := satState_block hstring hplace
  apply gives_of_becomes (becomes_start (i := .chnAdmit) rfl hl h)
  simp only [rowChnAdmit, descOf_entered]
  refine ⟨fun hrefuse => ?_, fun hadmit => ?_⟩
  · rw [if_pos hrefuse, Card.satState, fld_settle_chn _ _ hblock, Card.fld_done _ _ _ _ (by omega) (by omega)]
    exact satState_setSatState _ hstring hplace (by decide)
  · rw [if_neg hadmit, settle_chn]

theorem chainTileOpcodes : ChainTileOpcodes := by
  refine ⟨chnAdmit_ends,
    takes_of_start (fun _ _ => rfl) fun d c hd => by simp only [rowChnBalManual, hd],
    takes_of_start (fun _ _ => rfl) fun d c hd => by simp only [rowChnBalTest, hd],
    takes_of_start (fun _ _ => rfl) fun d c hd => by simp only [rowChnSatRead, hd],
    takes_of_start (fun _ _ => rfl) fun d c hd => by simp only [rowChnSatWrite, hd],
    takes_of_start (fun _ _ => rfl) fun d c hd => by simp only [rowChnReset, hd],
    ends_of_start (fun _ _ => rfl) fun d old c hd => ?census,
    ends_of_start (fun _ _ => rfl) fun d old c hd k ws hk => ?kernelLoad,
    ends_of_start (fun _ _ => rfl) fun d old c hd => ?test,
    ends_of_start (fun _ _ => rfl) fun d old c hd => ?unretire,
    ends_of_start (fun _ _ => rfl) fun d old c hd => ?retire⟩
  case census =>
    simp only [rowChnCensus, hd]
    exact ⟨by rw [chain_settle, Card.chain_modChain_same], settle_til _ _⟩
  case kernelLoad => simp only [rowTilKernelLoad, hd, hk, settle_til, Card.done_til]
  case test => simp only [rowTilTest, hd, settle_til, Card.commit_til]
  case unretire => simp only [rowTilUnretire, hd, settle_til, Card.commit_til]
  case retire => simp only [rowTilRetire, hd, settle_til]

theorem estimatorEngineOpcodes : EstimatorEngineOpcodes := by
  refine ⟨ends_of_start (fun _ _ => rfl) fun d old c hd => ?commit,
    ends_of_start (fun _ _ => rfl) fun d old c hd => ?swap,
    ends_of_start (fun _ _ => rfl) fun d old c hd => ?plan,
    ends_of_start (fun _ _ => rfl) fun d old c hd => ?capture,
    takes_of_start (fun _ _ => rfl) fun d c hd => by simp only [rowDspRequest, hd],
    takes_of_start (fun _ _ => rfl) fun d c hd => by simp only [rowDspAcctRead, hd]⟩
  case commit =>
    simp only [rowEstCommit, hd, settle_est]
    refine ⟨fun hnone => ?_, fun hsome => ?_⟩
    · rw [if_pos hnone, Card.done_est]
    · rw [if_neg hsome]
  case swap => simp only [rowEstSwapDeclare, hd, settle_est]
  case plan => simp only [rowImpPlanLoad, hd, settle_imp, Card.modOp_imp]
  case capture => simp only [rowCnvCapture, hd, eng_settle, Card.eng_modEng_same]

/-- Settles O10: an accepted descriptor is its row's start on the card that holds it in its slot (`becomes_start`), and each
row's start is the effect that the clause states. -/
theorem cellOpcodes : Obligations.CellOpcodes := ⟨chainTileOpcodes, estimatorEngineOpcodes⟩

end Sys2Proof.Machine

/-! Answers of satellites, and requests without one (O19). -/

namespace Sys2Proof.Machine

open Sys2Proof.Claims

theorem exec_satResponse (n port : Nat) (bytes : List Byte) (s : State) :
    exec (.satResponse n port bytes) s = execSatResponse n port bytes s := rfl

theorem exec_satRspTimeout (n place : Nat) (s : State) :
    exec (.satRspTimeout n place) s = execSatRspTimeout n place s := rfl

/-- The ranges of a string and of one of its ports, as the chains' commands test them. -/
theorem string_port_inRange {n port : Nat} (hn : StringNo n) (hport : port < 2) : n ≠ 0 ∧ ¬4 < n ∧ ¬1 < port := by
  obtain ⟨h1, h4⟩ := hn
  omega

/-- Settles O19: a response passes the checks of R85 and R87 one by one and meets the outstanding request; a time-out (R91)
resends while RETRY allows it. -/
theorem satelliteAnswers : Obligations.SatelliteAnswers := by
  refine ⟨?badCrc, ?answer, ?timeout⟩
  case badCrc =>
    intro s n port bytes hl hn hport hen hcrc
    obtain ⟨h0, h4, h1⟩ := string_port_inRange hn hport
    have hb := becomes_of_on hl (exec_satResponse n port bytes s)
    rwa [if_neg (by simp [h0, h4, h1, hen]), hcrc] at hb
  case answer =>
    intro s n port bytes b p r hl hn hport hen hcrc htype hpoll hdest hlen hsome hreq
    obtain ⟨h0, h4, h1⟩ := string_port_inRange hn hport
    have hb := becomes_of_on hl (exec_satResponse n port bytes s)
    rw [if_neg (by simp [h0, h4, h1, hen]), hcrc] at hb
    dsimp only at hb
    rw [if_neg (by simp [htype]), if_neg (by simp [hdest, hlen, hsome]), if_neg hpoll, hreq] at hb
    exact hb
  case timeout =>
    intro s n place r hl hn hp1 hp32 hout hwait
    obtain ⟨h1, h4⟩ := hn
    have hb := becomes_of_on hl (exec_satRspTimeout n place s)
    simp only [hout] at hb
    rw [if_neg (by omega), if_neg (Nat.not_lt.mpr hwait)] at hb
    refine ⟨fun hmore => ?_, fun hlast => ?_⟩
    · rw [if_pos hmore] at hb
      apply gives_of_becomes hb
      rw [sat_settle, Card.sat_setSat_same]
      exact ⟨_, rfl, rfl, rfl, rfl, rfl, rfl⟩
    · rwa [if_neg (Nat.not_lt.mpr hlast)] at hb

end Sys2Proof.Machine

/-! Uploads, links, probes and the census of a chain (O20), chain resets (O21), and the loss of a satellite with the safety
loop's codes (O22). -/

namespace Sys2Proof.Machine

open Sys2Proof.Claims

/-! ### The commands -/

theorem exec_uploadSegment (n port : Nat) (late : Bool) (bytes : List Byte) (s : State) :
    exec (.uploadSegment n port late bytes) s = execUploadSegment n port late bytes s := rfl

theorem exec_chainLinkChange (n port : Nat) (up : Bool) (viol : Nat) (s : State) :
    exec (.chainLinkChange n port up viol) s = execChainLinkChange n port up viol s := rfl

theorem exec_probeTurnAround (n port place delay : Nat) (s : State) :
    exec (.probeTurnAround n port place delay) s = execProbeTurnAround n port place delay s := rfl

theorem exec_census (n : Nat) (head tail : List CensusEntry) (s : State) :
    exec (.census n head tail) s = execCensus n head tail s := rfl

theorem exec_chainControllerReset (n : Nat) (s : State) :
    exec (.chainControllerReset n) s = execChainControllerReset n s := rfl

theorem exec_chainReset (n : Nat) (s : State) : exec (.chainReset n) s = execChainReset n s := rfl

theorem exec_satelliteLost (n place : Nat) (s : State) : exec (.satelliteLost n place) s = execSatelliteLost n place s := rfl

theorem exec_loopCodeChange (n : Nat) (tailEnd : Bool) (k : Nat) (s : State) :
    exec (.loopCodeChange n tailEnd k) s = execLoopCodeChange n tailEnd k s := rfl

/-! ### One-bit fields -/

/-- A sticky flag that is set reads 1. -/
theorem bit_stick (c : Card) {f : Fld} (h : f.lo + f.w ≤ 32) (hw : f.w = 1) : (c.stick f).bit f = true := by
  rw [Card.bit, Card.stick, Card.fld_setFld_same _ _ _ h, hw]
  rfl

/-- A bit that is written reads as written. -/
theorem bit_setBit (c : Card) {f : Fld} (b : Bool) (h : f.lo + f.w ≤ 32) (hw : f.w = 1) : (c.setBit f b).bit f = b := by
  rw [Card.bit, Card.setBit, Card.fld_setFld_same _ _ _ h, hw]
  cases b <;> rfl

theorem bit_settle_chn (old new : Card) {f : Fld} (h : f.off / 0x1000 = 2) : (settle old new).bit f = new.bit f := by
  rw [Card.bit, Card.bit, fld_settle_chn old new h]

/-! ### O20 -/

theorem uploadSegments : UploadSegments := by
  intro s n port late bytes hl hn hport
  obtain ⟨h0, h4, h1⟩ := string_port_inRange hn hport
  have hserved (hen : s.card.bit (CHN_CTRL.EN n) = true) (hlate : late = false) :
      ¬(n = 0 ∨ 4 < n ∨ 1 < port ∨ (!s.card.bit (CHN_CTRL.EN n)) = true ∨ late = true) := by
    simp [h0, h4, h1, hen, hlate]
  have hb := becomes_of_on hl (exec_uploadSegment n port late bytes s)
  refine ⟨fun hoff => ?_, fun hen hlate hcrc => ?_, fun b hen hlate hcrc => ⟨fun hgood => ?_, fun hbad => ?_⟩⟩
  · rwa [if_pos (by rcases hoff with hoff | hoff <;> simp [hoff])] at hb
  · rw [if_neg (hserved hen hlate), hcrc] at hb
    have hblock : (CHN_STICKY.CRC_ERR n).off / 0x1000 = 2 := by
      simp only [CHN_STICKY.CRC_ERR, CHN_STICKY]
      omega
    apply gives_of_becomes hb
    rw [bit_settle_chn _ _ hblock, settle_chn]
    exact ⟨bit_stick _ (by simp [CHN_STICKY.CRC_ERR]) rfl, rfl⟩
  · rw [if_neg (hserved hen hlate), hcrc] at hb
    dsimp only at hb
    rwa [if_pos hgood] at hb
  · rw [if_neg (hserved hen hlate), hcrc] at hb
    dsimp only at hb
    rwa [if_neg hbad] at hb

/-- The link bit of a chain's port. -/
def linkBit (n port : Nat) : Fld := if port = 0 then CHN_STATUS.HEAD_LINK n else CHN_STATUS.TAIL_LINK n

theorem linkBit_off (n port : Nat) : (linkBit n port).off = CHN_STATUS n := by
  unfold linkBit
  split <;> rfl

theorem linkBit_oneBit (n port : Nat) : (linkBit n port).lo + (linkBit n port).w ≤ 32 ∧ (linkBit n port).w = 1 := by
  unfold linkBit
  split
  · exact ⟨by simp [CHN_STATUS.HEAD_LINK], rfl⟩
  · exact ⟨by simp [CHN_STATUS.TAIL_LINK], rfl⟩

/-- A link that changes shows its state, and a census becomes due (R74). -/
theorem chainLinkChange_gives (s : State) (n port : Nat) (up : Bool) (viol : Nat) (hl : Live s) (hn : StringNo n)
    (hport : port < 2) (hchange : s.card.bit (linkBit n port) ≠ up) :
    Gives (.chainLinkChange n port up viol) s fun c' => c'.bit (linkBit n port) = up ∧ (c'.chain n).censusDue = true := by
  obtain ⟨h0, h4, h1⟩ := string_port_inRange hn hport
  obtain ⟨hlo, hw⟩ := linkBit_oneBit n port
  have hoff := linkBit_off n port
  have hblock : (linkBit n port).off / 0x1000 = 2 := by
    rw [hoff, CHN_STATUS]
    omega
  have hcount : (s.card.count (CHN_ERR_CNT.CODE_VIOL n) viol).bit (linkBit n port) = s.card.bit (linkBit n port) := by
    rw [Card.bit, Card.bit, Card.count, Card.fld_setFld_other _ _ _ _ (by
      simp only [hoff, CHN_STATUS, CHN_ERR_CNT.CODE_VIOL, CHN_ERR_CNT]
      omega)]
  have hb := becomes_of_on hl (exec_chainLinkChange n port up viol s)
  rw [if_neg (by simp [h0, h4, h1])] at hb
  extract_lets f counted at hb
  rw [if_neg (show ¬counted.bit f = up from fun hup => hchange (hcount.symm.trans hup))] at hb
  apply gives_of_becomes hb
  rw [bit_settle_chn _ _ hblock, chain_settle, Card.chain_modChain_same]
  exact ⟨bit_setBit _ up hlo hw, rfl⟩

/-- A turn-around ends the PROBE of its side (R78); a census that leaves RING_STATE MULTI opens the string (R27, R92). -/
theorem chainLinksAndCensus : ChainLinksAndCensus := by
  refine ⟨chainLinkChange_gives, ?probes, ?census⟩
  case probes =>
    intro s n place delay hl ⟨h1, h4⟩ hp1 hp32
    have hb := fun port => becomes_of_on hl (exec_probeTurnAround n port place delay s)
    refine ⟨fun hprobe => ?_, fun hprobe => ?_⟩
    · have hhead := hb 0
      rw [if_neg (by omega)] at hhead
      dsimp only at hhead
      rw [if_pos rfl, if_pos hprobe] at hhead
      apply gives_of_becomes hhead
      rw [sat_settle, Card.sat_setSat_same]
    · have htail := hb 1
      rw [if_neg (by omega)] at htail
      dsimp only at htail
      rw [if_neg (by decide), if_pos hprobe] at htail
      apply gives_of_becomes htail
      rw [sat_settle, Card.sat_setSat_same]
  case census =>
    intro s n head tail hl ⟨h1, h4⟩
    have h0 : n ≠ 0 := by omega
    have hb := becomes_of_on hl (exec_census n head tail s)
    simpa only [ne_eq, h0, not_false_eq_true, h4, true_and] using hb

/-- Settles O20: a segment passes the checks of R84 or sets a flag; links, probes and the census write what the clauses
state into the chain's own registers and records. -/
theorem chainTraffic : Obligations.ChainTraffic := ⟨uploadSegments, chainLinksAndCensus⟩

/-! ### O21 -/

theorem chainControllerResets : ChainControllerResets := by
  intro s n hl hn
  obtain ⟨h1, h4⟩ := hn
  have hb := becomes_of_on hl (exec_chainControllerReset n s)
  simp only [← Bool.decide_and, ← Bool.decide_or, ← decide_not, decide_eq_true_eq] at hb
  refine ⟨fun hdue => ?_, fun hearly => ?_⟩
  · rwa [if_neg (by omega)] at hb
  · rwa [if_pos (by omega)] at hb

theorem chainResets : ChainResets := by
  intro s n cause hl hn hcause
  obtain ⟨h1, h4⟩ := hn
  have hb := becomes_of_on hl (exec_chainReset n s)
  simp only [hcause] at hb
  rwa [if_neg (by omega)] at hb

/-- Settles O21: the command comes 8 frames into a silence and every 64 frames after; a reset that was requested does at
once what R104 lists. -/
theorem chainResetsAndCauses : Obligations.ChainResetsAndCauses := ⟨chainControllerResets, chainResets⟩

/-! ### O22 -/

theorem satelliteLoss : SatelliteLoss := by
  intro s n place hl hn hp1 hp32 hserved hsilent
  obtain ⟨h1, h4⟩ := hn
  have hb := becomes_of_on hl (exec_satelliteLost n place s)
  rw [if_neg (by omega)] at hb
  exact hb

/-- The code of an end of the safety loop. -/
def loopEnd (n : Nat) (tailEnd : Bool) : Fld := if tailEnd then CHN_LOOP.TAIL_CODE n else CHN_LOOP.HEAD_CODE n

/-- The code of an end and the verdict lie beside each other in CHN_LOOP. -/
theorem fld_verdict_setFld_loopEnd (c : Card) (n : Nat) (tailEnd : Bool) (k : Nat) :
    (c.setFld (loopEnd n tailEnd) k).fld (CHN_LOOP.VERDICT n) = c.fld (CHN_LOOP.VERDICT n) := by
  cases tailEnd
  · exact Card.fld_setFld_beside c (CHN_LOOP.HEAD_CODE n) _ k rfl (by simp [CHN_LOOP.VERDICT])
      (by simp [CHN_LOOP.VERDICT, CHN_LOOP.HEAD_CODE])
  · exact Card.fld_setFld_beside c (CHN_LOOP.TAIL_CODE n) _ k rfl (by simp [CHN_LOOP.VERDICT])
      (by simp [CHN_LOOP.VERDICT, CHN_LOOP.TAIL_CODE])

theorem loopCodes : LoopCodes := by
  intro s n tailEnd k hl hn hk f c₁ h t old c
  obtain ⟨h1, h4⟩ := hn
  have hold : c₁.fld (CHN_LOOP.VERDICT n) = old := fld_verdict_setFld_loopEnd s.card n tailEnd k
  have hb := becomes_of_on hl (exec_loopCodeChange n tailEnd k s)
  rw [if_neg (by omega)] at hb
  extract_lets _ _ _ _ before verdict _ at hb
  rw [show before = old from hold] at hb
  refine ⟨fun (hv : verdict = 2) ho => ?_, fun (hv : verdict = 1) ho => ?_, fun (hv : verdict = 0 ∨ verdict = old) => ?_⟩
  · rw [if_neg (by omega), if_pos ⟨hv, ho⟩] at hb
    exact hb
  · rw [if_pos ⟨hv, ho⟩] at hb
    exact hb
  · rw [if_neg (by omega), if_neg (by omega)] at hb
    exact hb

/-- Settles O22: a place that meets the conditions of R96 is LOST; an end's code leaves the verdict that stood beside it
(`fld_verdict_setFld_loopEnd`), so that the new verdict is judged against it. -/
theorem satelliteLossAndLoop : Obligations.SatelliteLossAndLoop := ⟨satelliteLoss, loopCodes⟩

end Sys2Proof.Machine

/-! Tiles: control of a batch (O23), traps (O25), outcomes and tiles at rest (O26), moves and predicates (O27). -/

namespace Sys2Proof.Machine

open Sys2Proof.Claims

/-! ### Instructions whose row guards them -/

/-- Fields that meet the row let the instruction's outcome through. -/
theorem unlessReserved_of_ok {ok : Bool} {m : TileOut} (h : ok = true) : unlessReserved ok m = m := if_pos h

theorem answers_fields {m o : TileOut} {ok : Bool} (h : ok = true → m = o) (htrap : ∀ code lane, o ≠ .trap code lane) :
    m.Answers (fields ok o) := by
  unfold fields
  refine .guard fun hok => ?_
  rintro _ ⟨⟩
  exact ⟨h hok, htrap⟩

/-- An instruction behind its row's guard that never traps once its fields meet the row. -/
theorem does_fields {i : TileOp → Instr} {product : Bool} {ok : TileOp → Bool} {f m : TileCtx → Tile → TileOp → TileOut}
    (hexec : ∀ x s, exec (i x) s = s.on fun c => c.tileRun x product f)
    (hrow : ∀ k t x, f k t x = unlessReserved (ok x) (m k t x)) (htrap : ∀ k t x code lane, m k t x ≠ .trap code lane) :
    Does i fun k t x => fields (ok x) (m k t x) :=
  does_of_answers hexec fun k t x => hrow k t x ▸ answers_fields unlessReserved_of_ok (htrap k t x)

/-- An instruction that goes on with the tile that `m` gives. -/
theorem does_ok {i : TileOp → Instr} {product : Bool} {ok : TileOp → Bool} {m : Tile → TileOp → Tile}
    (hexec : ∀ x s, exec (i x) s = s.on fun c => c.tileRun x product fun _ t x => unlessReserved (ok x) (.ok (m t x))) :
    Does i fun _ t x => fields (ok x) (.ok (m t x)) := does_fields hexec (fun _ _ _ => rfl) nofun

/-! ### O23 -/

/-- The last count of a loop leaves the counter at zero. -/
theorem tileLoop_eq (k : TileCtx) (t : Tile) (x : TileOp) :
    tileLoop k t x = unlessReserved (decide (x.v = 0 ∧ x.d.toNat < 4 ∧ immOf x < 2048))
      (if t.count x.d.toNat = 0 then .ok t
       else if t.count x.d.toNat = 1 then .ok { t with l := t.l.set (fun _ => 0) x.d.toNat 0 }
       else .goto { t with l := t.l.set (fun _ => 0) x.d.toNat (t.count x.d.toNat - 1) } (immOf x)) := by
  unfold tileLoop
  dsimp only
  by_cases hone : t.count x.d.toNat = 1
  · simp only [hone, Nat.sub_self]
  · simp only [if_neg hone]

/-- P is 1 in any lane exactly when some lane is on. -/
theorem any_lane_p (t : Tile) : (lanes8.any fun l => (t.lane l).p) = true ↔ t.on ≠ [] := by
  rw [Tile.on, ne_eq, List.filter_eq_nil_iff, List.any_eq_true]
  push Not
  rfl

/-- P is 0 in every lane exactly when no lane is on. -/
theorem all_lanes_not_p (t : Tile) : (lanes8.all fun l => !(t.lane l).p) = true ↔ t.on = [] := by
  rw [Tile.on, List.filter_eq_nil_iff, List.all_eq_true]
  simp only [Bool.not_eq_true', Bool.not_eq_true]

theorem tileBany_eq (k : TileCtx) (t : Tile) (x : TileOp) : tileBany k t x =
    unlessReserved (decide (x.v = 0 ∧ x.d = 0 ∧ immOf x < 2048)) (if t.on ≠ [] then .goto t (immOf x) else .ok t) := by
  simp only [tileBany, tileBranch, any_lane_p]

theorem tileBnone_eq (k : TileCtx) (t : Tile) (x : TileOp) : tileBnone k t x =
    unlessReserved (decide (x.v = 0 ∧ x.d = 0 ∧ immOf x < 2048)) (if t.on = [] then .goto t (immOf x) else .ok t) := by
  simp only [tileBnone, tileBranch, all_lanes_not_p]

theorem exec_loop (x : TileOp) (s : State) : exec (.loop x) s = s.on fun c => c.tileRun x false tileLoop := rfl

theorem exec_bany (x : TileOp) (s : State) : exec (.bany x) s = s.on fun c => c.tileRun x false tileBany := rfl

theorem exec_bnone (x : TileOp) (s : State) : exec (.bnone x) s = s.on fun c => c.tileRun x false tileBnone := rfl

theorem exec_wait (x : TileOp) (s : State) : exec (.wait x) s = s.on fun c => c.tileRun x false tileWait := rfl

theorem tileWait_input {k : TileCtx} {t : Tile} {x : TileOp} (h : x.v = 0 ∧ x.d = 0 ∧ x.a = 0 ∧ x.b = 0) :
    tileWait k t x = if k.filled then .ok t else .stall t .input := by
  obtain ⟨hv, hrest⟩ := h
  rw [tileWait, unlessReserved_of_ok (decide_eq_true ⟨by rw [hv]; decide, hrest⟩), if_pos hv]

theorem tileWait_reductions {k : TileCtx} {t : Tile} {x : TileOp} (h : x.v = 1 ∧ x.d = 0 ∧ x.a = 0 ∧ x.b = 0) :
    tileWait k t x = if t.contributed.all k.complete then .ok t else .stall t .reductions := by
  obtain ⟨hv, hrest⟩ := h
  rw [tileWait, unlessReserved_of_ok (decide_eq_true ⟨by rw [hv]; decide, hrest⟩), if_neg (by rw [hv]; decide)]

/-- Settles O23: each control instruction does what it does behind its row's guard; LOOP and the branches on P are first
brought to the words of the statement. -/
theorem tileControl : Obligations.TileControl := by
  refine ⟨?nop, ?halt, ?setb, ?addb, ?setl, ?loop, ?jmp, ?bany, ?bnone, ?input, ?reductions, ?flagclr⟩
  case nop => exact does_ok fun _ _ => rfl
  case halt => exact does_fields (fun _ _ => rfl) (fun _ _ _ => rfl) nofun
  case setb => exact does_ok fun _ _ => rfl
  case addb => exact does_ok fun _ _ => rfl
  case setl => exact does_ok fun _ _ => rfl
  case loop => exact does_fields exec_loop tileLoop_eq fun _ _ _ _ _ => by split_ifs <;> nofun
  case jmp => exact does_fields (fun _ _ => rfl) (fun _ _ _ => rfl) nofun
  case bany => exact does_fields exec_bany tileBany_eq fun _ _ _ _ _ => by split_ifs <;> nofun
  case bnone => exact does_fields exec_bnone tileBnone_eq fun _ _ _ _ _ => by split_ifs <;> nofun
  case input =>
    exact does_of_answers exec_wait fun _ _ _ =>
      answers_fields (fun h => tileWait_input (of_decide_eq_true h)) fun _ _ => by split_ifs <;> nofun
  case reductions =>
    exact does_of_answers exec_wait fun _ _ _ =>
      answers_fields (fun h => tileWait_reductions (of_decide_eq_true h)) fun _ _ => by split_ifs <;> nofun
  case flagclr => exact does_ok fun _ _ => rfl

/-! ### O25 -/

/-- A ready tile whose instruction traps does nothing but trap (R120). -/
theorem tileRun_of_trap {s : State} {x : TileOp} {product : Bool} {f : TileCtx → Tile → TileOp → TileOut} {code lane : Nat}
    (hready : Ready x s) (hf : f ((fetched x s.card).tileCtx x.tile) (tileAt x s.card) x = .trap code lane) :
    s.card.tileRun x product f = ((fetched x s.card).trapTile x.tile code (tileAt x s.card).pc lane).draw.2 := by
  obtain ⟨htile, hstate, hrun, hstall, hmem, _⟩ := hready
  unfold Card.tileRun
  rw [if_neg (by simp [htile, hstate, hrun, hstall])]
  extract_lets c₁ c₂ y fetch c₃
  refine congrArg (fun c : Card => c.draw.2) ?_
  have hf' : f (c₂.tileCtx x.tile) y x = .trap code lane := hf
  have hfetch : fetch = false := by simp only [fetch, hmem, Option.any_none]
  unfold c₃
  rw [hf', hfetch]
  rfl

/-- A command whose instruction traps on a ready tile. -/
theorem becomes_trap {i : Instr} {s : State} {x : TileOp} {product : Bool} {f : TileCtx → Tile → TileOp → TileOut}
    {code lane : Nat} (hexec : exec i s = s.on fun c => c.tileRun x product f) (hl : Live s) (hready : Ready x s)
    (hf : f ((fetched x s.card).tileCtx x.tile) (tileAt x s.card) x = .trap code lane) :
    Becomes i s ((fetched x s.card).trapTile x.tile code (tileAt x s.card).pc lane).draw.2 := by
  have hb := becomes_of_on hl hexec
  rwa [tileRun_of_trap hready hf] at hb

/-- The instruction runs on its tile, behind the guard of its row. -/
def Guarded (r : (TileOp → Instr) × (TileOp → Bool)) : Prop :=
  ∃ (product : Bool) (m : TileCtx → Tile → TileOp → TileOut), ∀ x s,
    exec (r.1 x) s = s.on fun c => c.tileRun x product fun k t x => unlessReserved (r.2 x) (m k t x)

/-- The reserved conditions are those past 5. -/
theorem condition_eq_none_iff (v : Nat) (a b : Int) : condition v a b = none ↔ 5 < v := by
  unfold condition
  split
  case h_7 h0 h1 h2 h3 h4 h5 => exact iff_of_true rfl (by grind)
  all_goals exact iff_of_false nofun (by decide)

theorem tileCompare_eq (t : Tile) (x : TileOp) (sgn conj : Bool) : tileCompare t x sgn conj =
    unlessReserved (decide (x.v.toNat ≤ 5 ∧ x.d = 0)) (t.predicate [x.a, x.b] fun l p =>
      let r := (condition x.v.toNat (val t sgn x.a l) (val t sgn x.b l)).getD false
      if conj then p && r else r) := by
  unfold tileCompare
  split
  · next hnone =>
    have hv := (condition_eq_none_iff _ _ _).mp hnone
    rw [unlessReserved, if_neg (by simp only [decide_eq_true_eq]; omega)]
  · next hsome =>
    have hv : x.v.toNat ≤ 5 := by
      by_contra hv
      rw [(condition_eq_none_iff _ _ _).mpr (Nat.not_le.mp hv)] at hsome
      cases hsome
    simp only [hv, true_and]
    rfl

/-- The compares test their condition and D apart, which is the guard of their row. -/
theorem guarded_compare {i : TileOp → Instr} {product sgn conj : Bool}
    (hexec : ∀ x s, exec (i x) s = s.on fun c => c.tileRun x product fun _ t x => tileCompare t x sgn conj) :
    Guarded (i, fun x => decide (x.v.toNat ≤ 5 ∧ x.d = 0)) := by
  simp only [tileCompare_eq] at hexec
  exact ⟨_, _, hexec⟩

theorem guarded_compares : ∀ i ∈ [Instr.cmps, .cmpu, .cmpsa, .cmpua],
    Guarded (i, fun x => decide (x.v.toNat ≤ 5 ∧ x.d = 0)) := by
  simp only [List.forall_mem_cons]
  exact ⟨guarded_compare fun _ _ => rfl, guarded_compare fun _ _ => rfl, guarded_compare fun _ _ => rfl,
    guarded_compare fun _ _ => rfl, nofun⟩

/-- The guard of each instruction is its row; the compares, which test their condition apart, have theirs by
`tileCompare_eq`. -/
theorem guarded_of_mem_rowFields : ∀ r ∈ rowFields, Guarded r := by
  have hcompares := guarded_compares
  simp only [List.forall_mem_cons] at hcompares
  obtain ⟨hcmps, hcmpu, hcmpsa, hcmpua, _⟩ := hcompares
  simp only [rowFields, List.forall_mem_cons, hcmps, hcmpu, hcmpsa, hcmpua, true_and, List.not_mem_nil, false_imp_iff,
    implies_true, and_true]
  and_intros <;> exact ⟨_, _, fun _ _ => rfl⟩

/-- An instruction that reads A and B and writes D in the lanes that are on, where V is 0. -/
def ReadsTwo (i : TileOp → Instr) : Prop :=
  ∃ (product : Bool) (f : TileCtx → Tile → TileOp → TileOut),
    (∀ x s, exec (i x) s = s.on fun c => c.tileRun x product f)
    ∧ ∀ k t x, x.v = 0 → ∃ g, f k t x = t.compute k.cls [x.a, x.b] x.d t.on g

theorem readsTwo_alu {i : TileOp → Instr} {product : Bool} {g : Int → Int → Int}
    (hexec : ∀ x s, exec (i x) s = s.on fun c => c.tileRun x product fun k t x => tileAlu k t x g) : ReadsTwo i :=
  ⟨_, _, hexec, fun _ _ x hv => ⟨_, unlessReserved_of_ok (decide_eq_true (by rw [hv]; decide))⟩⟩

theorem readsTwo_bits {i : TileOp → Instr} {product : Bool} {g : Nat → Nat → Nat}
    (hexec : ∀ x s, exec (i x) s = s.on fun c => c.tileRun x product fun k t x => tileBits k t x g) : ReadsTwo i :=
  ⟨_, _, hexec, fun _ _ _ hv => ⟨_, unlessReserved_of_ok (decide_eq_true hv)⟩⟩

theorem readsTwo_of_mem_twoSources : ∀ i ∈ twoSources, ReadsTwo i := by
  simp only [twoSources, List.forall_mem_cons]
  exact ⟨readsTwo_alu fun _ _ => rfl, readsTwo_alu fun _ _ => rfl, readsTwo_alu fun _ _ => rfl, readsTwo_alu fun _ _ => rfl,
    readsTwo_bits fun _ _ => rfl, readsTwo_bits fun _ _ => rfl, readsTwo_bits fun _ _ => rfl, nofun⟩

/-- A source that its rule forbids traps (R116). -/
theorem compute_of_range {t : Tile} {srcs : List (BitVec 9)} {e : Nat × Nat} (h : t.range srcs = some e) (cls : Nat)
    (d : BitVec 9) (ls : List Nat) (g : Nat → Nat × Nat) : t.compute cls srcs d ls g = .trap e.1 e.2 := by
  rw [Tile.compute, h]

/-- A write that its rule forbids traps (R116, R117). -/
theorem compute_of_writeTrap {t : Tile} {srcs : List (BitVec 9)} {cls : Nat} {d : BitVec 9} {ls : List Nat} {e : Nat × Nat}
    (hrange : t.range srcs = none) (h : t.writeTrap cls d ls = some e) (g : Nat → Nat × Nat) :
    t.compute cls srcs d ls g = .trap e.1 e.2 := by
  rw [Tile.compute, hrange, h]

/-- Settles O25: each instruction that traps in place of its effect: by its row's guard, by its opcode, by its operands. -/
theorem tileTraps : Obligations.TileTraps := by
  refine ⟨fun r hr s x hl hready hbad => ?reserved, fun s x opc hl hready hopc => ?illegal,
    fun i hi s x e hl hready hv hrange => ?operand, fun i hi s x e hl hready hv hrange hwrite => ?write⟩
  case reserved =>
    obtain ⟨product, m, hexec⟩ := guarded_of_mem_rowFields r hr
    exact becomes_trap (hexec x s) hl hready (if_neg (by simp [hbad]))
  case illegal =>
    have hexec := exec_tileUndefinedOpcode x opc s
    simp only [execTileUndefinedOpcode, if_pos hopc] at hexec
    exact becomes_trap hexec hl hready rfl
  case operand =>
    obtain ⟨product, f, hexec, hf⟩ := readsTwo_of_mem_twoSources i hi
    obtain ⟨g, hg⟩ := hf _ _ x hv
    exact becomes_trap (hexec x s) hl hready (hg.trans (compute_of_range hrange _ _ _ g))
  case write =>
    obtain ⟨product, f, hexec, hf⟩ := readsTwo_of_mem_twoSources i hi
    obtain ⟨g, hg⟩ := hf _ _ x hv
    exact becomes_trap (hexec x s) hl hready (hg.trans (compute_of_writeTrap hrange hwrite g))

/-! ### O26 -/

theorem Card.tile_setTile_same (c : Card) (ph : Nat) (t : Tile) : (c.setTile ph t).tile ph = t :=
  Store.get_set_same c.til.tiles (fun _ => {}) ph t

theorem Card.tile_setTile_other (c : Card) {ph n : Nat} (t : Tile) (h : n ≠ ph) : (c.setTile ph t).tile n = c.tile n :=
  Store.get_set_other c.til.tiles (fun _ => {}) t h

/-- Within the code bank a tile goes on without a trap. -/
theorem Card.goOn_of_lt (c : Card) (t : Nat) (y : Tile) {pc : Nat} (h : pc < 2048) :
    c.goOn t y pc = c.setTile (c.phys t) { y with pc := pc, stall := none } := by
  unfold Card.goOn
  rw [Nat.mod_eq_of_lt h]
  exact if_neg (Nat.not_le.mpr h)

theorem tileOutcomes : TileOutcomes := by
  intro c t y y' pc
  refine ⟨fun hpc => ?goto, fun hpc => ?ok, fun hpc => ?overflow, c.tile_setTile_same _ _, fun n hn => ?other⟩
  case goto =>
    rw [Card.tileOut, Card.goOn_of_lt c t y' hpc, Card.tile_setTile_same]
  case ok =>
    rw [Card.tileOut, Card.goOn_of_lt c t y' (by omega), Card.tile_setTile_same]
  case overflow =>
    rw [Card.tileOut, hpc]
    rfl
  case other =>
    rw [Card.tileOut, Card.goOn_of_lt c t y' (Nat.mod_lt _ (by decide)), Card.tile_setTile_other c _ hn]

/-- The instruction runs on its tile. -/
def RunsOnTile (i : TileOp → Instr) : Prop :=
  ∃ (product : Bool) (f : TileCtx → Tile → TileOp → TileOut), ∀ x s, exec (i x) s = s.on fun c => c.tileRun x product f

theorem runsOnTile_of_mem_tileInstrs : ∀ i ∈ tileInstrs, RunsOnTile i := by
  intro i hi
  rw [tileInstrs, List.mem_append, List.mem_map, List.mem_singleton] at hi
  obtain ⟨r, hr, rfl⟩ | rfl := hi
  · obtain ⟨product, m, hexec⟩ := guarded_of_mem_rowFields r hr
    exact ⟨_, _, hexec⟩
  · exact ⟨_, _, fun _ _ => rfl⟩

theorem tileAtRest : TileAtRest := by
  intro i hi s x hl hrest
  obtain ⟨product, f, hexec⟩ := runsOnTile_of_mem_tileInstrs i hi
  have hb := becomes_of_on hl (hexec x s)
  have hidle : s.card.tileRun x product f = s.card := if_pos hrest
  rwa [hidle] at hb

/-- Settles O26: an outcome goes on through `Card.goOn`, which traps only past the code bank; a tile at rest fails the
first test of `Card.tileRun`. -/
theorem tileRunsAndRests : Obligations.TileRunsAndRests := ⟨tileOutcomes, tileAtRest⟩

/-! ### Moves -/

theorem answers_frmrd_low {k : TileCtx} {t : Tile} {x : TileOp} : (tileFrmrd k t x).Answers
    (if x.v = 0 ∧ x.a = 0 ∧ x.b = 0
      then writes k t x [] t.on (fun _ => k.frame.toNat % 2 ^ 18) (fun _ => 0) else none) :=
  .guard fun ⟨hv, hrest⟩ => by
    rw [tileFrmrd, unlessReserved_of_ok (decide_eq_true ⟨by rw [hv]; decide, hrest⟩), if_pos hv]
    exact answers_compute k t x [] t.on _

theorem answers_frmrd_high {k : TileCtx} {t : Tile} {x : TileOp} : (tileFrmrd k t x).Answers
    (if x.v = 1 ∧ x.a = 0 ∧ x.b = 0
      then writes k t x [] t.on (fun _ => k.frame.toNat / 2 ^ 18 % 2 ^ 18) (fun _ => 0) else none) :=
  .guard fun ⟨hv, hrest⟩ => by
    rw [tileFrmrd, unlessReserved_of_ok (decide_eq_true ⟨by rw [hv]; decide, hrest⟩), if_neg (by rw [hv]; decide)]
    exact answers_compute k t x [] t.on _

/-- A bitwise operation on A and B writes its result. -/
theorem does_bits {i : TileOp → Instr} {product : Bool} (g : Nat → Nat → Nat)
    (hexec : ∀ x s, exec (i x) s = s.on fun c => c.tileRun x product fun k t x => tileBits k t x g) :
    Does i fun k t x => if x.v = 0
      then writes k t x [x.a, x.b] t.on (fun l => g (t.read x.a l) (t.read x.b l)) (fun _ => 0) else none :=
  does_of_answers hexec fun k t x => (answers_compute k t x [x.a, x.b] t.on _).reserved

/-- An answer by cases. -/
theorem TileOut.Answers.ite {m : TileOut} {g h : Option TileOut} {p : Prop} [Decidable p] (hg : p → m.Answers g)
    (hh : ¬p → m.Answers h) : m.Answers (if p then g else h) := by
  split
  · next hp => exact hg hp
  · next hp => exact hh hp

/-- What SEL selects in a lane. -/
def selected (t : Tile) (x : TileOp) (l : Nat) : Nat := if (t.lane l).p then t.read x.a l else t.read x.b l

/-- D is one word for all lanes (R116). -/
def SharedD (x : TileOp) : Prop := 4 ≤ x.d.toNat / 64 ∧ x.d.toNat / 64 ≤ 6

theorem answers_sel_own {k : TileCtx} {t : Tile} {x : TileOp} (hv : x.v = 0) (hown : ¬SharedD x) :
    (tileSel k t x).Answers (writes k t x [x.a, x.b] lanes8 (selected t x) fun _ => 0) := by
  unfold SharedD at hown
  simp only [tileSel, unlessReserved_of_ok (decide_eq_true hv), decide_eq_false hown, Bool.false_and, Bool.false_eq_true,
    if_false]
  exact answers_compute k t x _ _ _

theorem answers_sel_one {k : TileCtx} {t : Tile} {x : TileOp} (hv : x.v = 0) (hshared : SharedD x) (hon : t.on ≠ []) :
    (tileSel k t x).Answers (writes k t x [x.a, x.b] t.on (selected t x) fun _ => 0) := by
  unfold SharedD at hshared
  simp only [tileSel, unlessReserved_of_ok (decide_eq_true hv), decide_eq_true hshared, List.isEmpty_eq_false_iff.mpr hon,
    Bool.not_false, Bool.and_self, Bool.and_false, Bool.false_and, Bool.false_eq_true, if_true, if_false]
  exact answers_compute k t x _ _ _

/-- Where no lane's P is 1 and the lanes agree, their common value is written. -/
theorem answers_sel_common {k : TileCtx} {t : Tile} {x : TileOp} (hv : x.v = 0) (hoff : t.on = [])
    (hcommon : ∀ l ∈ lanes8, selected t x l = selected t x 0) :
    (tileSel k t x).Answers (writes k t x [x.a, x.b] lanes8 (selected t x) fun _ => 0) := by
  have hone : (lanes8.all fun l => decide (selected t x l = selected t x 0)) = true := by
    simpa only [List.all_eq_true, decide_eq_true_eq] using hcommon
  unfold selected at hone
  simp only [tileSel, unlessReserved_of_ok (decide_eq_true hv), hoff, hone, List.isEmpty_nil, Bool.not_true, Bool.and_false,
    Bool.false_eq_true, if_false]
  exact answers_compute k t x _ _ _

theorem exec_sel (x : TileOp) (s : State) : exec (.sel x) s = s.on fun c => c.tileRun x false tileSel := rfl

theorem exec_lut (x : TileOp) (s : State) : exec (.lut x) s = s.on fun c => c.tileRun x false tileLut := rfl

theorem tileMoves : TileMoves := by
  refine ⟨?flagrd, ?frmrdLow, ?frmrdHigh, ?laneid, ?mov, ?and, ?or, ?xor, ?sel, ?lut⟩
  case flagrd =>
    exact does_of_answers (f := tileFlagrd) (fun _ _ => rfl) fun k t x => (answers_compute k t x [] t.on _).reserved
  case frmrdLow => exact does_of_answers (fun _ _ => rfl) fun _ _ _ => answers_frmrd_low
  case frmrdHigh => exact does_of_answers (fun _ _ => rfl) fun _ _ _ => answers_frmrd_high
  case laneid =>
    exact does_of_answers (f := tileLaneid) (fun _ _ => rfl) fun k t x => (answers_compute k t x [] t.on _).reserved
  case mov =>
    exact does_of_answers (f := tileMov) (fun _ _ => rfl) fun k t x => (answers_compute k t x [x.a] t.on _).reserved
  case and => exact does_bits (· &&& ·) fun _ _ => rfl
  case or => exact does_bits (· ||| ·) fun _ _ => rfl
  case xor => exact does_bits (· ^^^ ·) fun _ _ => rfl
  case sel =>
    exact does_of_answers exec_sel fun _ _ _ => .guard fun hv => .ite (answers_sel_own hv) fun hshared =>
      .ite (answers_sel_one hv (not_not.mp hshared)) fun hoff => .guard (answers_sel_common hv (not_not.mp hoff))
  case lut =>
    refine does_of_answers exec_lut fun k t x => .guard fun ⟨hlow, hhigh, hbase, hend⟩ => ?_
    simp only [tileLut]
    rw [if_neg (by omega)]
    exact answers_compute k t x [x.a] t.on _

/-! ### Predicates -/

theorem answers_predicate (t : Tile) (srcs : List (BitVec 9)) (g : Nat → Bool → Bool) :
    (t.predicate srcs g).Answers (predicates t srcs g) :=
  .guard fun hrange => by
    rw [Tile.predicate, hrange]
    exact answers_ok _

theorem does_compare {i : TileOp → Instr} {product sgn conj : Bool}
    (hexec : ∀ x s, exec (i x) s = s.on fun c => c.tileRun x product fun _ t x => tileCompare t x sgn conj) :
    Does i fun _ t x => compares t x sgn conj := by
  refine does_of_answers hexec fun _ t x => ?_
  rw [tileCompare_eq]
  exact (answers_predicate t _ _).reserved

/-- SETP's variants, by the field itself. -/
theorem tileSetp_eq (k : TileCtx) (t : Tile) (x : TileOp) : tileSetp k t x =
    unlessReserved (decide (x.v.toNat ≤ 3 ∧ x.d = 0 ∧ x.a = 0 ∧ x.b = 0)) (t.predicate [] fun l p =>
      if x.v = 0 then true else if x.v = 1 then !p else if x.v = 2 then false else !k.unassigned.contains l) := by
  have hfield (n : BitVec 3) : x.v = n ↔ x.v.toNat = n.toNat := BitVec.toNat_inj.symm
  refine congrArg (fun g => unlessReserved _ (t.predicate [] g)) ?_
  funext l p
  simp only [hfield]
  split
  · next h0 => exact (if_pos h0).symm
  · next h1 => simp [h1]
  · next h2 => simp [h2]
  · next h0 h1 h2 => exact ((if_neg h0).trans ((if_neg h1).trans (if_neg h2))).symm

theorem tilePredicates : TilePredicates := by
  refine ⟨does_compare fun _ _ => rfl, does_compare fun _ _ => rfl, does_compare fun _ _ => rfl,
    does_compare fun _ _ => rfl, does_of_answers (f := tileSetp) (fun _ _ => rfl) fun k t x => ?setp⟩
  rw [tileSetp_eq]
  exact (answers_predicate t _ _).reserved

/-- Settles O27: a move or a selection is one write of D (`answers_compute`), a compare or SETP one write of P
(`answers_predicate`). -/
theorem tileMovesAndPredicates : Obligations.TileMovesAndPredicates := ⟨tileMoves, tilePredicates⟩

end Sys2Proof.Machine

/-! Impedance tracking: plans, ramp and history of the injection (O30). -/

namespace Sys2Proof.Machine

open Sys2Proof.Claims

theorem exec_planActivation (n : Nat) (s : State) : exec (.planActivation n) s = execPlanActivation n s := rfl

theorem exec_injectionRampUp (n : Nat) (s : State) : exec (.injectionRampUp n) s = execInjectionRampUp n s := rfl

theorem exec_historyUpdate (s : State) : exec .historyUpdate s = execHistoryUpdate s := rfl

/-! ### The tracker's record of a string -/

theorem Card.impStr_modImp_same (c : Card) (n : Nat) (f : ImpStr → ImpStr) : (c.modImp n f).impStr n = f (c.impStr n) :=
  Store.get_set_same c.imp.strs (fun _ => {}) n _

theorem Card.fld_modImp (c : Card) (n : Nat) (f : ImpStr → ImpStr) (g : Fld) : (c.modImp n f).fld g = c.fld g := rfl

theorem Card.impStr_of_imp {c c' : Card} (h : c'.imp = c.imp) (n : Nat) : c'.impStr n = c.impStr n := by
  rw [Card.impStr, Card.impStr, h]

theorem impStr_settle (old new : Card) (n : Nat) : (settle old new).impStr n = new.impStr n :=
  Card.impStr_of_imp (settle_imp old new) n

/-! ### INJ_STATE (R192) -/

theorem injState_fits {n : Nat} (hn : StringNo n) :
    (IMP_STATUS.INJ_STATE n).lo + (IMP_STATUS.INJ_STATE n).w ≤ 32 := by
  obtain ⟨_, h4⟩ := hn
  simp only [IMP_STATUS.INJ_STATE]
  omega

/-- INJ_STATE shows what a command wrote, whatever the command did to the tracker's records after it. -/
theorem injState_settle (old c : Card) {n v : Nat} (f : ImpStr → ImpStr) (hn : StringNo n) (hv : v < 4) :
    (settle old ((c.setFld (IMP_STATUS.INJ_STATE n) v).modImp n f)).fld (IMP_STATUS.INJ_STATE n) = v := by
  rw [fld_settle_block _ _ _ (by simp [IMP_STATUS.INJ_STATE, IMP_STATUS]), Card.fld_modImp,
    Card.fld_setFld_same c _ v (injState_fits hn)]
  exact Nat.mod_eq_of_lt hv

/-! ### Activation of a plan (R176) -/

@[simp] theorem Card.setLive_imp (c : Card) (kind n at' : Nat) (bs : List Byte) : (c.setLive kind n at' bs).imp = c.imp := rfl

/-- The registers of a plan are not the tracker's records. -/
@[simp] theorem Card.showPlan_imp (c : Card) (n : Nat) : (c.showPlan n).imp = c.imp :=
  each_keeps (P := fun d => d.imp = c.imp) toneIdx (fun _ _ _ hd => hd) _ rfl

@[simp] theorem Card.unconfirmed_imp (c : Card) (n q : Nat) (p : Plan) : (c.unconfirmed n q p).imp = c.imp := by
  rw [Card.unconfirmed, Card.record_imp, Card.stick_imp, Card.setFld_imp]

theorem Card.each_unconfirmed_imp (c : Card) (n : Nat) (p : Plan) (l : List Nat) :
    (c.each l fun c q => c.unconfirmed n q p).imp = c.imp :=
  each_keeps (P := fun d => d.imp = c.imp) l (fun d q _ hd => (d.unconfirmed_imp n q p).trans hd) c rfl

/-- Plan `p` is active on string `n`, and none is pending. -/
def PlanActive (n : Nat) (p : Plan) (c : Card) : Prop :=
  (c.impStr n).plan = some p ∧ (c.impStr n).pend = none ∧ (c.impStr n).confPend = []

theorem PlanActive.of_imp {n : Nat} {p : Plan} {c c' : Card} (h : PlanActive n p c) (hi : c'.imp = c.imp) :
    PlanActive n p c' := by
  rwa [PlanActive, Card.impStr_of_imp hi]

/-- The ramp is to start anew, in INJ_STATE `v`. -/
def Card.restartRamp (c : Card) (n v : Nat) : Card :=
  (c.setFld (IMP_STATUS.INJ_STATE n) v).modImp n fun x => { x with ramp := 0, clear := 0 }

theorem PlanActive.restartRamp {n : Nat} {p : Plan} {c : Card} (h : PlanActive n p c) (v : Nat) :
    PlanActive n p (c.restartRamp n v) := by
  rwa [PlanActive, Card.restartRamp, Card.impStr_modImp_same]

/-- A pending plan that is due becomes active, and then INJ_STATE follows whether it enables a tone. -/
theorem becomes_planActivation_due {s : State} {n : Nat} {p : Plan} (hl : Live s) (hn : StringNo n)
    (hpend : (s.card.impStr n).pend = some p) (hdue : p.at' = s.card.frame) :
    ∃ c, PlanActive n p c ∧ Becomes (.planActivation n) s
      (if p.en = 0 then c.restartRamp n 0 else if c.fld (IMP_STATUS.INJ_STATE n) = 0 then c.restartRamp n 2 else c) := by
  obtain ⟨h1, h4⟩ := hn
  have hruns : ¬(n = 0 ∨ 4 < n ∨ (p.at' ≠ s.card.frame ∧ (!after s.card.frame p.at') = true)) := by
    simp only [hdue, ne_eq, not_true_eq_false, false_and, or_false]
    omega
  have hb := becomes_of_on hl (exec_planActivation n s)
  extract_lets x un at hb
  rw [show x.pend = some p from hpend] at hb
  dsimp -zeta only at hb
  rw [if_neg hruns] at hb
  extract_lets amps switched live status shown alerted noted st at hb
  refine ⟨noted, ?_, hb⟩
  have hswitched : PlanActive n p switched := by
    rw [PlanActive, Card.impStr_modImp_same]
    exact ⟨rfl, rfl, rfl⟩
  have halerted : alerted.imp = switched.imp :=
    calc alerted.imp = shown.imp := shown.each_unconfirmed_imp n p un
      _ = switched.imp := by simp [shown, status, live]
  have hnoted : noted.imp = alerted.imp := by
    unfold noted
    split
    · exact Card.modOp_imp _ _ _
    · rfl
  exact hswitched.of_imp (hnoted.trans halerted)

theorem planActivation_due (s : State) (n : Nat) (p : Plan) (hl : Live s) (hn : StringNo n)
    (hpend : (s.card.impStr n).pend = some p) (hdue : p.at' = s.card.frame) :
    Gives (.planActivation n) s fun c' => (c'.impStr n).plan = some p ∧ (c'.impStr n).pend = none
      ∧ (c'.impStr n).confPend = [] ∧ (p.en = 0 → c'.fld (IMP_STATUS.INJ_STATE n) = 0) := by
  obtain ⟨c, hactive, hb⟩ := becomes_planActivation_due hl hn hpend hdue
  have hends : PlanActive n p
      (if p.en = 0 then c.restartRamp n 0 else if c.fld (IMP_STATUS.INJ_STATE n) = 0 then c.restartRamp n 2 else c) := by
    split
    · exact hactive.restartRamp 0
    · split
      · exact hactive.restartRamp 2
      · exact hactive
  obtain ⟨hplan, hpend', hconf⟩ := hends.of_imp (settle_imp s.card _)
  refine gives_of_becomes hb ⟨hplan, hpend', hconf, fun hoff => ?_⟩
  rw [if_pos hoff]
  exact injState_settle s.card c _ hn (by decide)

theorem planActivation_none (s : State) (n : Nat) (hl : Live s) (hpend : (s.card.impStr n).pend = none) :
    Becomes (.planActivation n) s s.card := by
  have hb := becomes_of_on hl (exec_planActivation n s)
  simpa only [hpend] using hb

/-! ### The ramp and the history (R186, R192) -/

theorem injectionRampUp_starts (s : State) (n : Nat) (hl : Live s) (hn : StringNo n) (hclear : 16 ≤ (s.card.impStr n).clear)
    (hsusp : s.card.fld (IMP_STATUS.INJ_STATE n) = 2) :
    Gives (.injectionRampUp n) s fun c' => c'.fld (IMP_STATUS.INJ_STATE n) = 3 ∧ (c'.impStr n).ramp = 0
      ∧ (c'.impStr n).down = false := by
  have hb := becomes_of_on hl (exec_injectionRampUp n s)
  have hruns : ¬(n = 0 ∨ 4 < n ∨ (s.card.impStr n).clear < 16 ∨ s.card.fld (IMP_STATUS.INJ_STATE n) ≠ 2) := by
    obtain ⟨h1, h4⟩ := hn
    omega
  rw [if_neg hruns] at hb
  refine gives_of_becomes hb ⟨injState_settle s.card s.card _ hn (by decide), ?_⟩
  rw [impStr_settle, Card.impStr_modImp_same]
  exact ⟨rfl, rfl⟩

theorem historyUpdate_due (s : State) (hl : Live s) (hframe : s.card.frame.toNat % 65536 = 0) (h3 : 3 ≤ s.card.tim.slot)
    (h5 : s.card.tim.slot ≤ 5) (hnew : s.card.imp.histAt ≠ some s.card.frame)
    (hruns : classRuns (s.card.fld TIL_STATUS.THROTTLE) s.card.frame 1 = true) :
    Becomes .historyUpdate s ({ s.card with imp.histAt := some s.card.frame }.each (strings.filter s.card.runsKernels)
      fun c n => c.each (c.laneCells n) fun c j => c.each (((c.impStr n).seen.getD {}).enabled) fun c k =>
        c.updateHistory n j k) := by
  have hdue : ¬(s.card.frame.toNat % 65536 ≠ 0 ∨ s.card.tim.slot < 3 ∨ 5 < s.card.tim.slot
      ∨ s.card.imp.histAt = some s.card.frame
      ∨ (!classRuns (s.card.fld TIL_STATUS.THROTTLE) s.card.frame 1) = true) := by
    simp only [hnew, hruns, Bool.not_true, Bool.false_eq_true, or_false]
    omega
  have hb := becomes_of_on hl (exec_historyUpdate s)
  rwa [if_neg hdue] at hb

/-- Settles O30: what follows the change of plan leaves the tracker's record of it (`becomes_planActivation_due`), a start of
the ramp writes INJ_STATE 3 over silence, and a history that is due is the effect of its command. -/
theorem injectionPlans : Obligations.InjectionPlans :=
  ⟨planActivation_due, planActivation_none, injectionRampUp_starts, historyUpdate_due⟩

end Sys2Proof.Machine

/-! The converters' sense channels and delays (O34). -/

namespace Sys2Proof.Machine

open Sys2Proof.Claims

theorem exec_startDelayElapsed (n : Nat) (s : State) : exec (.startDelayElapsed n) s = execStartDelayElapsed n s := rfl

theorem exec_stopDelayElapsed (n : Nat) (s : State) : exec (.stopDelayElapsed n) s = execStopDelayElapsed n s := rfl

/-! ### Samples and losses of a sense channel (R202, R203, R210, R211, R265) -/

/-- The card once a channel has brought code `k`, before and after its clamp: the channel is not lost, and a code that was
clamped sets SENSE_SAT. -/
def Card.channelFound (c : Card) (ch : Nat) (k : Int × Int) : Card :=
  (if k.1 ≠ k.2 then c.senseSat ch else c).modEng (chanOf ch).1 fun e =>
    { e with lost := e.lost - (if e.lost.testBit (chanOf ch).2 then 2 ^ (chanOf ch).2 else 0) }

/-- The effect of a fast sample that comes. -/
def Card.takeFast (c : Card) (ch : Nat) (v : Int) : Card :=
  let (n, j) := chanOf ch
  let k := c.preciseCode ch v (c.pm - 600)
  let f := (c.channelFound ch k).fastEngine n j (fastCode (isVolt j) k.2)
  if j = 6 then f.fabricCurrent n (fastCode (isVolt j) k.2) else f

/-- The effect of a precise sample that comes. -/
def Card.takePrecise (c : Card) (ch : Nat) (v : Int) : Card :=
  let (n, j) := chanOf ch
  let k := c.preciseCode ch v (c.pm - 19200)
  let p := (c.channelFound ch k).preciseEngine n j k.2 ((c.channelFound ch k).pm - 19200)
  if j = 6 ∨ j = 7 then p.pairSample n j k.2 else p

/-- A sample's effect comes about where the number of its channel is in range and the channel's modulator runs. -/
def sampled (ch : Nat) (f : Card → Card) (c : Card) : Card :=
  if 36 ≤ ch ∨ !c.bit (CNV_SD_CFG.CLK_EN (chanOf ch).1) then c else f c

theorem exec_fastSample (ch : Nat) (v : Int) (s : State) :
    exec (.fastSample ch v) s = s.on (sampled ch fun c => c.takeFast ch v) := rfl

theorem exec_preciseSample (ch : Nat) (v : Int) (s : State) :
    exec (.preciseSample ch v) s = s.on (sampled ch fun c => c.takePrecise ch v) := rfl

theorem sampled_running {ch : Nat} {c : Card} (f : Card → Card) (hch : ch < 36)
    (hclk : c.bit (CNV_SD_CFG.CLK_EN (chanOf ch).1) = true) : sampled ch f c = f c :=
  if_neg (by simpa [hclk] using hch)

theorem sampled_stopped {ch : Nat} {c : Card} (f : Card → Card)
    (hclk : c.bit (CNV_SD_CFG.CLK_EN (chanOf ch).1) = false) : sampled ch f c = c :=
  if_pos (Or.inr (by rw [hclk]; rfl))

theorem exec_senseLost (ch : Nat) (s : State) : exec (.senseLost ch) s = s.on fun c =>
    if 36 ≤ ch ∨ (c.eng (chanOf ch).1).lost.testBit (chanOf ch).2 then c else c.loseChannel ch := rfl

theorem senseLost_new {s : State} {ch : Nat} (hl : Live s) (hch : ch < 36)
    (hlost : (s.card.eng (chanOf ch).1).lost.testBit (chanOf ch).2 = false) :
    Becomes (.senseLost ch) s (s.card.loseChannel ch) := by
  have hb := becomes_of_on hl (exec_senseLost ch s)
  rwa [if_neg (by simpa [hlost] using hch)] at hb

theorem senseLost_again {s : State} {ch : Nat} (hl : Live s)
    (hlost : (s.card.eng (chanOf ch).1).lost.testBit (chanOf ch).2 = true) : Becomes (.senseLost ch) s s.card := by
  have hb := becomes_of_on hl (exec_senseLost ch s)
  rwa [if_pos (Or.inr hlost)] at hb

theorem senseSamples : SenseSamples := by
  intro s ch v hl hch
  have hfast := becomes_of_on hl (exec_fastSample ch v s)
  have hprecise := becomes_of_on hl (exec_preciseSample ch v s)
  refine ⟨fun hclk => ?_, fun hclk => ?_, senseLost_new hl hch, senseLost_again hl⟩
  · rw [sampled_running _ hch hclk] at hfast hprecise
    exact ⟨hfast, hprecise⟩
  · rw [sampled_stopped _ hclk] at hfast hprecise
    exact ⟨hfast, hprecise⟩

/-! ### The end of START_DELAY (R206) -/

/-- The engine of string `n` is in RAMP_UP and starts from a setpoint of zero. -/
def RampUpBegun (n : Nat) (c : Card) : Prop :=
  c.cnvState n = 2 ∧ (c.eng n).eff = 0 ∧ (c.eng n).trim = 0 ∧ (c.eng n).phases = []

/-- A card with the same engines and the same STATE is where this one is. -/
theorem RampUpBegun.congr {n : Nat} {c c' : Card} (h : RampUpBegun n c) (hcnv : c'.cnv = c.cnv)
    (hst : c'.cnvState n = c.cnvState n) : RampUpBegun n c' := by
  rwa [RampUpBegun, Card.eng, hcnv, hst]

theorem RampUpBegun.of_hostOnly {n : Nat} {c c' : Card} (h : RampUpBegun n c) (hh : HostOnly c c') : RampUpBegun n c' :=
  h.congr hh.cnv (congrArg (CNV_STATUS.STATE n).of (hh.reg CNV_STATUS (by decide) (by decide)))

theorem RampUpBegun.settle {n : Nat} {c : Card} (h : RampUpBegun n c) (old : Card) : RampUpBegun n (settle old c) :=
  h.congr (settle_cnv old c) (fld_settle_block old c _ (by simp [CNV_STATUS.STATE, CNV_STATUS]))

/-- A write of another register leaves the engine where it is. -/
theorem RampUpBegun.setFld {n : Nat} {c : Card} (h : RampUpBegun n c) (f : Fld) (v : Nat) (hf : f.off ≠ CNV_STATUS) :
    RampUpBegun n (c.setFld f v) :=
  h.congr (Card.setFld_cnv c f v) (Card.fld_setFld_other c f _ v hf.symm)

theorem RampUpBegun.showBand {n : Nat} {c : Card} (h : RampUpBegun n c) (s : Nat) : RampUpBegun n (c.showBand s) :=
  h.setFld _ _ (by simp only [CNV_BAND_STAT.H, CNV_BAND_STAT, CNV_STATUS]; omega)

theorem RampUpBegun.showInt {n : Nat} {c : Card} (h : RampUpBegun n c) (s : Nat) : RampUpBegun n (c.showInt s) :=
  h.setFld _ _ (by simp only [CNV_INT.I_INT, CNV_INT, CNV_STATUS]; omega)

/-- STATE shows what a command wrote. -/
theorem cnvState_setFld (c : Card) {n v : Nat} (hn : StringNo n) (hv : v < 8) :
    (c.setFld (CNV_STATUS.STATE n) v).cnvState n = v := by
  obtain ⟨_, h4⟩ := hn
  rw [Card.cnvState, Card.fld_setFld_same c _ v (by simp only [CNV_STATUS.STATE]; omega)]
  exact Nat.mod_eq_of_lt hv

theorem startDelay_ends (s : State) (n : Nat) (hl : Live s) (hn : StringNo n) (hst : s.card.cnvState n = 1)
    (hok : s.card.startCheck n = none) :
    Gives (.startDelayElapsed n) s fun c' => c'.cnvState n = 2 ∧ (c'.eng n).eff = 0 ∧ (c'.eng n).trim = 0
      ∧ (c'.eng n).phases = [] := by
  have hb := becomes_of_on hl (exec_startDelayElapsed n s)
  have hruns : ¬(n = 0 ∨ 4 < n ∨ s.card.cnvState n ≠ 1 ∨ (s.card.startCheck n).isSome = true) := by
    obtain ⟨h1, h4⟩ := hn
    rw [hok]
    simp only [Option.isSome_none, Bool.false_eq_true, or_false]
    omega
  rw [if_neg hruns] at hb
  extract_lets mode v fresh shown recorded at hb
  have hengine : fresh.eng n = _ := Card.eng_modEng_same _ n _
  have hbegun : RampUpBegun n (fresh.setFld (CNV_STATUS.STATE n) 2) := by
    refine ⟨cnvState_setFld fresh hn (by decide), ?_⟩
    rw [show (fresh.setFld (CNV_STATUS.STATE n) 2).eng n = fresh.eng n from rfl, hengine]
    exact ⟨rfl, rfl, rfl⟩
  have hrecorded : RampUpBegun n recorded := ((hbegun.showBand n).showInt n).of_hostOnly (hostOnly_record _ _ _)
  refine gives_of_becomes hb (RampUpBegun.settle ?_ s.card)
  refine each_keeps (P := RampUpBegun n) (recorded.engOps n 0x60) (fun c x _ hc => ?_) recorded hrecorded
  split
  · exact hc.of_hostOnly ((hostOnly_commit c x.1).trans (hostOnly_done _ x.1 0))
  · exact hc

theorem startDelay_stays (s : State) (n : Nat) (hl : Live s) (hst : s.card.cnvState n ≠ 1) :
    Becomes (.startDelayElapsed n) s s.card := by
  have hb := becomes_of_on hl (exec_startDelayElapsed n s)
  rwa [if_pos (Or.inr (Or.inr (Or.inl hst)))] at hb

/-! ### The end of STOP_DELAY (R206) -/

theorem stopDelay_ends (s : State) (n : Nat) (hl : Live s) (hn : StringNo n) (hst : s.card.cnvState n = 4) :
    Becomes (.stopDelayElapsed n) s (s.card.rampDown n) := by
  have hb := becomes_of_on hl (exec_stopDelayElapsed n s)
  have hruns : ¬(n = 0 ∨ 4 < n ∨ s.card.cnvState n ≠ 4) := by
    obtain ⟨h1, h4⟩ := hn
    omega
  rwa [if_neg hruns] at hb

theorem stopDelay_stays (s : State) (n : Nat) (hl : Live s) (hst : s.card.cnvState n ≠ 4) :
    Becomes (.stopDelayElapsed n) s s.card := by
  have hb := becomes_of_on hl (exec_stopDelayElapsed n s)
  rwa [if_pos (Or.inr (Or.inr hst))] at hb

theorem converterDelays : ConverterDelays :=
  ⟨startDelay_ends, fun s n hl _ => startDelay_stays s n hl, stopDelay_ends, fun s n hl _ => stopDelay_stays s n hl⟩

/-- Settles O34: a channel's clock and its lost flag pick the branch of a sample (`senseSamples`), and what follows the end
of START_DELAY leaves the engine at the start of its ramp (`RampUpBegun`). -/
theorem converterEvents : Obligations.ConverterEvents := ⟨senseSamples, converterDelays⟩

end Sys2Proof.Machine

/-! The dispatcher's requests from plant nodes, and the ends of requests (O35). -/

namespace Sys2Proof.Machine

open Sys2Proof.Claims

theorem exec_dispatchRequest (e : Envelope) (s : State) : exec (.dispatchRequest e) s = execDispatchRequest e s := rfl

theorem exec_dispatchCancel (e : Envelope) (s : State) : exec (.dispatchCancel e) s = execDispatchCancel e s := rfl

theorem exec_requestExpiry (e : Nat) (s : State) : exec (.requestExpiry e) s = execRequestExpiry e s := rfl

theorem exec_deferExpiry (e : Nat) (s : State) : exec (.deferExpiry e) s = execDeferExpiry e s := rfl

/-! ### Plant messages (R328) -/

/-- A plant message that passes every check acts on the card that has noted it. -/
theorem plantMessage_of_accepted {c : Card} {typ : Nat} {e : Envelope} (act : Card → Card)
    (ha : PlantAccepted typ e c) : c.plantMessage typ e act = act (authentic typ e c) := by
  obtain ⟨⟨hen, hport⟩, hchecks⟩ := ha
  have hours : ¬(!c.bit HST_PM_CFG.PM_EN || decide (e.udp ≠ c.fld HST_PM_CFG.PORT)) = true := by simp [hen, hport]
  have hpasses : (c.jrnPlant typ e).plantCheck2 typ e = none := hchecks
  rw [Card.plantMessage, if_neg hours]
  dsimp only
  rw [hpasses]
  rfl

theorem plantDispatch : PlantDispatch := by
  refine ⟨fun s e hl ha => ?_, fun s e hl ha => ?_⟩
  · have hb := becomes_of_on hl (exec_dispatchRequest e s)
    rw [plantMessage_of_accepted _ ha] at hb
    intro c d bad
    refine ⟨fun hbad => ?_, fun hgood hreplay => ?_, fun hgood hlive hrec => ?_, fun hgood hlive hrun => ?_⟩
    · rwa [if_pos hbad] at hb
    · rwa [if_neg (ne_true_of_eq_false hgood), if_pos hreplay] at hb
    · rwa [if_neg (ne_true_of_eq_false hgood), if_neg (ne_true_of_eq_false hlive), if_pos hrec] at hb
    · rwa [if_neg (ne_true_of_eq_false hgood), if_neg (ne_true_of_eq_false hlive),
        if_neg (ne_true_of_eq_false hrun)] at hb
  · have hb := becomes_of_on hl (exec_dispatchCancel e s)
    rwa [plantMessage_of_accepted _ ha] at hb

/-! ### The request table (R234, R238, R246) -/

theorem Card.entry_of_dsp {c c' : Card} (h : c'.dsp = c.dsp) (e : Nat) : c'.entry e = c.entry e := by
  rw [Card.entry, Card.entry, h]

@[simp] theorem Card.entry_putRequest_same (c : Card) (e : Nat) (r : Option DspReq) : (c.putRequest e r).entry e = r :=
  Store.get_set_same c.dsp.entries (fun _ => none) e r

@[simp] theorem Card.showRequests_dsp (c : Card) : c.showRequests.dsp = c.dsp := rfl

/-- REQUEST_EXPIRY of an entry that holds a request. -/
theorem becomes_requestExpiry {s : State} {e : Nat} {r : DspReq} (hl : Live s) (hr : s.card.entry e = some r) :
    Becomes (.requestExpiry e) s
      (if r.state = 3 ∧ s.card.remaining r = 0 then (s.card.putRequest e none).showRequests else s.card) := by
  have hb := becomes_of_on hl (exec_requestExpiry e s)
  rwa [hr] at hb

/-- DEFER_EXPIRY of an entry that holds a request. -/
theorem becomes_deferExpiry {s : State} {e : Nat} {r : DspReq} (hl : Live s) (hr : s.card.entry e = some r) :
    Becomes (.deferExpiry e) s
      (if r.state = 2 ∧ r.maxDefer ≤ framesSince s.card.frame r.decided then
        s.card.dropRequests [(e, r)] (0x7030 + r.last) else s.card) := by
  have hb := becomes_of_on hl (exec_deferExpiry e s)
  rwa [hr] at hb

theorem requestExpiry_ended {s : State} {e : Nat} {r : DspReq} (hl : Live s) (hr : s.card.entry e = some r)
    (hruns : r.state = 3) (hover : s.card.remaining r = 0) : Gives (.requestExpiry e) s fun c' => c'.entry e = none := by
  have hb := becomes_requestExpiry hl hr
  rw [if_pos ⟨hruns, hover⟩] at hb
  refine gives_of_becomes hb ?_
  calc (settle s.card (s.card.putRequest e none).showRequests).entry e
      = (s.card.putRequest e none).entry e := Card.entry_of_dsp ((settle_dsp _ _).trans (Card.showRequests_dsp _)) e
    _ = none := Card.entry_putRequest_same _ _ _

theorem requestExpiry_goesOn {s : State} {e : Nat} {r : DspReq} (hl : Live s) (hr : s.card.entry e = some r)
    (hnot : r.state ≠ 3 ∨ s.card.remaining r ≠ 0) : Becomes (.requestExpiry e) s s.card := by
  have hb := becomes_requestExpiry hl hr
  have hgoesOn : ¬(r.state = 3 ∧ s.card.remaining r = 0) := not_and_or.mpr hnot
  rwa [if_neg hgoesOn] at hb

theorem deferExpiry_refused {s : State} {e : Nat} {r : DspReq} (hl : Live s) (hr : s.card.entry e = some r)
    (hwaits : r.state = 2) (hpast : r.maxDefer ≤ framesSince s.card.frame r.decided) :
    Becomes (.deferExpiry e) s (s.card.dropRequests [(e, r)] (0x7030 + r.last)) := by
  have hb := becomes_deferExpiry hl hr
  rwa [if_pos ⟨hwaits, hpast⟩] at hb

theorem deferExpiry_waits {s : State} {e : Nat} {r : DspReq} (hl : Live s) (hr : s.card.entry e = some r)
    (hnot : r.state ≠ 2 ∨ framesSince s.card.frame r.decided < r.maxDefer) : Becomes (.deferExpiry e) s s.card := by
  have hb := becomes_deferExpiry hl hr
  have hwaitsOn : ¬(r.state = 2 ∧ r.maxDefer ≤ framesSince s.card.frame r.decided) := by omega
  rwa [if_neg hwaitsOn] at hb

theorem requestExpiries : RequestExpiries := fun _ _ _ hl hr =>
  ⟨requestExpiry_ended hl hr, requestExpiry_goesOn hl hr, deferExpiry_refused hl hr, deferExpiry_waits hl hr⟩

/-- Settles O35: a message that passes every check acts on the card that noted it (`plantMessage_of_accepted`), where a
request meets its checks in order; the end of a request turns on its state and its frames. -/
theorem dispatchRequests : Obligations.DispatchRequests := ⟨plantDispatch, requestExpiries⟩

end Sys2Proof.Machine

/-! The live registers after a step (O3), and what follows every command (O6). -/

namespace Sys2Proof.Machine

open Sys2Proof.Claims

/-! ### O3 -/

/-- Settles O3: a step leaves the card as it was or settles one (`step_settled`), and a settled card shows its live
registers (`shown_settle`). -/
theorem liveRegistersShow : Obligations.LiveRegistersShow := by
  intro s t hs ht
  obtain rfl | ⟨c, rfl⟩ := step_settled s t ht
  · dsimp only
    exact hs
  · dsimp only
    exact shown_settle s.card c

/-! ### The frame of what follows a command -/

theorem insideKept_of_hostOnly {c c' : Card} (h : HostOnly c c') : InsideKept c c' :=
  ⟨h.sys, h.tim, h.sec, h.lan, h.chn, h.til, h.est, h.imp, h.cnv, h.saf, h.dsp, h.thm, h.fio, h.can⟩

theorem followUpFrame : FollowUpFrame := fun old new =>
  ⟨⟨settle_sys old new, settle_tim old new, settle_sec old new, settle_lan old new, settle_chn old new, settle_til old new,
    settle_est old new, settle_imp old new, settle_cnv old new, settle_saf old new, settle_dsp old new, settle_thm old new,
    settle_fio old new, settle_can old new⟩, settle_free old new, fun _ h10 h12 hl => reg_settle old new h10 h12 hl⟩

/-! ### The summary sources (R325) -/

/-- A firing writes no register but HST_EV_PEND. -/
theorem reg_fire_other (c : Card) (n : Nat) {off : Nat} (h : ∀ w < 16, off ≠ HST_EV_PEND w) :
    (c.fire n).reg off = c.reg off := by
  unfold Card.fire
  refine iteInduction (motive := fun d : Card => d.reg off = c.reg off) (fun _ => rfl) fun hn => ?_
  extract_lets d
  have hd : d.reg off = c.reg off := Card.reg_setFld_other c _ 1 (h (n / 32) (by omega))
  refine iteInduction (motive := fun e : Card => e.reg off = c.reg off) (fun _ => ?_) fun _ => hd
  rw [Card.reg_of_regs (Card.regs_fireVec d _), hd]

theorem reg_fireSummaries_other (old c : Card) {off : Nat} (h : ∀ w < 16, off ≠ HST_EV_PEND w) :
    (fireSummaries old c).reg off = c.reg off :=
  each_keeps (P := fun d => d.reg off = c.reg off) (List.range 16) (fun d _ _ hd =>
    iteInduction (motive := fun e : Card => e.reg off = c.reg off) (fun _ => (reg_fire_other d _ h).trans hd) fun _ => hd) c rfl

/-- The sticky registers are neither live nor HST_EV_PEND. -/
theorem stickyRegs_quiet {b : Nat} (hb : b < 16) {x : Nat × Nat} (hx : x ∈ stickyRegs b) :
    x.1 ∉ liveRegs ∧ ∀ w < 16, x.1 ≠ HST_EV_PEND w := by
  have hall : ∀ b < 16, ∀ x ∈ stickyRegs b, x.1 ∉ liveRegs ∧ ∀ w < 16, x.1 ≠ HST_EV_PEND w := by decide +kernel
  exact hall b hb x hx

/-- No sticky bit is 0 and has risen at once. -/
theorem stickyRose_self (c : Card) (b : Nat) : stickyRose c c b = false := by
  simp [stickyRose]

/-- A sticky bit that the settled card holds stood in the card that the summary sources saw. -/
theorem stickyRose_of_settle {old new : Card} {b : Nat} (hb : b < 16) (h : stickyRose old (settle old new) b = true) :
    stickyRose old new.finishDeletes.takeHanded b = true := by
  unfold stickyRose at h ⊢
  rw [List.any_eq_true] at h ⊢
  obtain ⟨x, hx, hrose⟩ := h
  obtain ⟨hlive, hpend⟩ := stickyRegs_quiet hb hx
  rw [settle, Card.reg_showLive_other _ hlive, reg_fireSummaries_other _ _ hpend] at hrose
  exact ⟨x, hx, hrose⟩

/-- A block in which a sticky bit rose has its summary source pending. -/
theorem reg_fireSummaries_pending {old c : Card} {b : Nat} (hb : b < 16) (h : stickyRose old c b = true) :
    ((fireSummaries old c).reg (HST_EV_PEND ((64 + b) / 32))).getLsbD ((64 + b) % 32) = true := by
  have hlast := lasting_evPend (k := (64 + b) / 32) (by omega) ((64 + b) % 32)
  refine each_establishes (I := fun _ => True)
    (P := fun d => (d.reg (HST_EV_PEND ((64 + b) / 32))).getLsbD ((64 + b) % 32) = true) (x := b) (List.range 16)
    (List.mem_range.mpr hb) (fun _ _ _ => trivial) (fun d _ => ?_) (fun d y _ _ hd => ?_) c trivial
  · rw [if_pos h]
    exact reg_fire_summary d hb
  · split
    · exact hlast.fire (64 + y) hd
    · exact hd

theorem stickyFiresSummary : StickyFiresSummary := by
  intro i s t b hb ht hrose
  rcases exec_settled i s t ht with rfl | ⟨c, rfl⟩
  · rw [stickyRose_self] at hrose
    exact absurd hrose (by decide)
  · dsimp only at hrose ⊢
    have hlast := lasting_evPend (k := (64 + b) / 32) (by omega) ((64 + b) % 32)
    rw [Card.bit_iff, settle, Card.reg_showLive_other _ hlast.notLive]
    exact reg_fireSummaries_pending hb (stickyRose_of_settle hb hrose)

/-- Settles O6: a sticky bit that rose stood in the card whose summary sources fired (`stickyRose_of_settle`), and no later
change clears a pending bit (`Lasting`); `settle` is host side throughout. -/
theorem afterEveryCommand : Obligations.AfterEveryCommand := ⟨stickyFiresSummary, followUpFrame⟩

end Sys2Proof.Machine

/-! Descriptors: what acceptance places in the tracker (O7), what turns a descriptor away (O8), and the host interface's own
opcodes (O9). -/

namespace Sys2Proof.Machine

open Sys2Proof.Claims

/-! ### The operation in flight -/

/-- The journal's part of an arrival changes nothing but the journal. -/
theorem noteArrival_keeps {α : Type} (g : Card → α) (hjrn : ∀ c t i b, g (Card.jrn c t i b) = g c)
    (hfree : ∀ c t, g (Card.jrnFree c t) = g c) (c : Card) (r : Row) (d : Desc) (index : Nat) :
    g (c.noteArrival r d index) = g c := by
  unfold Card.noteArrival
  extract_lets e f
  have he : g e = g c := hjrn c _ _ _
  have hf : g f = g c := iteInduction (motive := fun x : Card => g x = g c) (fun _ => he) fun _ => (hjrn e _ _ _).trans he
  exact iteInduction (motive := fun x : Card => g x = g c) (fun _ => hf) fun _ => (hfree f _).trans hf

/-- A use of a session changes the role of none. -/
theorem roleOf_touch (c : Card) (id k : BitVec 16) : (c.touch id).roleOf k = c.roleOf k := by
  have hsession : (c.touch id).session k
      = (c.session k).map fun x => if x.id = id then { x with last := c.tim.clock } else x := by
    unfold Card.session Card.touch
    rw [List.find?_map]
    congr 2
    funext x
    by_cases hx : x.id = id <;> simp [hx]
  unfold Card.roleOf
  rw [hsession]
  cases c.session k with
  | none => rfl
  | some x => by_cases hx : x.id = id <;> simp [hx]

/-- An accepted descriptor is the operation in flight of its slot (R312). -/
theorem op_entered (r : Row) (d : Desc) (c : Card) (a : Nat × Nat) :
    (entered r d c a).op d.slot = some (newOp r d c a) := by
  have hhst : (noted r d c a).hst = (taken c a).hst := noteArrival_keeps Card.hst (fun _ _ _ _ => rfl) (fun _ _ => rfl) _ r d a.2
  have hsec : (noted r d c a).sec = c.sec := noteArrival_keeps Card.sec (fun _ _ _ _ => rfl) (fun _ _ => rfl) _ r d a.2
  have htim : (noted r d c a).tim = c.tim := noteArrival_keeps Card.tim (fun _ _ _ _ => rfl) (fun _ _ => rfl) _ r d a.2
  have hop : ∀ x : Card, x.hst = (taken c a).hst → x.tim = c.tim → x.roleOf d.session = c.roleOf d.session →
      ({ opcode := r.opcode, desc := d, cq := (x.sq d.sq).cq, index := a.2, role := x.roleOf d.session
         order := x.hst.order, frame := x.frame
         trig := (r.trig d).map fun w => { kind := trigKind w, at' := trigWhen w } } : Op) = newOp r d c a := by
    intro x hh ht hrole
    rw [newOp, hrole, Card.sq, Card.sq, Card.frame, Card.frame, hh, ht]
    rfl
  have hrole : (noted r d c a).roleOf d.session = c.roleOf d.session := by
    rw [Card.roleOf, Card.session, hsec]
    rfl
  rw [entered, Card.enter]
  simp only [Card.op, Card.setOp, Store.get_set_same]
  by_cases h0 : r.role = 0
  · rw [if_pos h0, hop _ hhst htim hrole]
  · rw [if_neg h0, hop ((noted r d c a).touch d.session) hhst htim ((roleOf_touch _ _ _).trans hrole)]

/-- Every descriptor command hands its descriptor to acceptance under its row. -/
theorem exec_of_mem_descriptors : ∀ x ∈ descriptors, ∀ d s, exec (x.1 d) s = s.on fun c => c.accept x.2 d := by
  simp only [descriptors, hstDescriptors, cellDescriptors, powerDescriptors, laneDescriptors, List.forall_mem_append,
    List.forall_mem_cons, List.not_mem_nil, false_imp_iff, implies_true, and_true]
  and_intros <;> exact fun _ _ => rfl

/-! ### O7 -/

theorem descriptorAccepted : DescriptorAccepted := fun x hx =>
  ⟨fun _ _ _ hl h => becomes_start (exec_of_mem_descriptors x hx _ _) hl h, op_entered x.2⟩

theorem triggeredCommandsWait : TriggeredCommandsWait := by
  simp only [TriggeredCommandsWait, waiting, List.forall_mem_cons, List.not_mem_nil, false_imp_iff, implies_true, and_true]
  and_intros <;> exact takes_of_start (fun _ _ => rfl) fun _ _ _ => rfl

/-- Settles O7: acceptance is the row's start on the card that holds the descriptor in its slot (`becomes_start`), and the
start of a row that waits changes nothing. -/
theorem descriptorsAccepted : Obligations.DescriptorsAccepted := ⟨descriptorAccepted, triggeredCommandsWait⟩

/-! ### O8 -/

/-- A descriptor that arrives behind no FENCE comes to the checks of R312. -/
theorem accept_of_reaches {r : Row} {d : Desc} {c : Card} {a : Nat × Nat} (h : Reaches d c a) :
    c.accept r d = (taken c a).acceptNow r d a.2 := by
  obtain ⟨harrives, hfence⟩ := h
  have harr : c.hst.arriving.find? (·.1 == d.sq) = some a := harrives
  have hfree : ({ c with hst.arriving := c.hst.arriving.erase a } : Card).fenced d = false := hfence
  rw [Card.accept, harr]
  simp only [hfree, Bool.false_eq_true, if_false]
  rfl

/-- A descriptor that a FENCE holds joins the held ones. -/
theorem accept_of_fenced {r : Row} {d : Desc} {c : Card} {a : Nat × Nat} (h : Arrives d c a)
    (hfence : (taken c a).fenced d = true) :
    c.accept r d = { taken c a with hst.held := c.hst.held ++ [(r.opcode, d, a.2)] } := by
  have harr : c.hst.arriving.find? (·.1 == d.sq) = some a := h
  have hheld : ({ c with hst.arriving := c.hst.arriving.erase a } : Card).fenced d = true := hfence
  rw [Card.accept, harr]
  simp only [hheld, if_true]
  rfl

/-- A failed check of the header, the tag or the session refuses the descriptor. -/
theorem acceptNow_of_headChecks {r : Row} {d : Desc} {c : Card} {i : Nat} {e : Nat × Nat}
    (h : (c.noteArrival r d i).headChecks r d = some e) :
    c.acceptNow r d i = ((c.noteArrival r d i).spendHandle r.opcode d).refuse r.opcode d i e.1 e.2 := by
  simp only [Card.acceptNow, h]

/-- A failed check of the chapter or of the trigger refuses it, the session's use noted. -/
theorem acceptNow_of_ownChecks {r : Row} {d : Desc} {c : Card} {i : Nat} {e : Nat × Nat × Word}
    (hhead : (c.noteArrival r d i).headChecks r d = none) (h : (c.noteArrival r d i).ownChecks r d = some e) :
    c.acceptNow r d i = ((if r.role = 0 then c.noteArrival r d i else (c.noteArrival r d i).touch d.session).spendHandle
      r.opcode d).refuse r.opcode d i e.1 e.2.1 e.2.2 := by
  simp only [Card.acceptNow, hhead, h]

theorem headChecks_of_reserved {c : Card} {r : Row} {d : Desc} (h : d.hdrReserved = true) :
    c.headChecks r d = some (7, 0xA002) := if_pos h

theorem headChecks_of_tagInUse {c : Card} {r : Row} {d : Desc} (h : d.hdrReserved = false)
    (hop : (c.op d.slot).isSome = true) : c.headChecks r d = some (9, 0xA004) := by
  rw [Card.headChecks, if_neg (ne_true_of_eq_false h), if_pos hop]

theorem headChecks_of_session {c : Card} {r : Row} {d : Desc} {e : Nat × Nat} (h : d.hdrReserved = false)
    (hop : c.op d.slot = none) (hs : c.sessionCheck r.role d.session = some e) : c.headChecks r d = some e := by
  rw [Card.headChecks, if_neg (ne_true_of_eq_false h), if_neg (by simp [hop]), hs]

theorem descriptorRefused : DescriptorRefused := by
  intro x hx s d a hl hr c
  have hb := becomes_of_on hl (exec_of_mem_descriptors x hx d s)
  rw [accept_of_reaches hr] at hb
  refine ⟨fun hres => ?_, fun hres hop => ?_, fun hres hop e hs => ?_, fun e hhead hown => ?_⟩
  · rwa [acceptNow_of_headChecks (headChecks_of_reserved hres)] at hb
  · rwa [acceptNow_of_headChecks (headChecks_of_tagInUse hres hop)] at hb
  · rwa [acceptNow_of_headChecks (headChecks_of_session hres hop hs)] at hb
  · rwa [acceptNow_of_ownChecks hhead hown] at hb

theorem fenceHolds : FenceHolds := by
  intro x hx s d hl
  have hb := becomes_of_on hl (exec_of_mem_descriptors x hx d s)
  refine ⟨fun a harr hfence => ?_, fun hnone => ?_⟩
  · rwa [accept_of_fenced harr hfence] at hb
  · rwa [Card.accept, hnone] at hb

theorem exec_undefinedOpcode (op : BitVec 8) (d : Desc) (s : State) :
    exec (.undefinedOpcode op d) s = execUndefinedOpcode op d s := rfl

theorem undefinedOpcode : UndefinedOpcode := by
  intro s op d a hl ⟨harr, hfence⟩ hrow
  have hfind : s.card.hst.arriving.find? (·.1 == d.sq) = some a := harr
  have hfree : ({ s.card with hst.arriving := s.card.hst.arriving.erase a } : Card).fenced d = false := hfence
  have hb := becomes_of_on hl (exec_undefinedOpcode op d s)
  simp only [hfind, hrow, hfree, Bool.false_eq_true, if_false, Card.takeHeld] at hb
  exact hb

/-- Settles O8: the first check that fails decides (`acceptNow_of_headChecks`, `acceptNow_of_ownChecks`); a FENCE and an
arrival that never was end before the checks. -/
theorem descriptorsTurnedAway : Obligations.DescriptorsTurnedAway := ⟨descriptorRefused, fenceHolds, undefinedOpcode⟩

/-! ### O9 -/

theorem sysDrain_ends : Ends .sysDrain rowSysDrain (fun d c c' =>
    (d.byte 0 = 1 → c'.fld SYS_SLOT.REMOVE = 0)
    ∧ (d.byte 0 = 0 → c.fld SYS_SLOT.REMOVE = 0 →
        c'.fld SYS_SLOT.REMOVE = 1 ∧ c'.sys.drainPending = true ∧ c'.sys.drainOps = [d.slot])) := by
  refine ends_of_start (fun _ _ => rfl) fun d old c hd => ?_
  have hsys : ∀ new : Card, (settle old new).fld SYS_SLOT.REMOVE = new.fld SYS_SLOT.REMOVE := fun new =>
    fld_settle_block old new SYS_SLOT.REMOVE (by decide)
  have hcommit : (c.commit d.slot).fld SYS_SLOT.REMOVE = c.fld SYS_SLOT.REMOVE :=
    Card.fld_commit c d.slot SYS_SLOT.REMOVE (by decide) (by decide)
  simp only [rowSysDrain, hd]
  refine ⟨fun h1 => ?_, fun h0 hrem => ?_⟩
  · rw [if_pos h1, hsys, Card.fld_done _ _ _ _ (by decide) (by decide), Card.fld_record _ _ _ _ (by decide) (by decide)]
    exact Card.fld_setFld_same _ _ 0 (by decide)
  · rw [if_neg (by omega), if_neg (by rw [hcommit]; simp [hrem]), settle_sys, hsys]
    refine ⟨?_, rfl, rfl⟩
    refine (Card.fld_record _ _ _ SYS_SLOT.REMOVE (by decide) (by decide)).trans ?_
    exact Card.fld_setFld_same _ _ 1 (by decide)

theorem hostOpcodes : HostOpcodes := by
  refine ⟨takes_of_start (fun _ _ => rfl) fun _ _ _ => rfl,
    takes_of_start (fun _ _ => rfl) fun d c hd => by simp only [rowSqCreate, hd],
    takes_of_start (fun _ _ => rfl) fun d c hd => by simp only [rowCqCreate, hd],
    takes_of_start (fun _ _ => rfl) fun d c hd => by simp only [rowSqDelete, hd],
    takes_of_start (fun _ _ => rfl) fun d c hd => by simp only [rowCqDelete, hd],
    takes_of_start (fun _ _ => rfl) fun d c hd => by simp only [rowSqRestart, hd],
    takes_of_start (fun _ _ => rfl) fun d c hd => by simp only [rowOrphanRead, hd],
    takes_of_start (fun _ _ => rfl) fun d c hd => by simp only [rowDlqRead, hd],
    takes_of_start (fun _ _ => rfl) fun d c hd => rfl,
    takes_of_start (fun _ _ => rfl) fun d c hd => by simp only [rowPlantSend, hd],
    sysDrain_ends⟩

/-- The row and the clause match on the same operation, each by a matcher of its own. -/
theorem abortOpcode : AbortOpcode :=
  takes_of_start (fun _ _ => rfl) fun d c hd => by simp only [rowHstAbort, hd] <;> rfl

/-- Settles O9: each opcode's start is the effect that its clause states, on the card that holds the descriptor in its
slot. -/
theorem ringOpcodes : Obligations.RingOpcodes := ⟨hostOpcodes, abortOpcode⟩

end Sys2Proof.Machine

/-! Plant messages to the host (O32), the refusals of a register write (O54), and doorbells (O41). -/

namespace Sys2Proof.Machine

open Sys2Proof.Claims

/-! ### O32 -/

theorem exec_hostForward (e : Envelope) (s : State) : exec (.hostForward e) s = execHostForward e s := rfl

theorem exec_plantMessageInvalid (typ : Nat) (e : Envelope) (s : State) :
    exec (.plantMessageInvalid typ e) s = execPlantMessageInvalid typ e s := rfl

/-- A plant message that fails a check is turned away with that check's reason. -/
theorem plantMessage_of_failed {c : Card} {typ r : Nat} {e : Envelope} (act : Card → Card) (hours : ForUs e c)
    (hfail : (heard typ e c).plantCheck2 typ e = some r) : c.plantMessage typ e act = (heard typ e c).plantFail r typ e := by
  obtain ⟨hen, hport⟩ := hours
  have hpm : ¬(!c.bit HST_PM_CFG.PM_EN || decide (e.udp ≠ c.fld HST_PM_CFG.PORT)) = true := by simp [hen, hport]
  have hr : (c.jrnPlant typ e).plantCheck2 typ e = some r := hfail
  rw [Card.plantMessage, if_neg hpm]
  dsimp only
  rw [hr]
  rfl

/-- A datagram off the port, or with plant messages disabled, is no plant message. -/
theorem plantMessage_of_not_forUs {c : Card} {typ : Nat} {e : Envelope} (act : Card → Card) (h : ¬ForUs e c) :
    c.plantMessage typ e act = c := by
  refine if_pos ?_
  by_contra hpm
  simp only [Bool.or_eq_true, Bool.not_eq_true', decide_eq_true_eq, not_or, Bool.not_eq_false, ne_eq, not_not] at hpm
  exact h hpm

/-- Settles O32: a message that passes every check acts on the card that noted it (`plantMessage_of_accepted`), where the
waiting HST_PLANT_RECVs pick the branch. -/
theorem plantMessages : Obligations.PlantMessages := by
  refine ⟨fun s e hl ha => ?_, fun s typ e r hl hours hsome hfail => ?_, fun s e hl h => ?_⟩
  · have hb := becomes_of_on hl (exec_hostForward e s)
    rw [plantMessage_of_accepted _ ha] at hb
    intro c
    refine ⟨fun hnone => ?_, fun r rest hrecv => ?_⟩
    · rw [show (authentic 4 e s.card).hst.recvs = [] from hnone] at hb
      exact hb
    · rw [show (authentic 4 e s.card).hst.recvs = r :: rest from hrecv] at hb
      exact hb
  · have hb := becomes_of_on hl (exec_plantMessageInvalid typ e s)
    rwa [if_neg (by simp [Option.isSome_iff_ne_none.mp hsome]), plantMessage_of_failed _ hours hfail] at hb
  · have hb := becomes_of_on hl (exec_hostForward e s)
    rwa [plantMessage_of_not_forUs _ h] at hb

/-! ### O54 -/

/-- Settles O54: each refusal is one branch of `Card.busWrite`, in its order; a write past them is
`becomes_registerWrite`. -/
theorem registerWriteChecks : Obligations.RegisterWriteChecks := by
  intro s off w be same hl
  have hb := fun be => becomes_of_on hl (exec_registerWrite off w be same s)
  unfold Card.busWrite at hb
  refine ⟨fun hnone => ?_, fun r hr => ⟨fun hbe => ?_, fun hrsvd => ?_, fun hok hfree hbad => ?_, fun hacc => ?_⟩⟩
  · specialize hb be
    rwa [hnone] at hb
  · specialize hb be
    rw [hr] at hb
    dsimp only at hb
    rwa [if_pos hbe] at hb
  · specialize hb 0xF
    rw [hr] at hb
    dsimp only at hb
    rwa [if_neg (not_not.mpr rfl), if_pos hrsvd] at hb
  · specialize hb 0xF
    rw [hr] at hb
    dsimp only at hb
    rwa [if_neg (not_not.mpr rfl), if_neg (not_not.mpr hok), if_pos (by simpa [hfree] using hbad)] at hb
  · exact becomes_registerWrite same hl hacc

/-! ### O41 -/

theorem exec_sqTailDoorbell (n : Nat) (v : BitVec 32) (s : State) :
    exec (.sqTailDoorbell n v) s = execSqTailDoorbell n v s := rfl

theorem exec_cqHeadDoorbell (n : Nat) (v : BitVec 32) (s : State) :
    exec (.cqHeadDoorbell n v) s = execCqHeadDoorbell n v s := rfl

theorem exec_doorbellDiscarded (off : Nat) (v : BitVec 32) (s : State) :
    exec (.doorbellDiscarded off v) s = execDoorbellDiscarded off v s := rfl

/-- A tail doorbell of a ring that runs or stands in ERROR, by its value. -/
theorem sqTailDoorbell_present {s : State} {n : Nat} (v : BitVec 32) (hl : Live s) (hn : n < 64)
    (hst : (s.card.sq n).state = 1 ∨ (s.card.sq n).state = 2) : Becomes (.sqTailDoorbell n v) s
      (if v.toNat < 2 ^ (s.card.sq n).log2 then (s.card.jrnFree 0x06).setSq n { s.card.sq n with tail := v.toNat }
      else if (s.card.sq n).state = 2 then (s.card.jrnFree 0x06).stick HST_STICKY.DB_NO_RING
      else (s.card.jrnFree 0x06).sqError n 0 v) := by
  have hb := becomes_of_on hl (exec_sqTailDoorbell n v s)
  dsimp only at hb
  rwa [if_neg (by simp; omega), if_neg (by omega)] at hb

theorem sqTailDoorbell_absent {s : State} {n : Nat} (v : BitVec 32) (hl : Live s) (hst : (s.card.sq n).state = 0) :
    Becomes (.sqTailDoorbell n v) s (s.card.discardDoorbell (8 * n) v) := by
  have hb := becomes_of_on hl (exec_sqTailDoorbell n v s)
  dsimp only at hb
  rwa [if_pos (by simp [hst])] at hb

theorem cqHeadDoorbell_absent {s : State} {n : Nat} (v : BitVec 32) (hl : Live s) (hp : (s.card.cq n).present = false) :
    Becomes (.cqHeadDoorbell n v) s (s.card.discardDoorbell (8 * n + 4) v) := by
  have hb := becomes_of_on hl (exec_cqHeadDoorbell n v s)
  dsimp only at hb
  rwa [if_pos (by simp [hp])] at hb

/-- A head doorbell of a present ring, whose value lies in the ring. -/
theorem cqHeadDoorbell_present {s : State} {n : Nat} {v : BitVec 32} (hl : Live s) (hn : n < 64)
    (hp : (s.card.cq n).present = true) (hv : v.toNat < 2 ^ (s.card.cq n).log2) :
    let q : Cq := { s.card.cq n with head := v.toNat }
    let c := (s.card.jrnFree 0x06).setCq n { q with full := q.isFull }
    let c := if q.isFull = true ∧ (s.card.cq n).full = false then c.cqFull n else c
    Becomes (.cqHeadDoorbell n v) s (Card.drainWaiting c.hst.waiting.length c) := by
  have hb := becomes_of_on hl (exec_cqHeadDoorbell n v s)
  dsimp only at hb
  rw [if_neg (by simp [hp]; omega), if_neg (by omega)] at hb
  simp only [Bool.and_eq_true, Bool.not_eq_true'] at hb
  exact hb

/-- Settles O41: a doorbell's value and its ring's state pick the branch of the command. -/
theorem doorbells : Obligations.Doorbells := by
  refine ⟨fun s n v hl hn hst hv => ?_, fun s n v hl hn hst hv => ?_, fun s n v hl hn hp hv => ?_, fun s off v hl => ?_⟩
  · have hb := sqTailDoorbell_present v hl hn hst
    rwa [if_pos hv] at hb
  · have hb := sqTailDoorbell_present v hl hn (Or.inl hst)
    rwa [if_neg (by omega), if_neg (by omega)] at hb
  · exact cqHeadDoorbell_present hl hn hp hv
  · have hb := becomes_of_on hl (exec_doorbellDiscarded off v s)
    unfold Card.discardDoorbell at hb
    dsimp only at hb
    refine ⟨fun htold => ?_, fun hnew => ?_, fun n hst => sqTailDoorbell_absent v hl hst,
      fun n hp => cqHeadDoorbell_absent v hl hp⟩
    · rwa [if_pos (show (s.card.stick HST_STICKY.DB_NO_RING).hst.dbNoRingInFrame = true from htold)] at hb
    · rwa [if_neg (show ¬(s.card.stick HST_STICKY.DB_NO_RING).hst.dbNoRingInFrame = true by
        simpa using ne_true_of_eq_false hnew)] at hb

end Sys2Proof.Machine

/-! Host memory and the completions in it (O43), and the PCIe side (O42). -/

namespace Sys2Proof.Machine

open Sys2Proof.Claims

/-! ### Host memory (R302) -/

/-- Inside the range written every key reads the value written. -/
theorem Store.get_setRange_inside {β : Type} [DecidableEq β] (m : Store β) (d : Nat → β) (k a : Nat) (vs : List β) (v : β)
    (h : k ≤ a ∧ a < k + vs.length) : (m.setRange d k vs).get d a = vs.getD (a - k) v := by
  induction vs generalizing m k with
  | nil =>
    simp only [List.length_nil] at h
    omega
  | cons x r ih =>
    simp only [List.length_cons] at h
    unfold Store.setRange
    by_cases ha : a = k
    · subst ha
      rw [Store.get_setRange_other _ _ _ _ _ (Or.inl (Nat.lt_succ_self a)), Store.get_set_same, Nat.sub_self,
        List.getD_cons_zero]
    · rw [ih _ _ (by omega), show a - k = a - (k + 1) + 1 by omega, List.getD_cons_succ]

/-- Without bus mastering the module writes nothing. -/
theorem dma_of_not_masters {c : Card} (h : c.masters = false) (at' : Nat) (bs : List Byte) : c.dma at' bs = c :=
  if_neg (ne_true_of_eq_false h)

/-- With it, what it writes reads back, and every other byte is as it was. -/
theorem mem_dma {c : Card} (h : c.masters = true) (at' : Nat) (bs : List Byte) (a : Nat) :
    (c.dma at' bs).hst.mem.get noByte a = stored c at' bs a := by
  unfold Card.dma stored
  rw [if_pos h]
  dsimp only
  split
  · next hin => exact Store.get_setRange_inside _ _ _ _ _ 0 hin
  · next hout => exact Store.get_setRange_other _ _ _ _ _ (by omega)

theorem hostMemoryWrites : HostMemoryWrites := by
  refine fun c at' bs => ⟨fun h => mem_dma h at' bs, fun h => dma_of_not_masters h at' bs, fun hw => ?_⟩
  unfold Card.dma
  split
  · exact Store.wf_setRange _ _ _ _ hw
  · exact hw

/-! ### Completions (R311, R313, R316, R325) -/

theorem le_length (n v : Nat) : (le n v).length = n := by
  induction n generalizing v with
  | zero => rfl
  | succ n ih => rw [le, List.length_cons, ih]

/-- A completion has 16 bytes. -/
theorem Cpl.length_bytes (p : Cpl) (phase : Bool) (head : Nat) : (p.bytes phase head).length = 16 := by
  simp only [Cpl.bytes, List.length_append, le_length]

/-- The card once a completion stands in its ring, before any source fires. -/
def Card.placed (c : Card) (p : Cpl) : Card :=
  let q := c.cq p.cq
  ((c.dma (q.base + 16 * q.tail) (p.bytes q.phase (c.sq p.sq).head)).setCq p.cq q.next).freeSlot p.owner

/-- The card once the ring's source has fired. -/
def Card.told (c : Card) (p : Cpl) : Card := if p.noEvent then c.placed p else (c.placed p).fire p.cq

theorem post_eq (c : Card) (p : Cpl) : c.post p =
    if (c.cq p.cq).next.full && !(c.cq p.cq).full then (c.told p).cqFull p.cq else c.told p := rfl

theorem hostKept_cqFull (c : Card) (n : Nat) : HostKept c (c.cqFull n) :=
  hostKept_trans (b := c.stick HST_STICKY.CQ_FULL) ⟨rfl, rfl, rfl, rfl⟩
    (hostKept_trans (hostKept_fire _ 87) (hostKept_record _ _ _))

/-- What a posted completion sets going leaves host memory, the operations and the rings as it placed them. -/
theorem hostKept_post (c : Card) (p : Cpl) : HostKept (c.placed p) (c.post p) := by
  have hfired : HostKept (c.placed p) (c.told p) :=
    iteInduction (motive := HostKept (c.placed p)) (fun _ => hostKept_refl _) fun _ => hostKept_fire _ _
  rw [post_eq]
  exact iteInduction (motive := HostKept (c.placed p)) (fun _ => hostKept_trans hfired (hostKept_cqFull _ _)) fun _ => hfired

theorem freeSlot_mem (c : Card) (owner : Option Nat) : (c.freeSlot owner).hst.mem = c.hst.mem := by
  cases owner <;> rfl

theorem freeSlot_cqs (c : Card) (owner : Option Nat) : (c.freeSlot owner).hst.cqs = c.hst.cqs := by
  cases owner <;> rfl

theorem dma_cqs (c : Card) (at' : Nat) (bs : List Byte) : (c.dma at' bs).hst.cqs = c.hst.cqs := by
  unfold Card.dma
  split <;> rfl

theorem mem_placed {c : Card} (h : c.masters = true) (p : Cpl) (a : Nat) : (c.placed p).hst.mem.get noByte a =
    stored c ((c.cq p.cq).base + 16 * (c.cq p.cq).tail) (p.bytes (c.cq p.cq).phase (c.sq p.sq).head) a := by
  rw [Card.placed, freeSlot_mem]
  exact mem_dma h _ _ a

/-- The completion's ring goes on by one entry, and no other ring changes. -/
theorem cq_placed (c : Card) (p : Cpl) (n : Nat) :
    (c.placed p).cq n = if n = p.cq then (c.cq p.cq).next else c.cq n := by
  have hcqs : (c.placed p).hst.cqs = c.hst.cqs.set (fun _ => {}) p.cq (c.cq p.cq).next := by
    rw [Card.placed, freeSlot_cqs, Card.setCq, dma_cqs]
  rw [Card.cq, hcqs]
  split
  · next h => rw [h, Store.get_set_same]
  · next h => exact Store.get_set_other _ _ _ h

theorem cq_post (c : Card) (p : Cpl) (n : Nat) : (c.post p).cq n = if n = p.cq then (c.cq p.cq).next else c.cq n := by
  obtain ⟨_, _, _, hcqs⟩ := hostKept_post c p
  rw [← cq_placed, Card.cq, hcqs]
  rfl

theorem op_post_owner (c : Card) (p : Cpl) {slot : Nat} (h : p.owner = some slot) : (c.post p).op slot = none := by
  obtain ⟨_, hops, _, _⟩ := hostKept_post c p
  rw [Card.op, hops, Card.placed, h, Card.freeSlot, Card.setOp, Store.get_set_same]

/-- A source that fires has its pending bit set. -/
theorem reg_fire_pending (c : Card) {n : Nat} (h : n < 512) :
    ((c.fire n).reg (HST_EV_PEND (n / 32))).getLsbD (n % 32) = true := by
  unfold Card.fire
  rw [if_neg (by omega)]
  extract_lets d
  have hd : (d.reg (HST_EV_PEND (n / 32))).getLsbD (n % 32) = true := reg_setFld_bit c _ (Nat.mod_lt _ (by decide))
  refine iteInduction (motive := fun e : Card => (e.reg (HST_EV_PEND (n / 32))).getLsbD (n % 32) = true)
    (fun _ => ?_) fun _ => hd
  rwa [Card.reg_of_regs (Card.regs_fireVec _ _)]

/-- A pending bit outlives the report of a full ring. -/
theorem Lasting.cqFull {o : Nat} {P : Word → Prop} (h : Lasting o P) {c : Card} (n : Nat) (hne : o ≠ HST_STICKY)
    (hc : P (c.reg o)) : P ((c.cqFull n).reg o) := by
  rw [Card.cqFull, Card.reg_of_regs (Card.regs_record _ _ _)]
  refine h.fire 87 ?_
  rwa [Card.stick, Card.reg_setFld_other c HST_STICKY.CQ_FULL 1 hne]

/-- The ring's source is pending once its completion is posted. -/
theorem pending_post (c : Card) {p : Cpl} (hev : p.noEvent = false) (hcq : p.cq < 64) :
    (c.post p).bit ⟨HST_EV_PEND (p.cq / 32), p.cq % 32, 1⟩ = true := by
  have hlast := lasting_evPend (k := p.cq / 32) (by omega) (p.cq % 32)
  have hfired : ((c.told p).reg (HST_EV_PEND (p.cq / 32))).getLsbD (p.cq % 32) = true := by
    rw [Card.told, if_neg (ne_true_of_eq_false hev)]
    exact reg_fire_pending _ (by omega)
  rw [Card.bit_iff, post_eq]
  refine iteInduction (motive := fun d : Card => (d.reg (HST_EV_PEND (p.cq / 32))).getLsbD (p.cq % 32) = true)
    (fun _ => hlast.cqFull _ ?_ hfired) fun _ => hfired
  unfold HST_EV_PEND HST_STICKY
  omega

/-- A completion that finds no room, another before it, or no bus mastering, waits. -/
theorem produce_waits {c : Card} {p : Cpl}
    (h : c.masters = false ∨ (c.cq p.cq).isFull = true ∨ (c.hst.waiting.any fun w => w.cq == p.cq) = true) :
    c.produce p = { c with hst.waiting := c.hst.waiting ++ [p] } := by
  refine if_neg ?_
  rcases h with h | h | h <;> simp [h]

theorem completionEntries : CompletionEntries := by
  refine fun c p => ⟨fun hm hev => ⟨fun a => ?_, ?_, fun hwrap => ?_, fun n hn => ?_, fun slot => op_post_owner c p,
    pending_post c hev⟩, Cpl.length_bytes _ _ _, produce_waits⟩
  · obtain ⟨hmem, _, _, _⟩ := hostKept_post c p
    rw [hmem, mem_placed hm]
  · rw [cq_post, if_pos rfl]
    rfl
  · rw [cq_post, if_pos rfl]
    exact if_pos hwrap
  · rw [cq_post, if_neg hn]

/-- Settles O43: what the module writes reads back (`mem_dma`), and of a posted completion only its place in the ring is
written (`hostKept_post`). -/
theorem hostMemoryAndCompletions : Obligations.HostMemoryAndCompletions := ⟨hostMemoryWrites, completionEntries⟩

/-! ### The host-interface reset (R319 to R322) -/

theorem exec_descriptorFetch (s : State) : exec .descriptorFetch s = execDescriptorFetch s := rfl
theorem exec_busMasterEnable (s : State) : exec .busMasterEnable s = execBusMasterEnable s := rfl
theorem exec_pcieLinkUp (s : State) : exec .pcieLinkUp s = execPcieLinkUp s := rfl
theorem exec_d3hotTransition (d : Bool) (s : State) : exec (.d3hotTransition d) s = execD3hotTransition d s := rfl
theorem exec_hostReady (s : State) : exec .hostReady s = execHostReady s := rfl
theorem exec_hostInterfaceReset (k : Nat) (s : State) : exec (.hostInterfaceReset k) s = execHostInterfaceReset k s := rfl
theorem exec_dmaReadError (fetch : Bool) (n : Nat) (s : State) :
    exec (.dmaReadError fetch n) s = execDmaReadError fetch n s := rfl

/-! What completes an operation leaves the submission rings alone. -/

theorem sqs_of_hostKept {c c' : Card} (h : HostKept c c') : c'.hst.sqs = c.hst.sqs := by
  obtain ⟨_, _, hsqs, _⟩ := h
  exact hsqs

theorem sqs_fire (c : Card) (n : Nat) : (c.fire n).hst.sqs = c.hst.sqs := sqs_of_hostKept (hostKept_fire c n)

theorem sqs_record (c : Card) (ev : Nat) (ps : List Word) : (c.record ev ps).hst.sqs = c.hst.sqs :=
  sqs_of_hostKept (hostKept_record c ev ps)

theorem sqs_dma (c : Card) (at' : Nat) (bs : List Byte) : (c.dma at' bs).hst.sqs = c.hst.sqs := by
  unfold Card.dma
  split <;> rfl

theorem sqs_freeSlot (c : Card) (owner : Option Nat) : (c.freeSlot owner).hst.sqs = c.hst.sqs := by
  cases owner <;> rfl

theorem sqs_produce (c : Card) (p : Cpl) : (c.produce p).hst.sqs = c.hst.sqs := by
  unfold Card.produce
  split
  · rw [sqs_of_hostKept (hostKept_post c p), Card.placed, sqs_freeSlot, Card.setCq, sqs_dma]
  · rfl

theorem sqs_orphan (c : Card) (p : Cpl) : (c.orphan p).hst.sqs = c.hst.sqs := by
  unfold Card.orphan
  rw [sqs_fire, sqs_freeSlot]
  dsimp only
  split
  · rw [sqs_record]
    rfl
  · rfl

theorem sqs_audit (c : Card) (o r : Nat) (id : BitVec 16) (s k : Nat) : (c.audit o r id s k).hst.sqs = c.hst.sqs := by
  unfold Card.audit
  split
  · rfl
  · exact sqs_record _ _ _

theorem sqs_complete (c : Card) (slot status reason : Nat) (r : Word) :
    (c.complete slot status reason r).hst.sqs = c.hst.sqs := by
  unfold Card.complete
  split
  · rfl
  · split
    · rfl
    · dsimp only
      split
      · rw [sqs_orphan, Card.setOp, sqs_audit]
      · rw [sqs_produce, Card.setOp, sqs_audit]

theorem sqs_endOrigin (c : Card) (o : Origin) (cause : Nat) : (c.endOrigin o cause).hst.sqs = c.hst.sqs := by
  have hfail : ∀ d : Card, (d.originFail o.frame cause).hst.sqs = d.hst.sqs := fun d => sqs_record _ _ _
  unfold Card.endOrigin
  dsimp only
  split
  · split
    · rw [sqs_complete, hfail]
      rfl
    · rw [sqs_complete, hfail]
      rfl
  · rw [hfail]
    rfl

/-- A reset ends with its report, on a card without submission rings. -/
theorem hostReset_eq (c : Card) (cause : Nat) : ∃ (d : Card) (ps : List Word), d.hst.sqs = []
    ∧ c.hostReset cause = ((d.stick HST_STICKY.HOST_RESET).fire 74).record 0xA001 ps := by
  refine ⟨_, _, ?_, rfl⟩
  split
  · exact sqs_endOrigin _ _ 3
  · rfl

/-- HST_STICKY keeps the bits that it holds. -/
theorem lasting_hstSticky (i : Nat) : Lasting HST_STICKY fun v => v.getLsbD i = true :=
  lasting_bit i (by decide +kernel) (by decide)

/-- A reset leaves no submission ring, and tells itself in HOST_RESET. -/
theorem hostReset_gives (old c : Card) (cause : Nat) : (settle old (c.hostReset cause)).hst.sqs = []
    ∧ (settle old (c.hostReset cause)).bit HST_STICKY.HOST_RESET = true := by
  obtain ⟨d, ps, hd, heq⟩ := hostReset_eq c cause
  have hkept : HostKept d (c.hostReset cause) := by
    rw [heq]
    exact hostKept_trans (b := d.stick HST_STICKY.HOST_RESET) ⟨rfl, rfl, rfl, rfl⟩
      (hostKept_trans (hostKept_fire _ _) (hostKept_record _ _ _))
  have hsqs : (c.hostReset cause).hst.sqs = [] := (sqs_of_hostKept hkept).trans hd
  have hdel : NoDeletes (c.hostReset cause) := by simp [NoDeletes, hsqs]
  refine ⟨(sqs_of_hostKept (hostKept_settle old _ hdel)).trans hsqs, ?_⟩
  rw [HST_STICKY.HOST_RESET, Card.bit_iff]
  refine (lasting_hstSticky 8).settle old hdel ?_
  rw [heq, Card.reg_of_regs (Card.regs_record _ _ _)]
  exact (lasting_hstSticky 8).fire 74 (reg_setFld_bit d HST_STICKY (by decide))

/-! ### O42 -/

theorem hostLink_events (s : State) (hl : Live s) :
    let c := Card.retryHeld s.card.hst.held.length s.card
    Becomes .descriptorFetch s (if c.masters then Card.fetchAll 64 c else c)
    ∧ Becomes .busMasterEnable s { s.card with hst.busMaster := true }.resumeMaster
    ∧ Becomes .pcieLinkUp s { s.card with hst.linkUp := true }
    ∧ (∀ d, Becomes (.d3hotTransition d) s { s.card with hst.d3 := d }.resumeMaster)
    ∧ (s.card.hst.ready = false → s.card.sys.restarting = false → Becomes .hostReady s
        (({ s.card with hst.ready := true }.record 0xA002 [pN s.card.frame.toNat]).fire 89))
    ∧ (s.card.hst.ready = true → Becomes .hostReady s s.card) := by
  have hfetch := becomes_of_on hl (exec_descriptorFetch s)
  have hmaster := becomes_of_on hl (exec_busMasterEnable s)
  have hlink := becomes_of_on hl (exec_pcieLinkUp s)
  have hd3 := fun d => becomes_of_on hl (exec_d3hotTransition d s)
  have hready := becomes_of_on hl (exec_hostReady s)
  refine ⟨hfetch, hmaster, hlink, hd3, fun hnew hrun => ?_, fun hold => ?_⟩
  · rwa [if_neg (by simp [hnew, hrun])] at hready
  · rwa [if_pos (by simp [hold])] at hready

theorem becomes_hostInterfaceReset {s : State} {k : Nat} (hl : Live s) (hk : k ≤ 2) :
    Becomes (.hostInterfaceReset k) s (s.card.hostReset k) := by
  have hb := becomes_of_on hl (exec_hostInterfaceReset k s)
  rwa [if_neg (by omega)] at hb

/-- A failed fetch: the ring's oldest fetched entry becomes its head again (R323). -/
theorem dmaReadError_fetch (s : State) (n p : Nat) (r : List (Nat × Nat)) (hl : Live s)
    (harr : (s.card.hst.arriving.filter fun x => x.1 == n) = (n, p) :: r) :
    let c := { s.card with hst.arriving := s.card.hst.arriving.filter fun x => x.1 != n }
    let c := c.setSq n { s.card.sq n with head := p }
    Becomes (.dmaReadError true n) s
      ((if (s.card.sq n).state = 1 then c.sqError n 1 0 else c).stick HST_STICKY.DMA_ERROR) := by
  have hfind : s.card.hst.arriving.find? (fun x => x.1 == n) = some (n, p) := by
    rw [← List.head?_filter, harr]
    rfl
  have hany : s.card.hst.arriving.any (fun x => x.1 == n) = true :=
    List.any_eq_true.mpr ⟨_, List.mem_of_find?_eq_some hfind, by simp⟩
  have hb := becomes_of_on hl (exec_dmaReadError true n s)
  simp only [if_true, hany, Bool.not_true, Bool.false_eq_true, if_false, hfind, Option.map_some, Option.getD_some] at hb
  simp only [Card.sq, Card.setSq, Store.get_set_same] at hb ⊢
  exact hb

/-- A failed read of an operation's host buffer before its commit point: it is withdrawn and completes (R323). -/
theorem dmaReadError_buffer (s : State) (slot : Nat) (o : Op) (hl : Live s) (hop : s.card.op slot = some o)
    (hcom : o.committed = false) (hprod : o.produced = false) (hreads : readers.contains o.opcode = true) :
    Becomes (.dmaReadError false slot) s
      (((s.card.withdraw slot o).complete slot 3 0xA050).stick HST_STICKY.DMA_ERROR) := by
  have hb := becomes_of_on hl (exec_dmaReadError false slot s)
  simp only [Bool.false_eq_true, if_false, hop] at hb
  rwa [if_neg (by rw [hcom, hprod, hreads]; decide)] at hb

/-- Settles O42: each event is one effect on the card; a reset ends without rings and with its report
(`hostReset_eq`). -/
theorem hostLink : Obligations.HostLink :=
  ⟨hostLink_events, fun s k hl hk => ⟨becomes_hostInterfaceReset hl hk,
    gives_of_becomes (becomes_hostInterfaceReset hl hk) (hostReset_gives s.card s.card k)⟩,
    dmaReadError_fetch, dmaReadError_buffer⟩

end Sys2Proof.Machine

/-! Frames of the commands of the host, of the field, of CAN and of debug (O58): what the commands of a domain may change,
and the host's commands. -/

namespace Sys2Proof.Machine

open Sys2Proof.Claims

/-! ### Domains -/

/-- The four kinds of commands. -/
inductive Domain
  | host | field | can | debug

/-- The blocks whose registers the commands of a domain write. -/
def Domain.blocks : Domain → List Nat
  | .host => [10, 12]
  | .field => [9, 10, 12, 13, 14]
  | .can => [10, 12, 14]
  | .debug => [10, 12, 15]

/-- The structures of the card that every command of a domain leaves alone; the others, and the registers, are blank. -/
def Domain.outside (k : Domain) (c : Card) : Card :=
  let c : Card := { c with regs := [], hst := {}, rcd := {}, free := 0 }
  match k with
  | .host => c
  | .field => { c with thm := {}, fio := {}, can := {} }
  | .can => { c with can := {} }
  | .debug => { c with sec := {}, lan := {} }

/-- Only what the commands of domain `k` may change differs. -/
structure Frame (k : Domain) (c c' : Card) : Prop where
  outside : k.outside c' = k.outside c
  regs : RegsKept k.blocks c c'

/-- The host interface and the recorder belong to every domain. -/
theorem Domain.outside_of_insideKept (k : Domain) {c c' : Card} (h : InsideKept c c') : k.outside c' = k.outside c := by
  obtain ⟨hsys, htim, hsec, hlan, hchn, htil, hest, himp, hcnv, hsaf, hdsp, hthm, hfio, hcan⟩ := h
  simp only [Domain.outside, hsys, htim, hsec, hlan, hchn, htil, hest, himp, hcnv, hsaf, hdsp, hthm, hfio, hcan]

theorem Domain.mem_blocks (k : Domain) : 10 ∈ k.blocks ∧ 12 ∈ k.blocks := by
  cases k <;> decide

section Frame

variable {k : Domain}

theorem Frame.refl (c : Card) : Frame k c c := ⟨rfl, fun _ _ _ => rfl⟩

theorem Frame.trans {a b c : Card} (h : Frame k a b) (g : Frame k b c) : Frame k a c :=
  ⟨g.outside.trans h.outside, fun off hl hb => (g.regs off hl hb).trans (h.regs off hl hb)⟩

theorem Frame.ite {p : Prop} [Decidable p] {c x y : Card} (hx : Frame k c x) (hy : Frame k c y) :
    Frame k c (if p then x else y) := by
  split
  · exact hx
  · exact hy

/-- A change of a domain's own structures. -/
theorem Frame.inside {c c' : Card} (h : k.outside c' = k.outside c := by rfl) (hr : c'.regs = c.regs := by rfl) :
    Frame k c c' := ⟨h, fun off _ _ => Card.reg_of_regs hr off⟩

theorem Frame.setReg (c : Card) {off : Nat} (v : Word) (h : off / 0x1000 ∈ k.blocks) : Frame k c (c.setReg off v) :=
  ⟨by cases k <;> rfl, fun o _ hb => Card.reg_setReg_other c v (by rintro rfl; exact hb h)⟩

theorem Frame.setFld (c : Card) (f : Fld) (v : Nat) (h : f.off / 0x1000 ∈ k.blocks) : Frame k c (c.setFld f v) :=
  .setReg c _ h

theorem Frame.each {α : Type} (c : Card) (l : List α) (f : Card → α → Card) (h : ∀ d, ∀ x ∈ l, Frame k d (f d x)) :
    Frame k c (c.each l f) := each_keeps (P := Frame k c) l (fun d x hx hd => hd.trans (h d x hx)) c (.refl c)

theorem Frame.of_hostOnly {c c' : Card} (h : HostOnly c c') : Frame k c c' :=
  ⟨k.outside_of_insideKept (insideKept_of_hostOnly h), fun off _ hb =>
    h.reg off (fun h10 => hb (h10 ▸ k.mem_blocks.1)) fun h12 => hb (h12 ▸ k.mem_blocks.2)⟩

theorem Frame.record (c : Card) (ev : Nat) (ps : List Word) : Frame k c (c.record ev ps) := .of_hostOnly (hostOnly_record c ev ps)

theorem Frame.complete (c : Card) (slot status reason : Nat) (r : Word) : Frame k c (c.complete slot status reason r) :=
  .of_hostOnly (hostOnly_complete c slot status reason r)

theorem Frame.done (c : Card) (slot : Nat) (r : Word) : Frame k c (c.done slot r) := .complete c slot 0 0 r

theorem Frame.commit (c : Card) (slot : Nat) : Frame k c (c.commit slot) := .of_hostOnly (hostOnly_commit c slot)

/-- The operation is committed and completes. -/
theorem Frame.commitDone (c : Card) (slot : Nat) : Frame k c ((c.commit slot).done slot) :=
  (Frame.commit c slot).trans (.done _ _ _)

theorem Frame.jrnFree (c : Card) (t : Nat) : Frame k c (c.jrnFree t) := by
  cases k <;> exact .inside

theorem Frame.jrnField (c : Card) (n : Nat) (v : Int) (b : List Byte) : Frame k c (c.jrnField n v b) := by
  cases k <;> exact .inside

theorem Frame.draw (c : Card) : Frame k c c.draw.2 := by
  cases k <;> exact .inside

/-- What follows a command belongs to every domain. -/
theorem Frame.settle {c c' : Card} (h : Frame k c c') : Frame k c (settle c c') := by
  obtain ⟨hinside, _, hregs⟩ := followUpFrame c c'
  refine h.trans ⟨k.outside_of_insideKept hinside, fun off hl hb => hregs off ?_ ?_ hl⟩
  · exact fun h10 => hb (h10 ▸ k.mem_blocks.1)
  · exact fun h12 => hb (h12 ▸ k.mem_blocks.2)

end Frame

/-- A command whose effect keeps to a domain leaves a card that keeps to it. -/
theorem Frame.of_exec {k : Domain} {i : Instr} (h : EffectIn (Frame k) i) {s t : State} (ht : exec i s = .next t) :
    Frame k s.card t.card := by
  rcases h.settled ht with heq | ⟨c, hc, heq⟩
  · rw [heq]
    exact .refl s.card
  · rw [heq]
    exact hc.settle

theorem EffectIn.of_on {R : Card → Card → Prop} {i : Instr} {f : Card → Card} (h : ∀ s, exec i s = s.on f)
    (hR : ∀ c, R c (f c)) : EffectIn R i := fun s => ⟨f, h s, hR⟩

/-! ### The host's commands -/

theorem hostOnly_drainWaiting (n : Nat) (c : Card) : HostOnly c (Card.drainWaiting n c) := by
  induction n generalizing c with
  | zero => exact .refl c
  | succ n ih =>
    unfold Card.drainWaiting
    split
    · split
      · exact (HostOnly.inside c _ _).trans ((hostOnly_post _ _).trans (ih _))
      · exact .refl c
    · exact .refl c

theorem hostOnly_resumeMaster (c : Card) : HostOnly c c.resumeMaster := by
  unfold Card.resumeMaster
  refine (hostOnly_drainWaiting _ c).trans (HostOnly.foldl _ _ (fun d v => ?_) _)
  dsimp only
  split
  · exact hostOnly_setVec d _ _
  · exact .refl d

theorem hostOnly_stick_hst (c : Card) (f : Fld) (h : f.off / 0x1000 = 10) : HostOnly c (c.stick f) :=
  HostOnly.setFld c f 1 (.inl h)

theorem hostOnly_discardDoorbell (c : Card) (off : Nat) (v : Word) : HostOnly c (c.discardDoorbell off v) := by
  unfold Card.discardDoorbell
  dsimp only
  split
  · exact hostOnly_stick_hst c _ (by decide)
  · exact (hostOnly_stick_hst c HST_STICKY.DB_NO_RING (by decide)).trans ((HostOnly.inside _ _ _).trans (hostOnly_record _ _ _))

theorem hostOnly_sqError (c : Card) (n cause : Nat) (tail : Word) : HostOnly c (c.sqError n cause tail) :=
  (hostOnly_setSq c n _).trans ((hostOnly_stick_hst _ HST_STICKY.SQ_ERROR (by decide)).trans
    ((hostOnly_fire _ 86).trans (hostOnly_record _ _ _)))

theorem HostOnly.ite {p : Prop} [Decidable p] {c x y : Card} (hx : HostOnly c x) (hy : HostOnly c y) :
    HostOnly c (if p then x else y) := by
  split
  · exact hx
  · exact hy

theorem frame_sqTailDoorbell (n : Nat) (v : BitVec 32) : EffectIn (Frame .host) (.sqTailDoorbell n v) :=
  .of_on (exec_sqTailDoorbell n v) fun c => .ite (.of_hostOnly (hostOnly_discardDoorbell c _ _))
    ((Frame.jrnFree c _).trans (.of_hostOnly (.ite (hostOnly_stick_hst _ _ (by decide)) (.ite (hostOnly_setSq _ _ _)
      (.ite (hostOnly_stick_hst _ _ (by decide)) (hostOnly_sqError _ _ _ _))))))

theorem frame_cqHeadDoorbell (n : Nat) (v : BitVec 32) : EffectIn (Frame .host) (.cqHeadDoorbell n v) :=
  .of_on (exec_cqHeadDoorbell n v) fun c => .ite (.of_hostOnly (hostOnly_discardDoorbell c _ _))
    (.ite ((Frame.jrnFree c _).trans (.of_hostOnly (hostOnly_stick_hst _ _ (by decide))))
      ((Frame.jrnFree c _).trans (.of_hostOnly ((hostOnly_setCq _ _ _).trans
        (.trans (.ite (hostOnly_cqFull _ _) (.refl _)) (hostOnly_drainWaiting _ _))))))

theorem frame_doorbellDiscarded (off : Nat) (v : BitVec 32) : EffectIn (Frame .host) (.doorbellDiscarded off v) :=
  .of_on (exec_doorbellDiscarded off v) fun c => .of_hostOnly (hostOnly_discardDoorbell c off v)

theorem frame_busMasterEnable : EffectIn (Frame .host) .busMasterEnable :=
  .of_on (exec_busMasterEnable) fun c => .of_hostOnly ((HostOnly.inside c _ _).trans (hostOnly_resumeMaster _))

theorem frame_pcieLinkUp : EffectIn (Frame .host) .pcieLinkUp :=
  .of_on (exec_pcieLinkUp) fun c => .of_hostOnly (HostOnly.inside c _ _)

theorem frame_d3hotTransition (d : Bool) : EffectIn (Frame .host) (.d3hotTransition d) :=
  .of_on (exec_d3hotTransition d) fun c => .of_hostOnly ((HostOnly.inside c _ _).trans (hostOnly_resumeMaster _))

theorem frame_hostReady : EffectIn (Frame .host) .hostReady :=
  .of_on (exec_hostReady) fun c => .of_hostOnly (.ite (.refl c)
    ((HostOnly.inside c _ _).trans ((hostOnly_record _ _ _).trans (hostOnly_fire _ _))))

theorem exec_msixMessage (v : Nat) (s : State) : exec (.msixMessage v) s = execMsixMessage v s := rfl

theorem exec_msixUnmask (v : Nat) (s : State) : exec (.msixUnmask v) s = execMsixUnmask v s := rfl

theorem frame_msixMessage (v : Nat) : EffectIn (Frame .host) (.msixMessage v) :=
  .of_on (exec_msixMessage v) fun c => .of_hostOnly (.ite (.refl c) (.ite (hostOnly_setVec c _ _) (hostOnly_setVec c _ _)))

theorem frame_msixUnmask (v : Nat) : EffectIn (Frame .host) (.msixUnmask v) :=
  .of_on (exec_msixUnmask v) fun c => .of_hostOnly (.ite (.refl c)
    ((hostOnly_setVec c _ _).trans (.ite (hostOnly_setVec _ _ _) (.refl _))))

/-- Every event of the host keeps to the host's domain. -/
theorem frame_of_hostEvent (i : Instr) (h : hostEvent i = true) : EffectIn (Frame .host) i := by
  cases i
  case sqTailDoorbell => exact frame_sqTailDoorbell _ _
  case cqHeadDoorbell => exact frame_cqHeadDoorbell _ _
  case doorbellDiscarded => exact frame_doorbellDiscarded _ _
  case busMasterEnable => exact frame_busMasterEnable
  case pcieLinkUp => exact frame_pcieLinkUp
  case d3hotTransition => exact frame_d3hotTransition _
  case hostReady => exact frame_hostReady
  case msixMessage => exact frame_msixMessage _
  case msixUnmask => exact frame_msixUnmask _
  all_goals exact absurd h Bool.false_ne_true

end Sys2Proof.Machine

/-! Frames of the field events (O58). -/

namespace Sys2Proof.Machine

open Sys2Proof.Claims

/-- A change of the field's own structures. -/
theorem Frame.fieldInside (c : Card) (t : Thm) (f : Fio) (n : Can) :
    Frame .field c { c with thm := t, fio := f, can := n } := .inside

/-! ### Inputs (R394 to R396) -/

theorem Frame.cosEntry (c : Card) (e : CosEntry) : Frame .field c (c.cosEntry e) := by
  have hpend := Frame.setFld (k := .field) c FIO_COS.PEND (putBit (c.fld FIO_COS.PEND) e.input true) (by decide)
  refine hpend.trans (.ite ?_ ?_)
  · exact (Frame.setFld _ FIO_COS_STAT.LOST _ (by decide)).trans (
      (Frame.setFld _ FIO_STICKY.COS_OVF _ (by decide)).trans (.fieldInside _ _ _ _))
  · exact Frame.trans (.fieldInside _ _ _ _) (.setFld _ FIO_COS_STAT.FILL _ (by decide))

theorem Frame.diChange (c : Card) (i : Nat) (level : Bool) (pm : Nat) : Frame .field c (c.diChange i level pm) :=
  Frame.trans (.fieldInside _ _ _ _) ((Frame.jrnField _ _ _ _).trans (.ite (.cosEntry _ _) (.refl _)))

theorem Frame.diSample (c : Card) (i : Nat) (raw : Bool) : Frame .field c (c.diSample i raw) :=
  .ite (.fieldInside _ _ _ _) (.ite (.diChange _ _ _ _) (.fieldInside _ _ _ _))

theorem Frame.wireBreak (c : Card) (input : Nat) (broken : Bool) : Frame .field c (c.wireBreak input broken) := by
  refine .ite (.refl c) ?_
  have hset := Frame.setFld (k := .field) c FIO_DI_STATE.BROKEN (putBit (c.fld FIO_DI_STATE.BROKEN) input broken) (by decide)
  refine hset.trans (.ite ?_ (.record _ _ _))
  exact (Frame.setFld _ FIO_STICKY.BROKEN _ (by decide)).trans ((Frame.record _ _ _).trans (.ite (.diChange _ _ _ _) (.refl _)))

/-! ### The link (R392, R393, R399) -/

theorem Frame.reportSafe (c : Card) : Frame .field c c.reportSafe := by
  unfold Card.reportSafe
  split
  · exact .refl c
  · refine Frame.trans (.fieldInside _ _ _ _) ((Frame.setFld _ FIO_STATUS.SAFE_ACTIVE _ (by decide)).trans
      ((Frame.setFld _ FIO_STICKY.SAFE_ENTERED _ (by decide)).trans ((Frame.record _ _ _).trans (.each _ _ _ fun d n _ => ?_))))
    exact .ite ((Frame.setFld d THM_STICKY.AO_SAFE _ (by decide)).trans (.record _ _ _)) (.refl d)

theorem Frame.tableSent (c : Card) : Frame .field c c.tableSent := .ite (.fieldInside _ _ _ _) (.refl c)

theorem Frame.frameToField (c : Card) : Frame .field c c.frameToField := by
  refine Frame.trans (b := { c with fio.silent := false }) (.fieldInside _ _ _ _)
    (Frame.trans ?_ ((Frame.tableSent _).trans (.fieldInside _ _ _ _)))
  exact .ite (.fieldInside _ _ _ _) (.refl _)

theorem Frame.frameFromField (c : Card) (ok : Bool) (readback : BitVec 8) (count : BitVec 32) :
    Frame .field c (c.frameFromField ok readback count) :=
  (Frame.setFld c FIO_DO_STATE.READBACK _ (by decide)).trans ((Frame.setFld _ FIO_DO_STATE.FAULT _ (by decide)).trans
    (Frame.trans (.fieldInside _ _ _ _) ((Frame.setFld _ CAN_TCNT_LIVE.CNT _ (by decide)).trans
      (.trans (.ite (.fieldInside _ _ _ _) (.refl _))
      (.trans (.ite (.record _ _ _) (.refl _)) ((Frame.setFld _ FIO_STATUS.TABLE_OK _ (by decide)).trans
        (.ite (.reportSafe _) (.refl _))))))))

/-! ### Analog outputs (R295, R296) -/

theorem aoOut_block {n : Nat} (h : n < 4) : (THM_AO_OUT.CODE n).off / 0x1000 = 9 := by
  show (0x90B0 + 0x4 * n) / 0x1000 = 9
  omega

theorem Frame.driveAo (c : Card) {n : Nat} (h : n < 4) (code state : Nat) : Frame .field c (c.driveAo n code state) := by
  have hblock : (THM_AO_OUT.CODE n).off / 0x1000 ∈ Domain.field.blocks := by
    rw [aoOut_block h]
    decide
  exact (Frame.setFld c _ _ hblock).trans (.setFld _ (THM_AO_OUT.STATE n) _ hblock)

theorem Frame.modAo (c : Card) (n : Nat) (f : AnalogOut → AnalogOut) : Frame .field c (c.modAo n f) := .fieldInside _ _ _ _

theorem Frame.applyAo (c : Card) (slot : Nat) {n : Nat} (h : n < 4) (v : Nat) : Frame .field c (c.applyAo slot n v) := by
  have hdriven : Frame .field c (((c.commit slot).driveAo n v 1).modAo n fun x => { x with onSafe := false }) :=
    (Frame.commit c slot).trans ((Frame.driveAo _ h v 1).trans (.modAo _ n _))
  exact .ite (.commitDone c slot) (hdriven.trans (Frame.trans (.fieldInside _ _ _ _) (.done _ _ _)))

theorem Frame.applyAoWaiting (c : Card) {n : Nat} (h : n < 4) : Frame .field c (c.applyAoWaiting n) :=
  .each c _ _ fun d _ _ => .ite (.complete d _ _ _ _) (.applyAo d _ h _)

theorem Frame.aoStep (c : Card) {n : Nat} (h : n < 4) : Frame .field c (c.aoStep n) := by
  unfold Card.aoStep
  dsimp only
  split
  · exact .refl c
  · refine .ite (.refl c) (.ite ?_ (.ite (.modAo c n _) (.ite ?_ (.refl c))))
    · exact (Frame.driveAo c h 0 2).trans (.modAo _ n _)
    · exact (Frame.modAo c n _).trans ((Frame.driveAo _ h _ 1).trans ((Frame.record _ _ _).trans
        (.ite (.driveAo _ h _ 3) (.applyAoWaiting _ h))))

/-! ### The events -/

theorem exec_diSample (levels : BitVec 16) (s : State) : exec (.diSample levels) s = execDiSample levels s := rfl
theorem exec_wireBreak (input : Nat) (broken : Bool) (s : State) :
    exec (.wireBreak input broken) s = execWireBreak input broken s := rfl
theorem exec_doFault (output : Nat) (thermal : Bool) (s : State) :
    exec (.doFault output thermal) s = execDoFault output thermal s := rfl
theorem exec_doSupChange (inRange : Bool) (volts : Nat) (s : State) :
    exec (.doSupChange inRange volts) s = execDoSupChange inRange volts s := rfl
theorem exec_fieldLinkFrame (toField valid ok : Bool) (readback : BitVec 8) (count : BitVec 32) (s : State) :
    exec (.fieldLinkFrame toField valid ok readback count) s = execFieldLinkFrame toField valid ok readback count s := rfl
theorem exec_fieldSideSilent (s : State) : exec .fieldSideSilent s = execFieldSideSilent s := rfl
theorem exec_safeState (s : State) : exec .safeState s = execSafeState s := rfl
theorem exec_linkRestored (s : State) : exec .linkRestored s = execLinkRestored s := rfl
theorem exec_fieldPowerLost (s : State) : exec .fieldPowerLost s = execFieldPowerLost s := rfl
theorem exec_fieldPowerUp (s : State) : exec .fieldPowerUp s = execFieldPowerUp s := rfl
theorem exec_aoRangeSequence (output : Nat) (s : State) : exec (.aoRangeSequence output) s = execAoRangeSequence output s := rfl

theorem frame_diSample (levels : BitVec 16) : EffectIn (Frame .field) (.diSample levels) :=
  .of_on (exec_diSample levels) fun c => .ite (.refl c) (.each c _ _ fun d i _ => .diSample d i _)

theorem frame_wireBreak (input : Nat) (broken : Bool) : EffectIn (Frame .field) (.wireBreak input broken) :=
  .of_on (exec_wireBreak input broken) fun c => .ite (.wireBreak c input broken) (.fieldInside _ _ _ _)

theorem frame_doFault (output : Nat) (thermal : Bool) : EffectIn (Frame .field) (.doFault output thermal) :=
  .of_on (exec_doFault output thermal) fun c => .ite (.refl c)
    ((Frame.setFld c FIO_DO_STATE.FAULT _ (by decide)).trans (Frame.trans (.fieldInside _ _ _ _)
      ((Frame.setFld _ FIO_STICKY.DO_FAULT _ (by decide)).trans (.record _ _ _))))

theorem frame_doSupChange (inRange : Bool) (volts : Nat) : EffectIn (Frame .field) (.doSupChange inRange volts) :=
  .of_on (exec_doSupChange inRange volts) fun c => (Frame.setFld c FIO_STATUS.SUP_OK _ (by decide)).trans
    (.ite ((Frame.setFld _ FIO_STICKY.SUP_LOW _ (by decide)).trans (.record _ _ _)) (.refl _))

theorem frame_fieldLinkFrame (toField valid ok : Bool) (readback : BitVec 8) (count : BitVec 32) :
    EffectIn (Frame .field) (.fieldLinkFrame toField valid ok readback count) :=
  .of_on (exec_fieldLinkFrame toField valid ok readback count) fun c =>
    .ite (.ite (.frameToField c) (.frameFromField c _ _ _)) (.ite (.tableSent c) (.refl c))

theorem frame_fieldSideSilent : EffectIn (Frame .field) .fieldSideSilent :=
  .of_on exec_fieldSideSilent fun c => .ite ((Frame.setFld c FIO_STATUS.LINK_OK _ (by decide)).trans
    ((Frame.setFld _ FIO_STICKY.LINK_LOST _ (by decide)).trans (Frame.trans (.fieldInside _ _ _ _) (.record _ _ _)))) (.refl c)

theorem frame_safeState : EffectIn (Frame .field) .safeState :=
  .of_on exec_safeState fun c => by
    refine .ite (.refl c) ?_
    extract_lets usable actions level drive live f n d
    have hd : Frame .field c d := .fieldInside _ _ _ _
    refine hd.trans (.each d live _ fun e n hn => ?_)
    have h4 : n < 4 := by
      have hall : ∀ m ∈ [0, 1, 2, 3], m < 4 := by decide
      exact hall n (List.mem_of_mem_filter hn)
    exact .ite (.modAo e n _) ((Frame.driveAo e h4 _ 3).trans (.modAo _ n _))

theorem frame_linkRestored : EffectIn (Frame .field) .linkRestored :=
  .of_on exec_linkRestored fun c => .ite (.refl c) ((Frame.setFld c FIO_STATUS.LINK_OK _ (by decide)).trans
    ((Frame.record _ _ _).trans ((Frame.reportSafe _).trans
      (Frame.trans (.fieldInside _ _ _ _) (.each _ _ _ fun d x _ => .wireBreak d _ _)))))

theorem frame_fieldPowerLost : EffectIn (Frame .field) .fieldPowerLost :=
  .of_on exec_fieldPowerLost fun _ => .fieldInside _ _ _ _

theorem frame_fieldPowerUp : EffectIn (Frame .field) .fieldPowerUp :=
  .of_on exec_fieldPowerUp fun c => .ite (.refl c) (.fieldInside _ _ _ _)

theorem frame_aoRangeSequence (output : Nat) : EffectIn (Frame .field) (.aoRangeSequence output) :=
  .of_on (exec_aoRangeSequence output) fun c => iteInduction (motive := Frame .field c) (fun _ => .refl c) fun h =>
    have h4 : output < 4 := Nat.lt_of_not_le h
    (Frame.aoStep c h4).trans ((Frame.aoStep _ h4).trans (.aoStep _ h4))

/-- Every field event keeps to the field's domain. -/
theorem frame_of_fieldEvent (i : Instr) (h : fieldEvent i = true) : EffectIn (Frame .field) i := by
  cases i
  case diSample => exact frame_diSample _
  case wireBreak => exact frame_wireBreak _ _
  case doFault => exact frame_doFault _ _
  case doSupChange => exact frame_doSupChange _ _
  case fieldLinkFrame => exact frame_fieldLinkFrame _ _ _ _ _
  case fieldSideSilent => exact frame_fieldSideSilent
  case safeState => exact frame_safeState
  case linkRestored => exact frame_linkRestored
  case fieldPowerLost => exact frame_fieldPowerLost
  case fieldPowerUp => exact frame_fieldPowerUp
  case aoRangeSequence => exact frame_aoRangeSequence _
  all_goals exact absurd h Bool.false_ne_true

end Sys2Proof.Machine

/-! Frames of the events of the CAN controllers (O58). -/

namespace Sys2Proof.Machine

open Sys2Proof.Claims

/-- A change of CAN's own structure. -/
theorem Frame.canInside (c : Card) (n : Can) : Frame .can c { c with can := n } := .inside

theorem Frame.modHole (c : Card) (n h : Nat) (f : Hole → Hole) : Frame .can c (c.modHole n h f) := .canInside c _

/-- The registers of a controller lie in the block CAN. -/
theorem Frame.setController (c : Card) {n base lo w : Nat} (hn : n < 2) (hb : 0xE000 ≤ base ∧ base < 0xEE00) (v : Nat) :
    Frame .can c (c.setFld ⟨base + 0x100 * n, lo, w⟩ v) := by
  refine .setFld c _ v ?_
  rw [show (base + 0x100 * n) / 0x1000 = 14 by omega]
  decide

/-! ### Holes (R403 to R405) -/

theorem Frame.showHole (c : Card) : Frame .can c c.showHole := by
  refine (Frame.setFld c CAN_WIN_STAT.NEW_DATA _ (by decide)).trans ((Frame.setFld _ CAN_WIN_STAT.MSG_LOST _ (by decide)).trans
    ((Frame.setFld _ CAN_WIN_STAT.UPD _ (by decide)).trans ((Frame.setFld _ CAN_WIN_STAT.FRAME _ (by decide)).trans
      ((Frame.setFld _ CAN_WIN_ID.ID _ (by decide)).trans ((Frame.setFld _ CAN_WIN_TS.STAMP _ (by decide)).trans
        (.each _ _ _ fun d w hw => .setFld d (CAN_WIN_DATA.DATA w) _ ?_))))))
  have hdata : ∀ w ∈ List.range 16, (CAN_WIN_DATA.DATA w).off / 0x1000 ∈ Domain.can.blocks := by decide
  exact hdata w hw

theorem Frame.storeFrame (c : Card) {n : Nat} (hn : n < 2) (f : CanFrame) : Frame .can c (c.storeFrame n f) := by
  unfold Card.storeFrame
  split
  · exact .setController c hn (by decide) _
  · extract_lets overwritten pm c₁ c₂ c₃
    have h₁ : Frame .can c c₁ := .modHole c n _ _
    have h₂ : Frame .can c₁ c₂ :=
      .ite ((Frame.setController c₁ hn (by decide) _).trans (.setController _ hn (by decide) _)) (.refl c₁)
    have h₃ : Frame .can c₂ c₃ := .ite (.of_hostOnly (hostOnly_fire c₂ _)) (.setController c₂ hn (by decide) _)
    exact h₁.trans (h₂.trans (h₃.trans (.showHole c₃)))

theorem Frame.askHole (c : Card) (n h : Nat) (f : Hole → Hole) : Frame .can c (c.askHole n h f) :=
  (Frame.modHole c n h _).trans (.ite (.canInside _ _) (.refl _))

theorem Frame.askSend (c : Card) (n h slot : Nat) (at' : BitVec 32) : Frame .can c (c.askSend n h slot at') := .askHole c n h _

theorem Frame.endSend (c : Card) (n h : Nat) : Frame .can c (c.endSend n h) := by
  unfold Card.endSend
  dsimp only
  split
  · exact (Frame.modHole c n h _).trans (.askSend _ n h _ _)
  · exact .modHole c n h _

/-! ### Error states (R407, R409) -/

theorem Frame.leaveActive (c : Card) (n : Nat) : Frame .can c (c.leaveActive n) := .ite (.refl c) (.canInside c _)

theorem Frame.errorActive (c : Card) {n : Nat} (hn : n < 2) : Frame .can c (c.errorActive n) :=
  (Frame.canInside c _).trans ((Frame.setController _ hn (by decide) _).trans (.record _ _ _))

/-- The error counters are cleared and the controller is error active again. -/
theorem Frame.recovered (c : Card) {n : Nat} (hn : n < 2) :
    Frame .can c (((c.setFld (CAN_STATUS.TEC n) 0).setFld (CAN_STATUS.REC n) 0).errorActive n) :=
  (Frame.setController c hn (by decide) _).trans ((Frame.setController _ hn (by decide) _).trans (.errorActive _ hn))

/-- The operations of a list are committed and complete. -/
theorem Frame.eachDone (c : Card) (ops : List (Nat × Op)) :
    Frame .can c (c.each ops fun c x => (c.commit x.1).done x.1) := .each c ops _ fun d x _ => .commitDone d x.1

/-! ### The events -/

theorem exec_canFrameReceived (ctl : Nat) (f : CanFrame) (s : State) :
    exec (.canFrameReceived ctl f) s = execCanFrameReceived ctl f s := rfl
theorem exec_canFrameSent (ctl : Nat) (s : State) : exec (.canFrameSent ctl) s = execCanFrameSent ctl s := rfl
theorem exec_canSendTimeout (ctl hole : Nat) (s : State) :
    exec (.canSendTimeout ctl hole) s = execCanSendTimeout ctl hole s := rfl
theorem exec_canError (ctl tec rec : Nat) (s : State) : exec (.canError ctl tec rec) s = execCanError ctl tec rec s := rfl
theorem exec_canBusOffRecovery (ctl : Nat) (s : State) : exec (.canBusOffRecovery ctl) s = execCanBusOffRecovery ctl s := rfl
theorem exec_canIntegrationEnd (ctl : Nat) (s : State) : exec (.canIntegrationEnd ctl) s = execCanIntegrationEnd ctl s := rfl
theorem exec_canSleepEntry (ctl : Nat) (s : State) : exec (.canSleepEntry ctl) s = execCanSleepEntry ctl s := rfl
theorem exec_canWake (ctl cause : Nat) (s : State) : exec (.canWake ctl cause) s = execCanWake ctl cause s := rfl
theorem exec_canTsSnapshot (s : State) : exec .canTsSnapshot s = execCanTsSnapshot s := rfl

/-- A command that does nothing for a controller beyond the two. -/
theorem Frame.ofController {ctl : Nat} {p : Prop} [Decidable (2 ≤ ctl ∨ p)] {c x : Card}
    (h : ctl < 2 → Frame .can c x) : Frame .can c (if 2 ≤ ctl ∨ p then c else x) :=
  iteInduction (motive := Frame .can c) (fun _ => .refl c) fun hn => h (by omega)

theorem frame_canFrameReceived (ctl : Nat) (f : CanFrame) : EffectIn (Frame .can) (.canFrameReceived ctl f) :=
  .of_on (exec_canFrameReceived ctl f) fun c => .ofController fun h => .ite (.refl c)
    (.ite ((Frame.jrnField c _ _ _).trans (.storeFrame _ h f)) (.refl c))

theorem frame_canFrameSent (ctl : Nat) : EffectIn (Frame .can) (.canFrameSent ctl) :=
  .of_on (exec_canFrameSent ctl) fun c => .ofController fun h => by
    split
    · exact .refl c
    · next hole _ =>
      extract_lets x n c₁ c₂
      have h₁ : Frame .can c c₁ := (Frame.canInside c _).trans (.endSend _ ctl hole)
      have h₂ : Frame .can c₁ c₂ := by
        unfold c₂
        split
        · exact .commitDone c₁ _
        · exact .refl c₁
      exact (h₁.trans h₂).trans (.ite (.refl c₂) (.storeFrame c₂ h _))

theorem frame_canSendTimeout (ctl hole : Nat) : EffectIn (Frame .can) (.canSendTimeout ctl hole) :=
  .of_on (exec_canSendTimeout ctl hole) fun c => .ofController fun h => by
    have hstopped : Frame .can c (((c.endSend ctl hole).stick (CAN_STICKY.TX_TIMEOUT ctl)).record 0xE007 [pN ctl, pN hole]) :=
      (Frame.endSend c ctl hole).trans ((Frame.setController _ h (by decide) _).trans (.record _ _ _))
    refine hstopped.trans ?_
    split
    · exact (Frame.commit _ _).trans (.complete _ _ _ _ _)
    · exact .refl _

theorem frame_canError (ctl tec rec : Nat) : EffectIn (Frame .can) (.canError ctl tec rec) :=
  .of_on (exec_canError ctl tec rec) fun c => .ofController fun h =>
    (Frame.setController c h (by decide) _).trans ((Frame.setController _ h (by decide) _).trans
      (.ite ((Frame.leaveActive _ ctl).trans ((Frame.setController _ h (by decide) _).trans
          ((Frame.setController _ h (by decide) _).trans (.record _ _ _))))
        (.ite (.ite (.refl _) ((Frame.leaveActive _ ctl).trans ((Frame.setController _ h (by decide) _).trans
            ((Frame.setController _ h (by decide) _).trans (.record _ _ _)))))
          (.ite (.errorActive _ h) (.refl _)))))

theorem frame_canBusOffRecovery (ctl : Nat) : EffectIn (Frame .can) (.canBusOffRecovery ctl) :=
  .of_on (exec_canBusOffRecovery ctl) fun c => .ofController fun h => .recovered c h

theorem frame_canIntegrationEnd (ctl : Nat) : EffectIn (Frame .can) (.canIntegrationEnd ctl) :=
  .of_on (exec_canIntegrationEnd ctl) fun c => .ofController fun h =>
    .ite (.recovered c h) (.setController c h (by decide) _)

theorem frame_canSleepEntry (ctl : Nat) : EffectIn (Frame .can) (.canSleepEntry ctl) :=
  .of_on (exec_canSleepEntry ctl) fun c => .ofController fun h =>
    (Frame.canInside c _).trans ((Frame.setController _ h (by decide) _).trans ((Frame.record _ _ _).trans (.eachDone _ _)))

theorem frame_canWake (ctl cause : Nat) : EffectIn (Frame .can) (.canWake ctl cause) :=
  .of_on (exec_canWake ctl cause) fun c => .ofController fun h =>
    (Frame.setController c h (by decide) _).trans ((Frame.setController _ h (by decide) _).trans ((Frame.record _ _ _).trans
      (.eachDone _ _)))

theorem frame_canTsSnapshot : EffectIn (Frame .can) .canTsSnapshot :=
  .of_on exec_canTsSnapshot fun c => (Frame.jrnFree c _).trans ((Frame.setFld _ CAN_TS_PM_LO.PM _ (by decide)).trans
    ((Frame.setFld _ CAN_TS_PM_HI.PM _ (by decide)).trans ((Frame.setFld _ CAN_TS_CNT.CNT _ (by decide)).trans
      (.setFld _ CAN_TS_FRAME.FRAME _ (by decide)))))

/-- Every event of the CAN controllers keeps to their domain. -/
theorem frame_of_canEvent (i : Instr) (h : canEvent i = true) : EffectIn (Frame .can) i := by
  cases i
  case canFrameReceived => exact frame_canFrameReceived _ _
  case canFrameSent => exact frame_canFrameSent _
  case canSendTimeout => exact frame_canSendTimeout _ _
  case canError => exact frame_canError _ _ _
  case canBusOffRecovery => exact frame_canBusOffRecovery _
  case canSleepEntry => exact frame_canSleepEntry _
  case canWake => exact frame_canWake _ _
  case canIntegrationEnd => exact frame_canIntegrationEnd _
  case canTsSnapshot => exact frame_canTsSnapshot
  all_goals exact absurd h Bool.false_ne_true

end Sys2Proof.Machine

/-! Frames of the TAP instructions and the debug commands, and the frames of all four domains (O58). -/

namespace Sys2Proof.Machine

open Sys2Proof.Claims

/-- A change of the sessions' and the lanes' structures. -/
theorem Frame.debugInside (c : Card) (x : Sec) (l : Lan) (n : Nat) :
    Frame .debug c { c with sec := x, lan := l, free := n } := .inside

theorem Frame.stickSec (c : Card) (f : Fld) (h : f.off = SEC_STICKY) : Frame .debug c (c.stick f) := by
  refine .setFld c f 1 ?_
  rw [h]
  decide

/-! ### Sessions, keys and challenges (R417 to R421) -/

theorem Frame.pickId (n : Nat) (used : BitVec 16 → Bool) (c : Card) : Frame .debug c (Card.pickId n used c).2 := by
  induction n generalizing c with
  | zero => exact .refl c
  | succ n ih =>
    unfold Card.pickId
    dsimp only
    split
    · exact .draw c
    · exact (Frame.draw c).trans (ih _)

theorem Frame.challenge (c : Card) (slot path : Nat) : Frame .debug c (c.challenge slot path).2.2 := by
  have hpick := Frame.pickId 32 (fun x => c.sec.challenges.any (·.handle == x)) c
  exact (hpick.trans (.draw _)).trans (.debugInside (Card.pickId 32 _ c).2.draw.2 _ _ _)

theorem Frame.openSession (c : Card) (role slot path : Nat) : Frame .debug c (c.openSession role slot path).2 := by
  unfold Card.openSession
  dsimp only
  exact (Frame.pickId 32 _ c).trans ((Frame.debugInside _ _ _ _).trans (.record _ _ _))

theorem Frame.setKey (c : Card) (n : Nat) (key : KeySlot) : Frame .debug c (c.setKey n key) := .debugInside c _ _ _

theorem Frame.authPass (c : Card) (slot : Nat) : Frame .debug c (c.authPass slot) := .setKey c slot _

theorem Frame.authFail (c : Card) (slot : Nat) (path : Word) : Frame .debug c (c.authFail slot path) := by
  unfold Card.authFail
  extract_lets key n secs c₁ c₂
  have h₂ : Frame .debug c c₂ := (Frame.setKey c slot _).trans ((Frame.stickSec _ SEC_STICKY.AUTH_FAIL rfl).trans
    ((Frame.setFld _ SEC_CNT.AUTH_FAIL _ (by decide)).trans (.record _ _ _)))
  exact h₂.trans (.ite (.refl c₂) (.record c₂ _ _))

theorem Frame.useChallenge (c : Card) (h : BitVec 16) : Frame .debug c (c.useChallenge h) := .debugInside c _ _ _

theorem Frame.endJ9 (c : Card) (cause : Nat) : Frame .debug c (c.endJ9 cause) :=
  (Frame.debugInside c _ _ _).trans (.ite (.debugInside _ _ _ _) (.debugInside _ _ _ _))

theorem Frame.endSession (c : Card) (id : BitVec 16) (cause : Nat) : Frame .debug c (c.endSession id cause) := by
  unfold Card.endSession
  split
  · exact .refl c
  · exact (Frame.debugInside c _ _ _).trans ((Frame.record _ _ _).trans (.ite (.endJ9 _ _) (.refl _)))

theorem Frame.replaceJ9 (c : Card) (id : BitVec 16) : Frame .debug c (c.replaceJ9 id) := by
  unfold Card.replaceJ9
  dsimp only
  refine Frame.trans ?_ (.debugInside _ _ _ _)
  split
  · exact .endSession c _ _
  · exact .refl c

/-! ### The test access port (R426) -/

theorem Frame.tap (c : Card) (ir : Nat) : Frame .debug c (c.tap ir) := by
  unfold Card.tap
  dsimp only
  refine Frame.trans ?_ (.debugInside _ _ _ _)
  split
  · exact .debugInside c _ _ _
  · exact .refl c

theorem Frame.shiftBypass (c : Card) (b : Bool) : Frame .debug c (c.shiftBypass b) := .debugInside c _ _ _

theorem exec_extest (bits : BitVec 612) (s : State) : exec (.extest bits) s = execExtest bits s := rfl
theorem exec_idcode (s : State) : exec .idcode s = execIdcode s := rfl
theorem exec_samplePreload (bits : BitVec 612) (s : State) : exec (.samplePreload bits) s = execSamplePreload bits s := rfl
theorem exec_bypass (tdi : Bool) (s : State) : exec (.bypass tdi) s = execBypass tdi s := rfl
theorem exec_secChal (dr : BitVec 264) (s : State) : exec (.secChal dr) s = execSecChal dr s := rfl
theorem exec_secResp (dr : BitVec 264) (s : State) : exec (.secResp dr) s = execSecResp dr s := rfl
theorem exec_testLogicReset (s : State) : exec .testLogicReset s = execTestLogicReset s := rfl

theorem frame_extest (bits : BitVec 612) : EffectIn (Frame .debug) (.extest bits) :=
  .of_on (exec_extest bits) fun c => (Frame.tap c 0).trans (.ite (.debugInside _ _ _ _)
    ((Frame.shiftBypass _ _).trans (.stickSec _ _ rfl)))

theorem frame_idcode : EffectIn (Frame .debug) .idcode :=
  .of_on exec_idcode fun c => (Frame.tap c 1).trans (.debugInside _ _ _ _)

theorem frame_samplePreload (bits : BitVec 612) : EffectIn (Frame .debug) (.samplePreload bits) :=
  .of_on (exec_samplePreload bits) fun c => (Frame.tap c 2).trans (.debugInside _ _ _ _)

theorem frame_bypass (tdi : Bool) : EffectIn (Frame .debug) (.bypass tdi) :=
  .of_on (exec_bypass tdi) fun c => (Frame.tap c 31).trans (.shiftBypass _ _)

theorem frame_secChal (dr : BitVec 264) : EffectIn (Frame .debug) (.secChal dr) :=
  .of_on (exec_secChal dr) fun c => (Frame.tap c 8).trans (.ite (.debugInside _ _ _ _) (.ite (.debugInside _ _ _ _)
    (.ite (.debugInside _ _ _ _) ((Frame.debugInside _ _ _ _).trans ((Frame.challenge _ _ 1).trans (.debugInside _ _ _ _))))))

theorem frame_secResp (dr : BitVec 264) : EffectIn (Frame .debug) (.secResp dr) :=
  .of_on (exec_secResp dr) fun c => by
    refine (Frame.tap c 9).trans ?_
    dsimp only
    split
    · exact .debugInside _ _ _ _
    · refine (Frame.useChallenge _ _).trans (.ite (.debugInside _ _ _ _) (.ite (.debugInside _ _ _ _) (.ite ?_ ?_)))
      · exact (Frame.authPass _ _).trans ((Frame.openSession _ _ _ 1).trans (.replaceJ9 _ _))
      · exact (Frame.authFail _ _ 1).trans (.debugInside _ _ _ _)

theorem frame_testLogicReset : EffectIn (Frame .debug) .testLogicReset :=
  .of_on exec_testLogicReset fun c => by
    refine Frame.trans (b := { c with sec.dbg.ir := 1, sec.dbg.driving := false }) (.debugInside c _ _ _) ?_
    dsimp only
    split
    · exact .refl _
    · exact (Frame.draw _).trans ((Frame.debugInside _ _ _ _).trans ((Frame.record _ _ _).trans (.endJ9 _ 2)))

/-! ### Lane A under the debugger (R427 to R430) -/

theorem Frame.setCore (c : Card) (l n : Nat) (x : Core) : Frame .debug c (c.setCore l n x) := .debugInside c _ _ _

theorem Frame.modLane (c : Card) (l : Nat) (f : Lane → Lane) : Frame .debug c (c.modLane l f) := .debugInside c _ _ _

theorem Frame.freezeLane (c : Card) : Frame .debug c c.freezeLane := by
  unfold Card.freezeLane
  extract_lets n v k₀ k₁ k₂ c₁
  have h₁ : Frame .debug c c₁ := .debugInside c _ _ _
  exact h₁.trans ((Frame.each c₁ _ _ fun d i _ => .setCore d 0 i _).trans (.modLane _ 0 _))

theorem Frame.haltLane (c : Card) (cause bp : Nat) : Frame .debug c (c.haltLane cause bp) :=
  (Frame.debugInside c _ _ _).trans (.record _ _ _)

theorem Frame.laneStore (c : Card) (a : Nat) (bs : List Byte) : Frame .debug c (c.laneStore a bs) := .modLane c 0 _

theorem Frame.debugWrite (c : Card) (at' v : Word) : Frame .debug c (c.debugWrite at' v) := .record c _ _

theorem Frame.debugError (c : Card) (e : Nat) : Frame .debug c (c.debugError e) :=
  (Frame.debugInside c _ _ _).trans (.stickSec _ _ rfl)

/-- A debug command answers with an error, or does what it is for. -/
theorem Frame.debug (c : Card) (x : DbgCmd) (role : Nat) (range : Bool) (states : List Nat) {f : Card → Card}
    (hf : ∀ d, Frame .debug d (f d)) : Frame .debug c (c.debug x role range states f) := by
  unfold Card.debug
  dsimp only
  refine (Frame.tap c 10).trans (.trans (b := { c.tap 10 with sec.dbg.data := x.data }) (.debugInside _ _ _ _) ?_)
  split
  · exact .debugError _ 1
  · exact .ite (.debugError _ 2) (.ite (.debugError _ 3) (.ite (.debugError _ 6) (.ite (.debugError _ 7)
      (.ite (.debugError _ 8) ((Frame.debugInside _ _ _ _).trans (hf _))))))

theorem exec_attach (x : DbgCmd) (s : State) : exec (.attach x) s = execAttach x s := rfl
theorem exec_detach (x : DbgCmd) (s : State) : exec (.detach x) s = execDetach x s := rfl
theorem exec_debugHalt (x : DbgCmd) (s : State) : exec (.debugHalt x) s = execDebugHalt x s := rfl
theorem exec_resume (x : DbgCmd) (s : State) : exec (.resume x) s = execResume x s := rfl
theorem exec_step (x : DbgCmd) (s : State) : exec (.step x) s = execStep x s := rfl
theorem exec_bpSet (x : DbgCmd) (s : State) : exec (.bpSet x) s = execBpSet x s := rfl
theorem exec_bpClr (x : DbgCmd) (s : State) : exec (.bpClr x) s = execBpClr x s := rfl
theorem exec_regRd (x : DbgCmd) (s : State) : exec (.regRd x) s = execRegRd x s := rfl
theorem exec_regWr (x : DbgCmd) (s : State) : exec (.regWr x) s = execRegWr x s := rfl
theorem exec_memRd (x : DbgCmd) (s : State) : exec (.memRd x) s = execMemRd x s := rfl
theorem exec_memWr (x : DbgCmd) (s : State) : exec (.memWr x) s = execMemWr x s := rfl
theorem exec_breakpointHit (bp : Nat) (s : State) : exec (.breakpointHit bp) s = execBreakpointHit bp s := rfl

theorem frame_attach (x : DbgCmd) : EffectIn (Frame .debug) (.attach x) :=
  .of_on (exec_attach x) fun c => .debug c x 2 true [0] fun d => .debugInside d _ _ _

theorem frame_detach (x : DbgCmd) : EffectIn (Frame .debug) (.detach x) :=
  .of_on (exec_detach x) fun c => .debug c x 2 true [1, 2] fun d => .debugInside d _ _ _

theorem frame_debugHalt (x : DbgCmd) : EffectIn (Frame .debug) (.debugHalt x) :=
  .of_on (exec_debugHalt x) fun c => .debug c x 2 true [1] fun d => (Frame.freezeLane d).trans (.haltLane _ 0 0)

theorem frame_resume (x : DbgCmd) : EffectIn (Frame .debug) (.resume x) :=
  .of_on (exec_resume x) fun c => .debug c x 2 true [2] fun d => .debugInside d _ _ _

theorem frame_step (x : DbgCmd) : EffectIn (Frame .debug) (.step x) :=
  .of_on (exec_step x) fun c => .debug c x 2 true [2] fun d => by
    extract_lets load stores d₁ d₂
    have h₁ : Frame .debug d d₁ := .each d _ _ fun e k _ => .setCore e 0 k _
    have h₂ : Frame .debug d₁ d₂ := .debugInside d₁ _ _ _
    exact h₁.trans (h₂.trans ((Frame.each d₂ stores _ fun e y _ => .laneStore e y.1 y.2).trans (.haltLane _ 2 0)))

theorem frame_bpSet (x : DbgCmd) : EffectIn (Frame .debug) (.bpSet x) :=
  .of_on (exec_bpSet x) fun c => .debug c x 2 true [1, 2] fun d => .debugInside d _ _ _

theorem frame_bpClr (x : DbgCmd) : EffectIn (Frame .debug) (.bpClr x) :=
  .of_on (exec_bpClr x) fun c => .debug c x 2 true [1, 2] fun d => .debugInside d _ _ _

theorem frame_regRd (x : DbgCmd) : EffectIn (Frame .debug) (.regRd x) :=
  .of_on (exec_regRd x) fun c => .debug c x 2 (regOk x) [2] fun d => .debugInside d _ _ _

theorem frame_regWr (x : DbgCmd) : EffectIn (Frame .debug) (.regWr x) :=
  .of_on (exec_regWr x) fun c => .debug c x 3 (regOk x) [2] fun d =>
    (Frame.each d _ _ fun e i _ => .setCore e 0 i _).trans (.debugWrite _ _ _)

theorem frame_memRd (x : DbgCmd) : EffectIn (Frame .debug) (.memRd x) :=
  .of_on (exec_memRd x) fun c => .debug c x 2 (memOk x) [2] fun d => .debugInside d _ _ _

theorem frame_memWr (x : DbgCmd) : EffectIn (Frame .debug) (.memWr x) :=
  .of_on (exec_memWr x) fun c => .debug c x 3 (memOk x) [2] fun d => (Frame.laneStore d _ _).trans (.debugWrite _ _ _)

theorem frame_breakpointHit (bp : Nat) : EffectIn (Frame .debug) (.breakpointHit bp) :=
  .of_on (exec_breakpointHit bp) fun c => by
    split
    · exact .refl c
    · exact .ite (.refl c) ((Frame.freezeLane c).trans
        (.trans (.ite (.each _ _ _ fun d i _ => .setCore d 0 i _) (.refl _)) (.haltLane _ 1 bp)))

/-- Every event of the debugger keeps to its domain. -/
theorem frame_of_debugEvent (i : Instr) (h : debugEvent i = true) : EffectIn (Frame .debug) i := by
  cases i
  case extest => exact frame_extest _
  case idcode => exact frame_idcode
  case samplePreload => exact frame_samplePreload _
  case bypass => exact frame_bypass _
  case secChal => exact frame_secChal _
  case secResp => exact frame_secResp _
  case testLogicReset => exact frame_testLogicReset
  case attach => exact frame_attach _
  case detach => exact frame_detach _
  case debugHalt => exact frame_debugHalt _
  case resume => exact frame_resume _
  case step => exact frame_step _
  case bpSet => exact frame_bpSet _
  case bpClr => exact frame_bpClr _
  case regRd => exact frame_regRd _
  case regWr => exact frame_regWr _
  case memRd => exact frame_memRd _
  case memWr => exact frame_memWr _
  case breakpointHit => exact frame_breakpointHit _
  all_goals exact absurd h Bool.false_ne_true

/-! ### The four frames -/

/-- What a domain leaves alone of one structure, read off the card with the domain's own structures blank. -/
theorem Frame.keeps {α : Type} {k : Domain} {c c' : Card} (h : Frame k c c') (f : Card → α) :
    f (k.outside c') = f (k.outside c) :=
  congrArg f h.outside

theorem Frame.insideKept {c c' : Card} (h : Frame .host c c') : InsideKept c c' :=
  ⟨h.keeps Card.sys, h.keeps Card.tim, h.keeps Card.sec, h.keeps Card.lan, h.keeps Card.chn, h.keeps Card.til,
    h.keeps Card.est, h.keeps Card.imp, h.keeps Card.cnv, h.keeps Card.saf, h.keeps Card.dsp, h.keeps Card.thm,
    h.keeps Card.fio, h.keeps Card.can⟩

/-- Every domain leaves the strings, the estimators, the converter, the safety unit and the dispatcher alone. -/
theorem Frame.stringsKept {k : Domain} {c c' : Card} (h : Frame k c c') : StringsKept c c' := by
  cases k
  all_goals exact ⟨h.keeps Card.chn, h.keeps Card.est, h.keeps Card.imp, h.keeps Card.cnv, h.keeps Card.saf,
    h.keeps Card.dsp⟩

/-- Settles O58: each command of a domain has an effect that keeps to the domain, and what follows a command belongs to
every domain. -/
theorem hostFieldDebugFrames : Obligations.HostFieldDebugFrames := by
  refine ⟨fun i s t hi ht => ?_, fun i s t hi ht => ?_, fun i s t hi ht => ?_, fun i s t hi ht => ?_⟩
  · have h := Frame.of_exec (frame_of_hostEvent i hi) ht
    exact ⟨h.insideKept, h.regs⟩
  · have h := Frame.of_exec (frame_of_fieldEvent i hi) ht
    exact ⟨h.stringsKept, h.regs, h.keeps Card.sys, h.keeps Card.tim, h.keeps Card.sec, h.keeps Card.lan, h.keeps Card.til⟩
  · have h := Frame.of_exec (frame_of_canEvent i hi) ht
    exact ⟨h.stringsKept, h.regs, h.keeps Card.sys, h.keeps Card.tim, h.keeps Card.sec, h.keeps Card.lan, h.keeps Card.til,
      h.keeps Card.thm, h.keeps Card.fio⟩
  · have h := Frame.of_exec (frame_of_debugEvent i hi) ht
    exact ⟨h.stringsKept, h.regs, h.keeps Card.sys, h.keeps Card.tim, h.keeps Card.til, h.keeps Card.thm, h.keeps Card.fio,
      h.keeps Card.can⟩

end Sys2Proof.Machine

/-! The control lanes: disagreement, resynchronisation and traps of their cores (O44). -/

namespace Sys2Proof.Machine

open Sys2Proof.Claims

/-! ### The registers and the records of the lanes -/

/-- What follows a command leaves the registers of the lanes alone. -/
theorem fld_settle_lan (old new : Card) {f : Fld} (h : f.off / 0x1000 = 11) : (settle old new).fld f = new.fld f :=
  fld_settle_block old new f (by omega)

@[simp] theorem Card.laneEvent_lan (c : Card) (ev : Nat) (ps : List Word) : (c.laneEvent ev ps).lan = c.lan := by
  simp [Card.laneEvent]

@[simp] theorem Card.laneEvent_tim (c : Card) (ev : Nat) (ps : List Word) : (c.laneEvent ev ps).tim = c.tim := by
  simp [Card.laneEvent]

/-- A lane event changes no register. -/
@[simp] theorem Card.fld_laneEvent (c : Card) (ev : Nat) (ps : List Word) (f : Fld) : (c.laneEvent ev ps).fld f = c.fld f :=
  Card.fld_of_regs ((Card.jrnFree_regs _ 0x09).trans (Card.regs_record c ev ps)) f

theorem Card.lane_of_lan {c c' : Card} (h : c'.lan = c.lan) (l : Nat) : c'.lane l = c.lane l := by
  rw [Card.lane, Card.lane, h]

/-! ### Disagreement of a core (R336, R337) -/

theorem exec_coreDisagree (l k : Nat) (majority : Bool) (s : State) :
    exec (.coreDisagree l k majority) s = execCoreDisagree l k majority s := rfl

/-- The card once a disagreement of a core is counted and noted. -/
def Card.disagreed (c : Card) (l k : Nat) : Card :=
  ((c.count LAN_CNT.RESYNC).stick LAN_STICKY.RESYNC).laneEvent 0xB001 [pN l, pN k, c.frame]

theorem disagreed_lane (c : Card) (l k n : Nat) : (c.disagreed l k).lane n = c.lane n :=
  Card.lane_of_lan (Card.laneEvent_lan _ _ _) n

theorem disagreed_frame (c : Card) (l k : Nat) : (c.disagreed l k).frame = c.frame :=
  congrArg Tim.frame (Card.laneEvent_tim _ _ _)

/-- A disagreement by itself leaves the cores in their states. -/
theorem disagreed_coreState (c : Card) (l k n i : Nat) : (c.disagreed l k).coreState n i = c.coreState n i := by
  have hcnt : (coreFld n i).off ≠ LAN_CNT.RESYNC.off := by simp [coreFld, LAN_STATUS, LAN_CNT.RESYNC, LAN_CNT]
  have hsticky : (coreFld n i).off ≠ LAN_STICKY.RESYNC.off := by simp [coreFld, LAN_STATUS, LAN_STICKY.RESYNC, LAN_STICKY]
  rw [Card.disagreed, Card.coreState, Card.fld_laneEvent, Card.stick, Card.fld_setFld_other _ _ _ _ hsticky, Card.count,
    Card.fld_setFld_other _ _ _ _ hcnt]
  rfl

/-- What becomes of a core that has disagreed, where `fs` are its lane's faults of the last 65,536 frames. -/
def Card.markCore (c : Card) (l k : Nat) (fs : List (Nat × Nat)) : Card :=
  let m := c.modLane l fun x => { x with faults := fs }
  if (c.lane l).resynced.contains k = true then m.failCore l k 1
  else if m.fld LAN_CFG.RESYNC_LIMIT ≤ (fs.filter (·.1 == k)).length then m.failCore l k 0
  else m.setFld (coreFld l k) 1

/-- A lane's faults of the last 65,536 frames, with core `k`'s of this one. -/
def Card.faultsWith (c : Card) (l k : Nat) : List (Nat × Nat) :=
  ((c.lane l).faults.filter fun y => decide (framesSince c.frame (BitVec.ofNat 32 y.2) < 65536)) ++ [(k, c.frame.toNat)]

theorem disagreed_faultsWith (c : Card) (l k : Nat) : (c.disagreed l k).faultsWith l k = c.faultsWith l k := by
  rw [Card.faultsWith, Card.faultsWith, disagreed_lane, disagreed_frame]

/-- The other cores of a lane that are not voting. -/
def Card.otherMarks (c : Card) (l k : Nat) : List Nat :=
  [0, 1, 2].filter fun i => decide (i ≠ k) && decide (c.coreState l i ≠ 0)

theorem disagreed_otherMarks {c : Card} {l : Nat} (hvoting : ∀ i < 3, c.coreState l i = 0) (k : Nat) :
    (c.disagreed l k).otherMarks l k = [] := by
  simp [Card.otherMarks, disagreed_coreState, hvoting]

/-- A core of a voting lane that disagrees is marked or fails, and without a majority the lane fails with it. -/
theorem becomes_coreDisagree {s : State} {l k : Nat} (majority : Bool) (hl : Live s) (hlane : l < 2) (hcore : k < 3)
    (hsplit : s.card.lan.split = false) (hrecovery : s.card.lan.recovery = false) (hlo : 2 ≤ s.card.laneState l)
    (hhi : s.card.laneState l ≤ 5) (hvoting : ∀ i < 3, s.card.coreState l i = 0) :
    let r := (s.card.disagreed l k).markCore l k (s.card.faultsWith l k)
    Becomes (.coreDisagree l k majority) s (if (!majority) = true then r.failLane l 2 else r) := by
  intro r
  have hb := becomes_of_on hl (exec_coreDisagree l k majority s)
  have hguard : ¬(2 ≤ l ∨ 3 ≤ k ∨ s.card.lan.split = true ∨ s.card.lan.recovery = true ∨ s.card.laneState l < 2
      ∨ 5 < s.card.laneState l ∨ s.card.coreState l k ≠ 0) := by
    simp only [hsplit, hrecovery, hvoting k hcore, Bool.false_eq_true, ne_eq, not_true_eq_false, false_or, or_false]
    omega
  rw [if_neg hguard] at hb
  have hb : Becomes (.coreDisagree l k majority) s
      (let r := (s.card.disagreed l k).markCore l k ((s.card.disagreed l k).faultsWith l k)
      if (s.card.disagreed l k).otherMarks l k ≠ [] then r.failLane l 1
      else if (!majority) = true then r.failLane l 2 else r) := hb
  rwa [disagreed_otherMarks hvoting, disagreed_faultsWith] at hb

/-! ### Resynchronisation (R336) -/

theorem exec_coreResync (l : Nat) (s : State) : exec (.coreResync l) s = execCoreResync l s := rfl

/-- At a frame's start the only marked core of a lane takes the state of the lowest agreeing core. -/
theorem coreResync_takes (s : State) (l k a : Nat) (hl : Live s) (hlane : l < 2) (hsplit : s.card.lan.split = false)
    (hslot : s.card.tim.slot = 0) (hstate : s.card.laneState l ≠ 6) (hhalt : ¬(l = 0 ∧ s.card.halted = true))
    (hagree : (s.card.coresIn l 0).head? = some a) (hmarked : s.card.coresIn l 1 = [k])
    (hold : ∀ y ∈ (s.card.lane l).faults, y.1 = k → y.2 ≠ s.card.frame.toNat) :
    let c := (s.card.setCore l k (s.card.core l a)).setFld (coreFld l k) 0
    Becomes (.coreResync l) s
      ((c.modLane l fun x => { x with resynced := x.resynced ++ [k] }).laneEvent 0xB002 [pN l, pN k]) := by
  have hb := becomes_of_on hl (exec_coreResync l s)
  have hguard : ¬(2 ≤ l ∨ s.card.lan.split = true ∨ s.card.tim.slot ≠ 0 ∨ s.card.laneState l = 6
      ∨ (l = 0 ∧ s.card.halted = true)) := by
    simp only [hsplit, hslot, hstate, hhalt, Bool.false_eq_true, ne_eq, not_true_eq_false, or_false]
    omega
  have hfresh : ((s.card.lane l).faults.any fun y => y.1 == k && decide (y.2 = s.card.frame.toNat)) = false := by
    simpa using hold
  simp only [hmarked, hagree, if_neg hguard, List.filter_cons, List.filter_nil, hfresh, Bool.not_false, if_true] at hb
  exact hb

/-! ### Traps (R345, R346) -/

theorem exec_contextSave (l k : Nat) (int : Bool) (code : Nat) (ecc : Bool) (s : State) :
    exec (.contextSave l k int code ecc) s = execContextSave l k int code ecc s := rfl

section Trap

variable {s : State} {l k : Nat} {int : Bool} {code : Nat}

/-- What a trap's context save does to a card: nothing but the trap with the save disabled, else the push, or the fatal rule
where the push is not valid. -/
def Card.saveContext (c : Card) (l k : Nat) (int : Bool) (code : Nat) : Card :=
  let t := (c.core l k).trap int code
  if (!((c.core l k).csrGet 0x7C0).getLsbD 0) = true then c.setCore l k t
  else if t.pushValid = true then
    (c.setCore l k (t.set 2 (BitVec.ofNat 32 ((t.get 2).toNat - 80)))).modLane l fun x =>
      { x with mem := x.mem.setRange x.left ((t.get 2).toNat - 80) (t.saved.flatMap fun w => le 4 w.toNat) }
  else
    let f := ((c.setCore l k t.fatal).stick LAN_STICKY.FATAL).laneEvent 0xB020
      [pN l, (c.core l k).pc, (c.core l k).get 2, t.csrGet 0x342]
    if f.lan.split = true then f.stopSplit l k else f.failLane l 3

/-- A running core that may trap saves its context. -/
theorem becomes_contextSave (hl : Live s) (hlane : l < 2) (hcore : k < 3) (hreset : s.card.laneState l ≠ 0)
    (hfailed : s.card.laneState l ≠ 6) (hrun : (s.card.core l k).stopped = false)
    (hmay : ((s.card.core l k).csrGet 0x7C0).getLsbD 1 = false ∨ int = true) :
    Becomes (.contextSave l k int code false) s (s.card.saveContext l k int code) := by
  have hb := becomes_of_on hl (exec_contextSave l k int code false s)
  have hguard : ¬(2 ≤ l ∨ 3 ≤ k ∨ s.card.laneState l = 0 ∨ s.card.laneState l = 6 ∨ (s.card.core l k).stopped = true) := by
    simp only [hreset, hfailed, hrun, Bool.false_eq_true, or_false]
    omega
  have hlocked : ¬(((s.card.core l k).csrGet 0x7C0).getLsbD 1 && !int) = true := by
    rcases hmay with h | h <;> rw [h] <;> simp
  rw [if_neg hguard] at hb
  dsimp only at hb
  rw [if_neg hlocked, Bool.not_false, Bool.and_true] at hb
  exact hb

theorem saveContext_disabled {c : Card} (h : ((c.core l k).csrGet 0x7C0).getLsbD 0 = false) :
    c.saveContext l k int code = c.setCore l k ((c.core l k).trap int code) := by
  simp only [Card.saveContext, h, Bool.not_false, if_true]

theorem saveContext_pushed {c : Card} (h : ((c.core l k).csrGet 0x7C0).getLsbD 0 = true)
    (hpush : ((c.core l k).trap int code).pushValid = true) :
    let t := (c.core l k).trap int code
    c.saveContext l k int code = (c.setCore l k (t.set 2 (BitVec.ofNat 32 ((t.get 2).toNat - 80)))).modLane l fun x =>
      { x with mem := x.mem.setRange x.left ((t.get 2).toNat - 80) (t.saved.flatMap fun w => le 4 w.toNat) } := by
  simp only [Card.saveContext, h, hpush, Bool.not_true, Bool.false_eq_true, if_false, if_true]

theorem saveContext_fatal {c : Card} (h : ((c.core l k).csrGet 0x7C0).getLsbD 0 = true)
    (hpush : ((c.core l k).trap int code).pushValid = false) (hsplit : c.lan.split = false) :
    let t := (c.core l k).trap int code
    c.saveContext l k int code = (((c.setCore l k t.fatal).stick LAN_STICKY.FATAL).laneEvent 0xB020
      [pN l, (c.core l k).pc, (c.core l k).get 2, t.csrGet 0x342]).failLane l 3 := by
  have hstays : (c.setCore l k ((c.core l k).trap int code).fatal).lan.split = false := hsplit
  simp only [Card.saveContext, h, hpush, Bool.not_true, Bool.false_eq_true, if_false, Card.laneEvent_lan,
    Card.stick_lan, hstays]

end Trap

/-- Settles O44: a disagreement is counted before its core is marked or fails (`becomes_coreDisagree`), and a trap of a
running core saves its context (`becomes_contextSave`). -/
theorem coreEvents : Obligations.CoreEvents := by
  refine ⟨fun s l k hl hlane hcore hsplit hrecovery hlo hhi hvoting => ?_, coreResync_takes,
    fun s l k int code hl hlane hcore hreset hfailed hrun hmay => ?_⟩
  · intro c fs m r
    have hb := fun majority => becomes_coreDisagree majority hl hlane hcore hsplit hrecovery hlo hhi hvoting
    have hr : (s.card.disagreed l k).markCore l k (s.card.faultsWith l k) = r := by
      rw [Card.markCore, disagreed_lane]
      rfl
    rw [hr] at hb
    exact ⟨hb true, hb false⟩
  · have hb := becomes_contextSave (code := code) hl hlane hcore hreset hfailed hrun hmay
    refine ⟨fun hdisabled => ?_, fun henabled hpush => ?_, fun henabled hpush hsplit => ?_⟩
    · rwa [saveContext_disabled hdisabled] at hb
    · rwa [saveContext_pushed henabled hpush] at hb
    · rwa [saveContext_fatal henabled hpush hsplit] at hb

end Sys2Proof.Machine

/-! The shadow lane (O45), and staged images and satellite updates (O46). -/

namespace Sys2Proof.Machine

open Sys2Proof.Claims

/-! ### Takeover (R341) -/

theorem exec_laneTakeover (s : State) : exec .laneTakeover s = execLaneTakeover s := rfl

/-- A takeover in slot 0 by a lane in SHADOW makes it primary, and the shadow state is no longer valid. -/
theorem laneTakeover_done {s : State} {l cause : Nat} (hl : Live s) (hslot : s.card.tim.slot = 0)
    (hdue : s.card.lan.takeoverDue = some (l, cause)) (hcan : s.card.canTakeOver l = true) (hshadow : s.card.laneState l = 3)
    (hcause : cause ≠ 1) : Becomes .laneTakeover s
      (((({ s.card with lan.takeoverDue := none }.makePrimary l).stick LAN_STICKY.TAKEOVER).laneEvent 0xB012
        [pN l, pN cause]).setFld LAN_STATUS.SHADOW_VALID 0) := by
  have hb := becomes_of_on hl (exec_laneTakeover s)
  have hcan' : ({ s.card with lan.takeoverDue := none } : Card).canTakeOver l = true := hcan
  have hshadow' : ({ s.card with lan.takeoverDue := none } : Card).laneState l = 3 := hshadow
  simp only [hdue, hslot, hcan', hshadow', hcause, if_true, if_false, not_true_eq_false, ne_eq, Bool.not_true,
    Bool.false_eq_true] at hb
  exact hb

/-- A takeover whose lane can no longer take over is dropped. -/
theorem laneTakeover_void {s : State} {l cause : Nat} (hl : Live s) (hslot : s.card.tim.slot = 0)
    (hdue : s.card.lan.takeoverDue = some (l, cause)) (hcan : s.card.canTakeOver l = false) (hcause : cause ≠ 1) :
    Becomes .laneTakeover s { s.card with lan.takeoverDue := none } := by
  have hb := becomes_of_on hl (exec_laneTakeover s)
  have hcan' : ({ s.card with lan.takeoverDue := none } : Card).canTakeOver l = false := hcan
  simp only [hdue, hslot, hcan', hcause, if_true, if_false, not_true_eq_false, ne_eq, Bool.not_false] at hb
  exact hb

/-! ### Import (R343) -/

theorem exec_stateImport (l : Nat) (caughtUp : Bool) (s : State) :
    exec (.stateImport l caughtUp) s = execStateImport l caughtUp s := rfl

/-- An import that nothing holds back succeeds or fails as the lane has caught up or not. -/
theorem becomes_stateImport {s : State} {l : Nat} (caughtUp : Bool) (hl : Live s) (hlane : l < 2)
    (hother : l ≠ s.card.primary) (hsplit : s.card.lan.split = false) (hrecovery : s.card.lan.recovery = false)
    (hstate : s.card.laneState l = 1 ∨ s.card.laneState l = 2) (hupd : s.card.upd = 0)
    (hprimary : s.card.laneState s.card.primary = 4) (hreset : (s.card.lane l).resetDue = false)
    (hprepare : s.card.lan.prepareDue = false) :
    Becomes (.stateImport l caughtUp) s (if caughtUp = true then s.card.imported l else s.card.importFailed l) := by
  have hb := becomes_of_on hl (exec_stateImport l caughtUp s)
  have hbooted : ¬(s.card.laneState l ≠ 1 ∧ s.card.laneState l ≠ 2) := by omega
  have hnot : ¬2 ≤ l := by omega
  simp only [hnot, hother, hsplit, hrecovery, hbooted, hupd, hprimary, hreset, hprepare, Nat.zero_ne_one, decide_false,
    Bool.false_and, Bool.false_eq_true, ne_eq, not_true_eq_false, or_self, if_false] at hb
  exact hb

/-- The card once an import outside an update has made lane `l` SHADOW; an abort in progress then completes. -/
def Card.shadowed (c : Card) (l : Nat) : Card :=
  let d := (c.setFld LAN_STATUS.SHADOW_VALID 1).modLane l fun x => { x with imports := 0 }
  (d.laneEvent 0xB013 [pN l, d.laneImage l]).setLaneState l 3

theorem laneFld_off (l : Nat) : (laneFld l).off = LAN_STATUS := by
  unfold laneFld
  split <;> rfl

theorem laneFld_bits (l : Nat) : (laneFld l).w = 3 ∧ (laneFld l).lo + (laneFld l).w ≤ LAN_STATUS.SHADOW_VALID.lo := by
  unfold laneFld
  split <;> decide

/-- A lane's state is another field of LAN_STATUS than SHADOW_VALID. -/
theorem shadowed_shows (c : Card) (l : Nat) :
    (c.shadowed l).fld LAN_STATUS.SHADOW_VALID = 1 ∧ (c.shadowed l).laneState l = 3 := by
  obtain ⟨hw, hlo⟩ := laneFld_bits l
  refine ⟨?_, ?_⟩
  · rw [Card.shadowed, Card.setLaneState, Card.fld_setFld_beside _ (laneFld l) LAN_STATUS.SHADOW_VALID _ (laneFld_off l).symm
      (by decide) (Or.inr hlo), Card.fld_laneEvent]
    exact Card.fld_setFld_same c LAN_STATUS.SHADOW_VALID 1 (by decide)
  · rw [Card.shadowed, Card.setLaneState, Card.laneState, Card.fld_setFld_same _ _ _ (hlo.trans (by decide)), hw]
    rfl

/-- An import outside an update shows SHADOW_VALID and the lane's state, whether it ends an abort or not. -/
theorem imported_shows {c : Card} (l : Nat) (hupd : c.upd = 0) :
    (c.imported l).fld LAN_STATUS.SHADOW_VALID = 1 ∧ (c.imported l).laneState l = 3 := by
  have hlane : (laneFld l).off / 0x1000 = 11 := by rw [laneFld_off]; rfl
  have hquiet : ((c.setFld LAN_STATUS.SHADOW_VALID 1).modLane l fun x => { x with imports := 0 }).upd = 0 :=
    (Card.fld_setFld_beside c LAN_STATUS.SHADOW_VALID LAN_STATUS.UPD 1 rfl (by decide) (by decide)).trans hupd
  unfold Card.imported
  simp only [Card.upd, Card.fld_laneEvent] at hquiet ⊢
  rw [if_neg (by omega)]
  split
  · rw [Card.laneState, Card.fld_done _ _ _ _ (by decide) (by decide), Card.fld_done _ _ _ _ (by omega) (by omega)]
    exact shadowed_shows c l
  · exact shadowed_shows c l

theorem stateImport_shows {s : State} {l : Nat} (hb : Becomes (.stateImport l true) s (s.card.imported l))
    (hupd : s.card.upd = 0) :
    Gives (.stateImport l true) s fun c' => c'.fld LAN_STATUS.SHADOW_VALID = 1 ∧ c'.laneState l = 3 := by
  apply gives_of_becomes hb
  rw [Card.laneState, fld_settle_lan _ _ (by decide), fld_settle_lan _ _ (by rw [laneFld_off]; rfl)]
  exact imported_shows l hupd

/-! ### The prepared update and the boot (R352, R356) -/

theorem exec_updShadowReady (s : State) : exec .updShadowReady s = execUpdShadowReady s := rfl

theorem exec_bootCntClear (s : State) : exec .bootCntClear s = execBootCntClear s := rfl

theorem updShadowReady_done {s : State} (hl : Live s) (hupd : s.card.upd = 2)
    (hmin : s.card.fld LAN_CFG.SHADOW_MIN ≤ s.card.lan.updFrames) :
    Gives .updShadowReady s fun c' => c'.upd = 3 ∧ c'.lan.prepareOp = none := by
  have hb := becomes_of_on hl (exec_updShadowReady s)
  rw [if_neg (by omega)] at hb
  have hready : ∀ c : Card, (c.setFld LAN_STATUS.UPD 3).upd = 3 := fun c => Card.fld_setFld_same c _ 3 (by decide)
  cases hop : s.card.lan.prepareOp with
  | none =>
    simp only [hop] at hb
    apply gives_of_becomes hb
    rw [Card.upd, fld_settle_lan _ _ (by decide), settle_lan]
    exact ⟨hready _, rfl⟩
  | some slot =>
    simp only [hop] at hb
    apply gives_of_becomes hb
    rw [Card.upd, fld_settle_lan _ _ (by decide), settle_lan, Card.fld_done _ _ _ _ (by decide) (by decide), Card.done_lan]
    exact ⟨hready _, rfl⟩

theorem updShadowReady_none {s : State} (hl : Live s) (hupd : s.card.upd ≠ 2) : Becomes .updShadowReady s s.card := by
  have hb := becomes_of_on hl (exec_updShadowReady s)
  rwa [if_pos (Or.inl hupd)] at hb

theorem bootCntClear_done {s : State} (hl : Live s) (hboot : 10000 ≤ s.card.lan.bootFrames) :
    Gives .bootCntClear s fun c' => c'.fld LAN_BANK_STAT.BOOT_CNT = 0 := by
  have hb := becomes_of_on hl (exec_bootCntClear s)
  rw [if_neg (by omega)] at hb
  apply gives_of_becomes hb
  rw [fld_settle_lan _ _ (by decide)]
  exact Card.fld_setFld_same _ _ 0 (by decide)

theorem bootCntClear_early {s : State} (hl : Live s) (hboot : s.card.lan.bootFrames < 10000) :
    Becomes .bootCntClear s s.card := by
  have hb := becomes_of_on hl (exec_bootCntClear s)
  rwa [if_pos hboot] at hb

/-- Settles O45: each event is one branch of its effect, and LAN_STATUS shows what a successful import wrote
(`imported_shows`). -/
theorem shadowLane : Obligations.ShadowLane := by
  refine ⟨fun s l cause hl hslot hdue => ⟨laneTakeover_done hl hslot hdue, laneTakeover_void hl hslot hdue⟩,
    fun s l hl hlane hother hsplit hrecovery hstate hupd hprimary hreset hprepare => ?_,
    fun _ => updShadowReady_done, fun _ => updShadowReady_none, fun _ => bootCntClear_done, fun _ => bootCntClear_early⟩
  have hb := fun up => becomes_stateImport up hl hlane hother hsplit hrecovery hstate hupd hprimary hreset hprepare
  exact ⟨hb true, hb false, stateImport_shows (hb true) hupd⟩

end Sys2Proof.Machine

/-! Staged images, pieces from the network, and updates of satellites (O46). -/

namespace Sys2Proof.Machine

open Sys2Proof.Claims

theorem exec_imageVerify (s : State) : exec .imageVerify s = execImageVerify s := rfl

theorem exec_networkParcel (e : Envelope) (s : State) : exec (.networkParcel e) s = execNetworkParcel e s := rfl

theorem exec_satReset (n : Nat) (s : State) : exec (.satReset n) s = execSatReset n s := rfl

/-- A complete staged bank is verified, or loses its bad parts (R351). -/
theorem imageVerify_staged {s : State} (hl : Live s) (hstaging : s.card.imgState s.card.standbyBank = 1)
    (hbegun : (s.card.bank s.card.standbyBank).manifest ≠ []) (hfull : (s.card.bank s.card.standbyBank).missing = 0) :
    let k := s.card.standbyBank
    let b := s.card.bank k
    (b.badParts = [] → Becomes .imageVerify s
      (((s.card.jrnFree 0x0B).setFld (imgFld k) 2).record 0xB040 [pN k, pN (leAt b.manifest 4 4)]))
    ∧ (∀ q, b.badParts = [q] → Becomes .imageVerify s
        ((((((s.card.jrnFree 0x0B).setFld (imgFld k) 3).stick LAN_STICKY.BAD_HASH).record 0xB041 [pN k, pN q]).setBank k
          (b.erasePart q)).showStage)) := by
  have hb := becomes_of_on hl (exec_imageVerify s)
  dsimp only at hb
  rw [if_neg (by simp [hstaging, hbegun, hfull])] at hb
  refine ⟨fun hgood => ?_, fun q hbad => ?_⟩
  · rwa [if_pos hgood] at hb
  · rw [hbad, if_neg (List.cons_ne_nil q [])] at hb
    exact hb

/-- Only a bank in STAGING is verified. -/
theorem imageVerify_not_staging {s : State} (hl : Live s) (h : s.card.imgState s.card.standbyBank ≠ 1) :
    Becomes .imageVerify s s.card := by
  have hb := becomes_of_on hl (exec_imageVerify s)
  dsimp only at hb
  rwa [if_pos (Or.inl h)] at hb

/-- A piece that passes the checks of its envelope joins its parcel (R350). -/
theorem networkParcel_accepted {s : State} {e : Envelope} (hl : Live s) (hen : s.card.bit LAN_CTRL.NET_UPD = true)
    (hport : e.udp = s.card.fld LAN_CTRL.UPD_PORT) (hpiece : leAt e.body 6 1 ≤ 7)
    (hchecks : (heard 0x20 e s.card).plantCheck 0x20 e = none) :
    Becomes (.networkParcel e) s ((authentic 0x20 e s.card).addPiece (BitVec.ofNat 32 (leAt e.body 0 4)) (leAt e.body 4 2)
      (leAt e.body 6 1) (slice e.body 8 512)) := by
  have hb := becomes_of_on hl (exec_networkParcel e s)
  have hours : ¬(!s.card.bit LAN_CTRL.NET_UPD || decide (e.udp ≠ s.card.fld LAN_CTRL.UPD_PORT)) = true := by
    simp [hen, hport]
  have hpasses : (if 7 < leAt e.body 6 1 then some 1 else (s.card.jrnPlant 0x20 e).plantCheck 0x20 e) = none := by
    rw [if_neg (by omega)]
    exact hchecks
  rw [if_neg hours] at hb
  dsimp only at hb
  rw [hpasses] at hb
  exact hb

/-- A satellite whose neighbours all measure is asked to reset (R354). -/
theorem satReset_asks {s : State} {n : Nat} {u : SatUpd} (hl : Live s) (hn : StringNo n) (hupd : s.card.satUpd n = some u)
    (hstep : u.step = 7) (hslot : s.card.tim.slot = 6) (hidle : s.card.updPending n (u.places.headD 0) = false)
    (hreset : s.card.bit (CHN_STATUS.RESETTING n) = false)
    (hothers : ∀ q ∈ places, q ≠ u.places.headD 0 → q ≤ s.card.satCount n →
      s.card.inService n q = true ∧ s.card.bit (CHN_SAT_STATE.STALE n q) = false) :
    Becomes (.satReset n) s ((s.card.request n (u.places.headD 0) 0x0D [0] .update).pumpRequests n) := by
  have hb := becomes_of_on hl (exec_satReset n s)
  obtain ⟨h1, h4⟩ := hn
  have hready : ((places.filter fun q => decide (q ≠ u.places.headD 0) && decide (q ≤ s.card.satCount n)).all
      fun q => s.card.inService n q && !s.card.bit (CHN_SAT_STATE.STALE n q)) = true := by
    simp only [List.all_eq_true, List.mem_filter, Bool.and_eq_true, decide_eq_true_eq, Bool.not_eq_true']
    exact fun q ⟨hq, hne, hle⟩ => hothers q hq hne hle
  have hzero : n ≠ 0 := by omega
  have hfour : ¬4 < n := by omega
  simp only [hupd, hready, hstep, hslot, hidle, hreset, hzero, hfour, ne_eq, not_true_eq_false, Bool.not_true,
    Bool.false_eq_true, or_self, if_false] at hb
  exact hb

theorem satReset_none {s : State} {n : Nat} (hl : Live s) (h : s.card.satUpd n = none) : Becomes (.satReset n) s s.card := by
  have hb := becomes_of_on hl (exec_satReset n s)
  rwa [h] at hb

/-- Settles O46: each event passes its guards and is the branch of its effect that the clause states. -/
theorem imageEvents : Obligations.ImageEvents :=
  ⟨fun _ hl => imageVerify_staged hl, fun _ => imageVerify_not_staging, fun _ _ => networkParcel_accepted,
    fun _ _ _ => satReset_asks, fun _ _ => satReset_none⟩

end Sys2Proof.Machine

/-! The opcodes of the lanes and of the sessions (O12). -/

namespace Sys2Proof.Machine

open Sys2Proof.Claims

/-! ### Banks and keys -/

theorem Card.bank_setBank_same (c : Card) (k : Nat) (b : Bank) : (c.setBank k b).bank k = b :=
  Store.get_set_same c.lan.banks (fun n => { delivered := decide (n = 0) }) k b

theorem Card.bank_of_lan {c c' : Card} (h : c'.lan = c.lan) (k : Nat) : c'.bank k = c.bank k := by
  rw [Card.bank, Card.bank, h]

theorem Card.key_setKey_same (c : Card) (n : Nat) (k : KeySlot) : (c.setKey n k).key n = k :=
  Store.get_set_same c.sec.keys keyDelivered n k

theorem Card.key_setKey_other (c : Card) {n m : Nat} (k : KeySlot) (h : m ≠ n) : (c.setKey n k).key m = c.key m :=
  Store.get_set_other c.sec.keys keyDelivered k h

@[simp] theorem Card.setKey_sessions (c : Card) (n : Nat) (k : KeySlot) : (c.setKey n k).sec.sessions = c.sec.sessions := rfl

@[simp] theorem Card.setKey_unlock (c : Card) (n : Nat) (k : KeySlot) : (c.setKey n k).sec.unlock = c.sec.unlock := rfl

theorem Card.key_of_sec {c c' : Card} (h : c'.sec = c.sec) (n : Nat) : c'.key n = c.key n := by
  rw [Card.key, Card.key, h]

theorem Card.key_setChallenges (c : Card) (cs : List Challenge) (n : Nat) :
    ({ c with sec.challenges := cs } : Card).key n = c.key n := rfl

/-- A key is as a command left it before its record and its completion. -/
theorem key_settle_done (old c : Card) (ev : Nat) (ps : List Word) (slot : Nat) (r : Word) (n : Nat) :
    (settle old ((c.record ev ps).done slot r)).key n = c.key n :=
  Card.key_of_sec (by rw [settle_sec, Card.done_sec, Card.record_sec]) n

theorem Card.satUpd_setSatUpd_same (c : Card) (n : Nat) (u : Option SatUpd) : (c.setSatUpd n u).satUpd n = u :=
  Store.get_set_same c.lan.satUpd (fun _ => none) n u

theorem Card.satUpd_of_lan {c c' : Card} (h : c'.lan = c.lan) (n : Nat) : c'.satUpd n = c.satUpd n := by
  rw [Card.satUpd, Card.satUpd, h]

theorem imgFld_off (k : Nat) : (imgFld k).off = LAN_BANK_STAT := by
  unfold imgFld
  split <;> rfl

theorem imgFld_bits (k : Nat) : (imgFld k).w = 3 ∧ (imgFld k).lo + (imgFld k).w ≤ 32 := by
  unfold imgFld
  split <;> decide

theorem idFld_off (k : Nat) : (idFld k).off ≠ LAN_BANK_STAT := by
  unfold idFld
  split <;> decide

@[simp] theorem Card.showStage_lan (c : Card) : c.showStage.lan = c.lan := rfl

/-- LAN_STAGE_PROG is no other register. -/
theorem Card.fld_showStage (c : Card) {f : Fld} (h : f.off ≠ LAN_STAGE_PROG) : c.showStage.fld f = c.fld f :=
  (Card.fld_setFld_other _ LAN_STAGE_PROG.TOTAL f _ h).trans (Card.fld_setFld_other _ LAN_STAGE_PROG.RECEIVED f _ h)

/-- A register of the lanes is as a command left it before its completion. -/
theorem fld_settle_done (old c : Card) (slot : Nat) (r : Word) {f : Fld} (h : f.off / 0x1000 = 11) :
    (settle old (c.done slot r)).fld f = c.fld f := by
  rw [fld_settle_lan _ _ h, Card.fld_done _ _ _ _ (by omega) (by omega)]

/-! ### The lanes and the configuration -/

theorem stageBegin_ends : Ends .lanStageBegin rowLanStageBegin (fun d c c' =>
    c'.bank c.standbyBank = { manifest := d.buf.take 4096 } ∧ c'.fld (imgFld c.standbyBank) = 1) := by
  refine ends_of_start (fun _ _ => rfl) fun d old c hd => ?_
  have himg : (imgFld c.standbyBank).off = LAN_BANK_STAT := imgFld_off _
  obtain ⟨hw, hfits⟩ := imgFld_bits c.standbyBank
  simp only [rowLanStageBegin, hd]
  refine ⟨?_, ?_⟩
  · rw [Card.bank_of_lan (settle_lan _ _), Card.bank_of_lan (Card.done_lan _ _ _)]
    exact Card.bank_setBank_same _ _ _
  · rw [fld_settle_done _ _ _ _ (by rw [himg]; rfl), Card.fld_showStage _ (by rw [himg]; decide),
      Card.fld_setFld_other _ _ _ _ (by rw [himg]; exact (idFld_off _).symm), Card.fld_setFld_same _ _ _ hfits, hw]
    rfl

theorem parcel_ends : Ends .lanParcel rowLanParcel (fun d c c' =>
    (c.hasParcel (d.at 4 2) = true → c'.lan = c.lan)
    ∧ (c.hasParcel (d.at 4 2) = false → c'.lan = ((c.commit d.slot).putParcel (d.at 4 2) d.buf).lan)) := by
  refine ends_of_start (fun _ _ => rfl) fun d old c hd => ?_
  simp only [rowLanParcel, hd, settle_lan]
  refine ⟨fun hheld => ?_, fun hmissing => ?_⟩
  · rw [if_pos hheld, Card.complete_lan]
  · rw [if_neg (ne_true_of_eq_false hmissing), Card.done_lan]

theorem satUpdate_ends : Ends .lanSatUpdate rowLanSatUpdate (fun d c c' =>
    (c.updPlaces d = [] → c'.lan = c.lan)
    ∧ (c.updPlaces d ≠ [] → ∃ u, c'.satUpd (d.byte 0) = some u ∧ u.op = d.slot ∧ u.places = c.updPlaces d
        ∧ u.bank = c.satBank d ∧ u.step = 0)) := by
  refine ends_of_start (fun _ _ => rfl) fun d old c hd => ?_
  simp only [rowLanSatUpdate, hd]
  cases hp : c.updPlaces d with
  | nil => exact ⟨fun _ => by simp, fun h => absurd rfl h⟩
  | cons p ps =>
    exact ⟨nofun, fun _ => ⟨_,
      (Card.satUpd_of_lan (settle_lan _ _) _).trans (Card.satUpd_setSatUpd_same c _ _), rfl, rfl, rfl, rfl⟩⟩

/-- The two copies hold one image, and both are valid. -/
theorem cfgSave_ends : Ends .lanCfgSave rowLanCfgSave (fun _ c c' =>
    c'.fld SYS_CFG_STAT.A_VALID = 1 ∧ c'.fld SYS_CFG_STAT.B_VALID = 1 ∧ c'.cfgCopy 0 = c'.cfgCopy 1
      ∧ (c'.cfgCopy 0).words = c.liveImage.words ∧ (c'.cfgCopy 0).tables = c.liveImage.tables) := by
  refine ends_of_start (fun _ _ => rfl) fun d old c hd => ?_
  have hfld : ∀ (x : Card) (f : Fld), f.off / 0x1000 = 0 → (settle old (x.done d.slot)).fld f = x.fld f := fun x f hf => by
    rw [fld_settle_block _ _ _ (by omega), Card.fld_done _ _ _ _ (by omega) (by omega)]
  have hcopy : ∀ (x : Card) (k : Nat), (settle old (x.done d.slot)).cfgCopy k = x.cfgCopy k := fun x k => by
    rw [Card.cfgCopy, settle_lan, Card.done_lan, Card.cfgCopy]
  simp only [rowLanCfgSave, hfld _ SYS_CFG_STAT.A_VALID rfl, hfld _ SYS_CFG_STAT.B_VALID rfl, hcopy]
  refine ⟨?_, Card.fld_setFld_same _ SYS_CFG_STAT.B_VALID 1 (by decide), ?_⟩
  · rw [Card.fld_setFld_beside _ SYS_CFG_STAT.B_VALID SYS_CFG_STAT.A_VALID 1 rfl (by decide) (by decide)]
    exact Card.fld_setFld_same _ SYS_CFG_STAT.A_VALID 1 (by decide)
  · simp only [Card.cfgCopy, Card.setFld_lan, Store.get_set_same, Store.get_set_other _ _ _ (Nat.zero_ne_one), and_self]

theorem laneOpcodes : LaneOpcodes := by
  refine ⟨stageBegin_ends, parcel_ends,
    takes_of_start (fun _ _ => rfl) fun d c hd => by simp only [rowLanStageQuery, hd],
    ends_of_start (fun _ _ => rfl) fun d old c hd => ?prepare,
    ends_of_start (fun _ _ => rfl) fun d old c hd => ?abort,
    ends_of_start (fun _ _ => rfl) fun d old c hd => ?reset,
    satUpdate_ends, cfgSave_ends,
    ends_of_start (fun _ _ => rfl) fun d old c hd => ?choose,
    ends_of_start (fun _ _ => rfl) fun d old c hd => ?split⟩
  case prepare =>
    refine ⟨?_, by simp [rowLanUpdatePrepare]⟩
    rw [fld_settle_lan _ _ (by decide)]
    refine (Card.fld_record _ _ _ LAN_STATUS.UPD (by decide) (by decide)).trans ?_
    exact Card.fld_setFld_same _ LAN_STATUS.UPD 1 (by decide)
  case abort => simp only [rowLanUpdateAbort, settle_lan]
  case reset =>
    simp only [rowLanLaneReset, hd, settle_lan, Card.primary, Card.fld, Card.reg]
    split
    case isTrue hprimary => simp only [hprimary, if_true]
    case isFalse hother => simp only [hother, if_false]
  case choose => simp only [rowLanCfgChoose, hd, settle_lan, and_self]
  case split =>
    simp only [rowLanBootSplit, hd, settle_lan, Card.done_lan, Card.setFld_lan, Card.commit_lan, and_true]
    rw [fld_settle_done _ _ _ _ (by decide)]
    exact Card.fld_setFld_same _ LAN_BANK_STAT.SPLIT_NEXT _ (by decide)

/-! ### Sessions and keys -/

theorem keySet_ends : Ends .secKeySet rowSecKeySet (fun d c c' =>
    (d.byte 2 = 0 → (c'.key (d.byte 0)).role = d.byte 1
      ∧ (c'.key (d.byte 0)).key = BitVec.ofNat 256 (fromLe (d.buf.take 32)))
    ∧ (d.byte 2 = 1 → (c'.key (d.byte 0)).role = 0)
    ∧ (∀ n, n ≠ d.byte 0 → c'.key n = c.key n) ∧ c'.sec.sessions = c.sec.sessions ∧ c'.sec.unlock = c.sec.unlock) := by
  refine ends_of_start (fun _ _ => rfl) fun d old c hd => ?_
  simp only [rowSecKeySet, hd, key_settle_done, Card.key_setChallenges, Card.key_setKey_same, settle_sec, Card.done_sec,
    Card.record_sec]
  refine ⟨fun hset => ⟨if_pos hset, if_pos hset⟩, fun herase => if_neg (by omega), fun n hn => ?_, ?_⟩
  · rw [Card.key_setKey_other _ _ hn, Card.key_of_sec (Card.commit_sec _ _)]
  · simp only [Card.setKey_sessions, Card.setKey_unlock, Card.commit_sec, and_self]

theorem passwordSet_ends : Ends .secPasswordSet rowSecPasswordSet (fun d c c' =>
    (d.byte 0 = 0 → (c'.key 8).role = 0)
    ∧ (d.byte 0 ≠ 0 → (c'.key 8).role = 1 ∧ (c'.key 8).iter = d.at 4 4 ∧ (c'.key 8).salt = Config.salt c.free
        ∧ (c'.key 8).key
          = BitVec.ofNat 256 (fromLe (pbkdf2 (d.buf.take (d.byte 0)) (le 16 (Config.salt c.free).toNat) (d.at 4 4))))
    ∧ (∀ n, n ≠ 8 → c'.key n = c.key n) ∧ c'.sec.sessions = c.sec.sessions) := by
  refine ends_of_start (fun _ _ => rfl) fun d old c hd => ?_
  simp only [rowSecPasswordSet, hd, key_settle_done, Card.key_setKey_same, settle_sec, Card.done_sec, Card.record_sec,
    Card.draw, Card.commit_free]
  refine ⟨fun hnone => by rw [if_pos hnone], fun hset => by simp only [if_neg hset, and_self], fun n hn => ?_, ?_⟩
  · rw [Card.key_setKey_other _ _ hn]
    exact Card.key_of_sec (Card.commit_sec c d.slot) n
  · simp only [Card.setKey_sessions, Card.commit_sec]

theorem sessionOpcodes : SessionOpcodes := by
  refine ⟨takes_of_start (fun _ _ => rfl) fun d c hd => by simp only [rowSecChallenge, hd],
    takes_of_start (fun _ _ => rfl) fun d c hd => by simp only [rowSecRespond, hd],
    takes_of_start (fun _ _ => rfl) fun d c hd => by simp only [rowSecPassword, hd],
    takes_of_start (fun _ _ => rfl) fun d c hd => by simp only [rowSecClose, hd],
    ends_of_start (fun _ _ => rfl) fun d old c hd => ?unlock,
    takes_of_start (fun _ _ => rfl) fun d c hd => by simp only [rowSecList, hd],
    keySet_ends, passwordSet_ends⟩
  case unlock => simp only [rowSecUnlock, hd, settle_sec, Card.done_sec, Card.commit_sec]

/-- Settles O12: an accepted descriptor is its row's start on the card that holds it in its slot (`takes_of_start`,
`ends_of_start`), and what follows a command leaves the lanes, the keys and the sessions as they are. -/
theorem laneAndSessionOpcodes : Obligations.LaneAndSessionOpcodes := ⟨laneOpcodes, sessionOpcodes⟩

end Sys2Proof.Machine

/-! The recorder through what follows a command, and the intake (a part of O47's statement that holds). -/

namespace Sys2Proof.Machine

open Sys2Proof.Claims

/-! ### The recorder through what follows a command -/

@[simp] theorem Card.fireVec_rcd (c : Card) (v : Nat) : (c.fireVec v).rcd = c.rcd := by
  unfold Card.fireVec
  dsimp only
  split
  · rfl
  · split <;> rfl

/-- A firing leaves the recorder's structure alone. -/
@[simp] theorem Card.fire_rcd (c : Card) (n : Nat) : (c.fire n).rcd = c.rcd := by
  unfold Card.fire
  split
  · rfl
  · dsimp only
    split
    · rw [Card.fireVec_rcd, Card.setFld_rcd]
    · rfl

@[simp] theorem fireSummaries_rcd (old c : Card) : (fireSummaries old c).rcd = c.rcd :=
  each_keeps (P := fun d => d.rcd = c.rcd) (List.range 16) (fun d _ _ hd =>
    iteInduction (motive := fun e : Card => e.rcd = c.rcd) (fun _ => (d.fire_rcd _).trans hd) fun _ => hd) c rfl

/-- After the intake, nothing that follows a command changes the recorder's structure. -/
theorem settle_rcd (old : Card) {new : Card} (h : NoDeletes new) : (settle old new).rcd = new.takeHanded.rcd := by
  rw [settle_of_noDeletes old new h, Card.showLive_keeps _ Card.rcd (fun _ _ _ => rfl), fireSummaries_rcd]

/-- The records of a command enter, one by one, the intake of a card that has noted their order. -/
theorem takeHanded_eq (c : Card) : ∃ (d : Card) (items : List (Nat × Nat × List Byte)),
    d.rcd = { c.rcd with handed := [], items := items } ∧ c.takeHanded = d.each (blockOrder c.rcd.handed) Card.intakeOne := by
  unfold Card.takeHanded
  dsimp only
  split
  · exact ⟨_, c.rcd.items, rfl, rfl⟩
  · exact ⟨_, _, rfl, rfl⟩

/-- What both branches of a test give. -/
theorem all_dite {p : Prop} [Decidable p] {f : Nat → Bool} {x : p → Option Nat} {y : ¬p → Option Nat}
    (hx : ∀ h, (x h).all f = true) (hy : ∀ h, (y h).all f = true) : (dite p x y).all f = true := by
  by_cases h : p
  · rw [dif_pos h]
    exact hx h
  · rw [dif_neg h]
    exact hy h

/-- A severity has three bits (R367). The tables are too many rows for `split`: the match is unfolded into its tests, and
each row decided (`all_dite`). -/
theorem eventSev_lt {ev sev : Nat} (h : eventSev ev = some sev) : sev < 8 := by
  have hall : (eventSev ev).all (· < 8) = true := by
    delta eventSev eventSev.match_1
    dsimp only
    repeat refine all_dite (fun h => by cases h; rfl) fun _ => ?_
    rfl
  rw [h] at hall
  exact of_decide_eq_true hall

/-! ### The intake (R366, R367, R369) -/

theorem mem_blockOrder {l : List Record} {r : Record} (h : r.code < 0x10000) : r ∈ blockOrder l ↔ r ∈ l := by
  simp only [blockOrder, List.mem_flatMap, List.mem_range, List.mem_filter, beq_iff_eq]
  constructor
  · rintro ⟨_, _, hr, _⟩
    exact hr
  · exact fun hr => ⟨r.code / 0x1000, by omega, hr, rfl⟩

theorem pairwise_blockOrder (l : List Record) :
    (blockOrder l).Pairwise fun a b => a.code / 0x1000 ≤ b.code / 0x1000 := by
  refine List.pairwise_flatMap.mpr ⟨fun b _ => ?_, List.pairwise_lt_range.imp fun {b b'} hlt x hx y hy => ?_⟩
  · refine List.pairwise_of_forall_mem_list fun x hx y hy => ?_
    simp only [List.mem_filter, beq_iff_eq] at hx hy
    omega
  · simp only [List.mem_filter, beq_iff_eq] at hx hy
    omega

/-- The records that enter an intake fill it up to 64; the others are dropped. -/
theorem each_intakeOne_intake (l : List Record) (c : Card) :
    (c.each l Card.intakeOne).rcd.intake = (c.rcd.intake ++ l).take (max 64 c.rcd.intake.length) := by
  induction l generalizing c with
  | nil =>
    rw [List.append_nil, List.take_of_length_le (le_max_right _ _)]
    rfl
  | cons r l ih =>
    have hstep : c.each (r :: l) Card.intakeOne = (c.intakeOne r).each l Card.intakeOne := rfl
    rw [hstep, ih]
    unfold Card.intakeOne
    split
    case isTrue hfull =>
      have hkept : (c.countDrop r.sev).rcd.intake = c.rcd.intake := rfl
      rw [hkept, max_eq_right hfull, List.take_left, List.take_left]
    case isFalse hroom =>
      dsimp only
      rw [List.append_assoc, List.singleton_append, List.length_append, List.length_singleton, max_eq_left (by omega),
        max_eq_left (by omega)]

/-- DROPPED once set stays set while records enter. -/
theorem lasting_dropped : Lasting REC_STICKY fun v => v.getLsbD 0 = true :=
  lasting_bit 0 (by decide +kernel) (by decide)

theorem Lasting.intakeOne {o : Nat} {P : Word → Prop} (h : Lasting o P) {c : Card} (r : Record) (hc : P (c.reg o)) :
    P ((c.intakeOne r).reg o) :=
  iteInduction (motive := fun e : Card => P (e.reg o)) (fun _ => h.countDrop _ hc) fun _ => hc

/-- Records for which the intake has no room set DROPPED. -/
theorem each_intakeOne_dropped (l : List Record) (c : Card) (hover : 64 < c.rcd.intake.length + l.length) (hl : l ≠ []) :
    ((c.each l Card.intakeOne).reg REC_STICKY).getLsbD 0 = true := by
  induction l generalizing c with
  | nil => exact absurd rfl hl
  | cons r l ih =>
    have hstep : c.each (r :: l) Card.intakeOne = (c.intakeOne r).each l Card.intakeOne := rfl
    rw [List.length_cons] at hover
    rw [hstep]
    by_cases hfull : 64 ≤ c.rcd.intake.length
    · refine each_keeps (P := fun d => (d.reg REC_STICKY).getLsbD 0 = true) l (fun d x _ => lasting_dropped.intakeOne x) _ ?_
      rw [Card.intakeOne, if_pos hfull]
      exact reg_setFld_bit _ REC_STICKY (i := 0) (by decide)
    · have hroom : (c.intakeOne r).rcd.intake = c.rcd.intake ++ [r] := by rw [Card.intakeOne, if_neg hfull]
      refine ih _ ?_ fun hnil => ?_
      · rw [hroom, List.length_append, List.length_singleton]
        omega
      · rw [hnil] at hover
        simp at hover
        omega

theorem intakeOne_handed (c : Card) (r : Record) : (c.intakeOne r).rcd.handed = c.rcd.handed := by
  unfold Card.intakeOne
  split <;> rfl

theorem takeHanded_intake (c : Card) : c.takeHanded.rcd.handed = []
    ∧ c.takeHanded.rcd.intake = (c.rcd.intake ++ blockOrder c.rcd.handed).take (max 64 c.rcd.intake.length)
    ∧ (64 < c.rcd.intake.length + (blockOrder c.rcd.handed).length → blockOrder c.rcd.handed ≠ [] →
        c.takeHanded.bit REC_STICKY.DROPPED = true) := by
  obtain ⟨d, items, hd, heq⟩ := takeHanded_eq c
  have hintake : d.rcd.intake = c.rcd.intake := by rw [hd]
  have hempty : d.rcd.handed = [] := by rw [hd]
  rw [heq]
  refine ⟨?_, ?_, fun hover hsome => ?_⟩
  · exact each_keeps (P := fun e => e.rcd.handed = []) _ (fun e x _ he => (intakeOne_handed e x).trans he) d hempty
  · rw [each_intakeOne_intake, hintake]
  · exact (Card.bit_iff _ REC_STICKY 0).trans (each_intakeOne_dropped _ d (by rwa [hintake]) hsome)

theorem record_handed (c : Card) {ev sev : Nat} (ps : List Word) (h : eventSev ev = some sev) :
    ∃ r : Record, (c.record ev ps).rcd.handed = c.rcd.handed ++ [r] ∧ r.code = ev ∧ r.sev = sev ∧ r.pm = c.pm
      ∧ r.p = (ps ++ List.replicate 4 0).take 4 ∧ (∀ off, (c.record ev ps).reg off = c.reg off) := by
  have hsev := eventSev_lt h
  unfold Card.record Card.recordAt
  rw [h]
  refine ⟨_, rfl, rfl, ?_, rfl, rfl, fun _ => rfl⟩
  unfold Record.sev
  dsimp only
  split <;> split <;> omega

theorem record_unlisted (c : Card) {ev : Nat} (ps : List Word) (h : eventSev ev = none) : c.record ev ps = c := by
  unfold Card.record Card.recordAt
  rw [h]

theorem recordIntake : RecordIntake :=
  ⟨fun c _ ps => ⟨fun _ => record_handed c ps, record_unlisted c ps⟩, takeHanded_intake, fun _ _ => mem_blockOrder,
    pairwise_blockOrder⟩

end Sys2Proof.Machine

/-! RECORD_STORE and the drops (a part of O47's statement that holds). -/

namespace Sys2Proof.Machine

open Sys2Proof.Claims

/-- The intake, the records made, SEQ_NEXT and the submission rings are as they were. -/
structure IntakeKept (c c' : Card) : Prop where
  intake : c'.rcd.intake = c.rcd.intake
  handed : c'.rcd.handed = c.rcd.handed
  seqNext : c'.reg REC_SEQ_NEXT = c.reg REC_SEQ_NEXT
  sqs : c'.hst.sqs = c.hst.sqs

theorem IntakeKept.refl (c : Card) : IntakeKept c c := ⟨rfl, rfl, rfl, rfl⟩

theorem IntakeKept.trans {x y z : Card} (h : IntakeKept x y) (k : IntakeKept y z) : IntakeKept x z :=
  ⟨k.intake.trans h.intake, k.handed.trans h.handed, k.seqNext.trans h.seqNext, k.sqs.trans h.sqs⟩

theorem IntakeKept.setFld (c : Card) {f : Fld} (v : Nat) (h : REC_SEQ_NEXT ≠ f.off) : IntakeKept c (c.setFld f v) :=
  ⟨rfl, rfl, Card.reg_setFld_other c f v h, rfl⟩

theorem IntakeKept.fire (c : Card) (n : Nat) : IntakeKept c (c.fire n) := by
  refine ⟨by rw [c.fire_rcd], by rw [c.fire_rcd], reg_fire_other c n fun w _ => ?_, sqs_fire c n⟩
  simp only [REC_SEQ_NEXT, HST_EV_PEND]
  omega

theorem IntakeKept.countDrop (c : Card) (sev : Nat) : IntakeKept c (c.countDrop sev) := by
  have hoff : REC_SEQ_NEXT ≠ (if sev % 2 = 0 then REC_DROP.EVEN (sev % 8 / 2) else REC_DROP.ODD (sev % 8 / 2)).off := by
    split <;> simp only [REC_SEQ_NEXT, REC_DROP.EVEN, REC_DROP.ODD, REC_DROP] <;> omega
  exact (IntakeKept.setFld c _ hoff).trans ((IntakeKept.setFld _ (f := REC_STICKY.DROPPED) 1 (by decide)).trans
    ⟨rfl, rfl, rfl, rfl⟩)

theorem IntakeKept.lastGasp (c : Card) (r : Record) : IntakeKept c (c.lastGasp r) := by
  have hstick : IntakeKept c (c.stick REC_STICKY.LAST_GASP) := .setFld c _ (by decide)
  unfold Card.lastGasp
  dsimp only
  split
  · exact hstick.trans ⟨rfl, rfl, rfl, rfl⟩
  · exact hstick.trans (.countDrop _ _)

/-- A record whose write is good leaves the intake alone, wherever it goes. -/
theorem IntakeKept.storeRecord (c : Card) (r : Record) : IntakeKept c (c.storeRecord r false) := by
  unfold Card.storeRecord
  split
  · exact .lastGasp c r
  · split
    · exact .countDrop c _
    · exact ⟨rfl, rfl, rfl, rfl⟩

theorem IntakeKept.mirrorRecord (c : Card) (r : Record) : IntakeKept c (c.mirrorRecord r) := by
  unfold Card.mirrorRecord
  split
  · exact .refl c
  · split
    · exact ⟨rfl, rfl, rfl, rfl⟩
    · exact (IntakeKept.setFld c (f := REC_MIRROR_STAT.DROP) _ (by decide)).trans (.setFld _ _ (by decide))

/-- Mirroring a record leaves the store alone. -/
theorem mirrorRecord_store (c : Card) (r : Record) : (c.mirrorRecord r).rcd.store = c.rcd.store := by
  unfold Card.mirrorRecord
  split
  · rfl
  · split <;> rfl

/-- A good write takes the lowest free place of a store that has one. -/
theorem storeRecord_place {c : Card} (r : Record) {k : Nat} (hleft : c.storeLeft = true)
    (hfree : firstFree 32768 c.rcd.store (fun k => !c.regionRetired (k / 128)) 0 = some k) :
    (c.storeRecord r false).rcd.store = c.rcd.store.set (fun _ => none) k (some r) := by
  unfold Card.storeRecord placeSlot
  rw [hleft, hfree]
  rfl

/-- The retired regions are no matter of SEQ_NEXT. -/
theorem takeSeq_regionRetired (c : Card) : c.takeSeq.2.regionRetired = c.regionRetired := by
  funext region
  have hoff : REC_RETIRED (region / 32) ≠ REC_SEQ_NEXT := by
    simp only [REC_RETIRED, REC_SEQ_NEXT]
    omega
  exact congrArg (·.getLsbD (region % 32)) (Card.reg_setFld_other _ REC_SEQ_NEXT.SEQ_NEXT _ hoff)

theorem takeSeq_storeLeft (c : Card) : c.takeSeq.2.storeLeft = c.storeLeft := by
  unfold Card.storeLeft
  rw [takeSeq_regionRetired]

/-- SEQ_NEXT goes on, to 1 after its greatest value. -/
theorem takeSeq_seqNext (c : Card) : c.takeSeq.2.fld REC_SEQ_NEXT.SEQ_NEXT = nextSeq (c.fld REC_SEQ_NEXT.SEQ_NEXT) := by
  have hlt : c.fld REC_SEQ_NEXT.SEQ_NEXT < 2 ^ 32 := Nat.mod_lt _ (by decide)
  refine (Card.fld_setFld_same _ REC_SEQ_NEXT.SEQ_NEXT _ (by decide)).trans (Nat.mod_eq_of_lt ?_)
  change nextSeq (c.fld REC_SEQ_NEXT.SEQ_NEXT) < 2 ^ 32
  unfold nextSeq
  split <;> omega

/-- The card once its oldest record has left the intake for `rest` and has its SEQ. -/
def Card.numbered (c : Card) (rest : List Record) : Card := ({ c with rcd.intake := rest } : Card).takeSeq.2

/-- The record with the SEQ that it is given. -/
def Card.withSeq (c : Card) (r : Record) : Record := { r with seq := c.fld REC_SEQ_NEXT.SEQ_NEXT }

theorem recordStore_cons (c : Card) {r : Record} {rest : List Record} (h : c.rcd.intake = r :: rest) :
    c.recordStore false = (let d := ((c.numbered rest).storeRecord (c.withSeq r) false).mirrorRecord (c.withSeq r)
      if d.fld HST_EV_CFG.SEVMIN ≤ (c.withSeq r).sev then d.fire 83 else d) := by
  unfold Card.recordStore
  rw [h]
  rfl

theorem IntakeKept.recordStore (c : Card) {r : Record} {rest : List Record} (h : c.rcd.intake = r :: rest) :
    IntakeKept (c.numbered rest) (c.recordStore false) := by
  have hstored := (IntakeKept.storeRecord (c.numbered rest) (c.withSeq r)).trans (.mirrorRecord _ (c.withSeq r))
  rw [recordStore_cons c h]
  dsimp only
  split
  · exact hstored.trans (.fire _ _)
  · exact hstored

theorem recordStore_store (c : Card) {r : Record} {rest : List Record} (h : c.rcd.intake = r :: rest) {k : Nat}
    (hleft : c.storeLeft = true)
    (hfree : firstFree 32768 c.rcd.store (fun k => !c.regionRetired (k / 128)) 0 = some k) :
    (c.recordStore false).rcd.store.get (fun _ => none) k = some (c.withSeq r) := by
  have hplace := storeRecord_place (c := c.numbered rest) (c.withSeq r) ((takeSeq_storeLeft _).trans hleft)
    (by rw [Card.numbered, takeSeq_regionRetired]; exact hfree)
  rw [recordStore_cons c h]
  dsimp only
  rw [apply_ite Card.rcd, Card.fire_rcd, ite_self, mirrorRecord_store, hplace, Store.get_set_same]

/-- A card that has made no record takes none in. -/
theorem takeHanded_of_none {c : Card} (h : c.rcd.handed = []) : c.takeHanded.rcd = c.rcd := by
  have hrcd : { c.rcd with handed := [] } = c.rcd := by rw [← h]
  unfold Card.takeHanded
  rw [h]
  exact hrcd

/-- SEQ_NEXT is as the command left it. -/
theorem lasting_seqNext (P : Word → Prop) : Lasting REC_SEQ_NEXT P := by
  refine ⟨by decide +kernel, by decide, ?_⟩
  rintro (⟨k, hk, heq⟩ | heq)
  · unfold REC_SEQ_NEXT HST_EV_PEND at heq
    omega
  · exact absurd heq (by decide)

theorem exec_recordStore (bad : Bool) (s : State) : exec (.recordStore bad) s = execRecordStore bad s := rfl

theorem exec_recordIntakeDrop (code : Nat) (s : State) :
    exec (.recordIntakeDrop code) s = execRecordIntakeDrop code s := rfl

theorem recordStore_gives {s : State} {r : Record} {rest : List Record} (hl : Live s) (hdel : NoDeletes s.card)
    (hhanded : s.card.rcd.handed = []) (hintake : s.card.rcd.intake = r :: rest) :
    Gives (.recordStore false) s fun c' => c'.rcd.intake = rest
      ∧ c'.fld REC_SEQ_NEXT.SEQ_NEXT = nextSeq (s.card.fld REC_SEQ_NEXT.SEQ_NEXT)
      ∧ ∀ k, s.card.storeLeft = true → firstFree 32768 s.card.rcd.store (fun k => !s.card.regionRetired (k / 128)) 0 = some k →
          c'.rcd.store.get (fun _ => none) k = some (s.card.withSeq r) := by
  have hkept := IntakeKept.recordStore s.card hintake
  have hnone : NoDeletes (s.card.recordStore false) := by
    unfold NoDeletes
    rw [hkept.sqs]
    exact hdel
  have hrcd : (settle s.card (s.card.recordStore false)).rcd = (s.card.recordStore false).rcd :=
    (settle_rcd _ hnone).trans (takeHanded_of_none (hkept.handed.trans hhanded))
  apply gives_of_becomes (becomes_of_on hl (exec_recordStore false s))
  rw [hrcd]
  refine ⟨hkept.intake, ?_, fun k => recordStore_store s.card hintake⟩
  have hreg := (lasting_seqNext (· = (s.card.numbered rest).reg REC_SEQ_NEXT)).settle s.card hnone hkept.seqNext
  exact (congrArg REC_SEQ_NEXT.SEQ_NEXT.of hreg).trans (takeSeq_seqNext _)

theorem recordStore_empty {s : State} (bad : Bool) (hl : Live s) (hintake : s.card.rcd.intake = []) :
    Becomes (.recordStore bad) s s.card := by
  have h := becomes_of_on hl (exec_recordStore bad s)
  rwa [Card.recordStore, hintake] at h

theorem recordIntakeDrop_becomes {s : State} {code sev : Nat} (hl : Live s) (hsev : eventSev code = some sev) :
    (64 ≤ s.card.rcd.intake.length → Becomes (.recordIntakeDrop code) s (s.card.countDrop sev))
    ∧ (s.card.rcd.intake.length < 64 → Becomes (.recordIntakeDrop code) s s.card) := by
  have h := becomes_of_on hl (exec_recordIntakeDrop code s)
  rw [hsev] at h
  dsimp only at h
  refine ⟨fun hfull => ?_, fun hroom => ?_⟩
  · rwa [if_pos hfull] at h
  · rwa [if_neg (Nat.not_le.mpr hroom)] at h

theorem recordStoring : RecordStoring :=
  ⟨fun _ _ _ => recordStore_gives, fun _ bad => recordStore_empty bad, fun _ _ _ => recordIntakeDrop_becomes⟩

end Sys2Proof.Machine

/-! The SEQ of a complete origin (O47). -/

namespace Sys2Proof.Machine

open Sys2Proof.Claims

/-! ### The SEQ of the last origin through what follows a command -/

/-- What the entry of a record into the intake leaves alone, the entry of all does. -/
theorem takeHanded_keeps {α : Type} (g : Rec → α) (hhanded : ∀ r items, g { r with handed := [], items := items } = g r)
    (hone : ∀ d x, g (Card.intakeOne d x).rcd = g d.rcd) (c : Card) : g c.takeHanded.rcd = g c.rcd := by
  obtain ⟨d, items, hd, heq⟩ := takeHanded_eq c
  rw [heq]
  refine each_keeps (P := fun e => g e.rcd = g c.rcd) _ (fun e x _ he => (hone e x).trans he) d ?_
  rw [hd, hhanded]

theorem intakeOne_orgSeq (c : Card) (r : Record) : (c.intakeOne r).rcd.orgSeq = c.rcd.orgSeq := by
  unfold Card.intakeOne
  split <;> rfl

/-- The SEQ of the last origin is as the command left it. -/
theorem settle_orgSeq (old : Card) {new : Card} (h : NoDeletes new) : (settle old new).rcd.orgSeq = new.rcd.orgSeq := by
  rw [settle_rcd old h]
  exact takeHanded_keeps Rec.orgSeq (fun _ _ => rfl) intakeOne_orgSeq new

/-! ### A complete origin (R382, R383) -/

/-- The card once the origin `o` has ended with its bytes `bs` in its buffer, `seq` being its SEQ. -/
def Card.closeOrigin (c : Card) (o : Origin) (bs : List Byte) (seq : Nat) : Card :=
  ((({ c with rcd.origin := none, rcd.orgSeq := seq } : Card).setFld REC_STATUS.ORIGIN_BUSY 0).record 0xC021
    [o.frame, pN bs.length]).dma o.buffer bs

theorem closeOrigin_orgSeq (c : Card) (o : Origin) (bs : List Byte) (seq : Nat) :
    (c.closeOrigin o bs seq).rcd.orgSeq = seq := by
  unfold Card.closeOrigin Card.dma
  split <;> rfl

theorem closeOrigin_noDeletes {c : Card} (h : NoDeletes c) (o : Origin) (bs : List Byte) (seq : Nat) :
    NoDeletes (c.closeOrigin o bs seq) := by
  unfold NoDeletes Card.closeOrigin
  rw [sqs_dma, sqs_record]
  exact h

/-- A command that closes an origin does so under one SEQ. -/
theorem closeOrigin_seq_unique {i : Instr} {s : State} {o : Origin} {bs bs' : List Byte} {seq seq' : Nat} (hdel : NoDeletes s.card)
    (h : Becomes i s (s.card.closeOrigin o bs seq)) (h' : Becomes i s (s.card.closeOrigin o bs' seq')) : seq = seq' := by
  have heq := congrArg (fun t : State => t.card.rcd.orgSeq) (Host.Outcome.next.inj (h.symm.trans h'))
  dsimp only at heq
  rwa [settle_orgSeq _ (closeOrigin_noDeletes hdel o _ _), settle_orgSeq _ (closeOrigin_noDeletes hdel o _ _),
    closeOrigin_orgSeq, closeOrigin_orgSeq] at heq

theorem exec_originComplete (late : Bool) (s : State) : exec (.originComplete late) s = execOriginComplete late s := rfl

/-- An automatic origin whose sections are all there in time ends under the SEQ that R169 gives it: `nextSeq`, which goes
to 1 after the greatest value. -/
theorem becomes_originComplete {s : State} {o : Origin} (hl : Live s) (ho : s.card.rcd.origin = some o)
    (htime : framesSince s.card.frame o.frame ≤ 64) (hop : o.op = none)
    (hparts : ∀ n ∈ strings, (o.parts.any fun x => x.1 == 1 && x.2.1 == n) = true) :
    Becomes (.originComplete false) s (s.card.closeOrigin o (s.card.originBytes o (nextSeq s.card.rcd.orgSeq))
      (nextSeq s.card.rcd.orgSeq)) := by
  have h := becomes_of_on hl (exec_originComplete false s)
  have hall : (strings.all fun n => o.parts.any fun x => x.1 == 1 && x.2.1 == n) = true := List.all_eq_true.mpr hparts
  rw [ho] at h
  dsimp only at h
  rw [if_neg (by decide), if_neg (Nat.not_lt.mpr htime), hall, hop] at h
  exact h

/-- An automatic origin of frame 0 with the TILE section of every string. -/
def capturedOrigin : Origin where
  frame := 0
  pm := 0
  buffer := 0
  op := none
  parts := strings.map fun n => (1, n, [])

/-- The machine after reset, but that the last origin had the greatest SEQ and the next one is captured. -/
def lastSeqState : State :=
  { State.reset with card := { Card.reset with rcd.origin := some capturedOrigin, rcd.orgSeq := 2 ^ 32 - 1 } }

/-- Refutes O47: R169, which R383 names for origins, lets SEQ pass from 2^32 - 1 to 1, and so does the model
(`becomes_originComplete`); the clause on a complete origin claims 0 after 2^32 - 1. The claims on the intake and on
RECORD_STORE hold (`recordIntake`, `recordStoring`). -/
theorem not_recorderStore : ¬ Obligations.RecorderStore := by
  rintro ⟨-, -, -, -, hends⟩
  have hlive : Live lastSeqState := rfl
  have horigin : lastSeqState.card.rcd.origin = some capturedOrigin := rfl
  have htime : framesSince lastSeqState.card.frame capturedOrigin.frame ≤ 64 := by decide
  have hparts : ∀ n ∈ strings, (capturedOrigin.parts.any fun x => x.1 == 1 && x.2.1 == n) = true := by decide
  have hdel : NoDeletes lastSeqState.card := fun x hx => absurd hx List.not_mem_nil
  have hmodel := becomes_originComplete hlive horigin htime rfl hparts
  obtain ⟨_, _, hclaim⟩ := hends lastSeqState capturedOrigin hlive horigin
  have hseq : (2 ^ 32 - 1 + 1) % 2 ^ 32 = nextSeq (2 ^ 32 - 1) := closeOrigin_seq_unique hdel (hclaim htime rfl hparts) hmodel
  exact absurd hseq (by decide)

end Sys2Proof.Machine

/-! The machine's step: the front of the queue (O1), the cycle of an empty queue (O2), and the card right after reset (O4). -/

namespace Sys2Proof.Machine

open Sys2Proof.Claims

/-! ### O1 -/

/-- Settles O1: the step of a queue that is not empty is the command at its front. -/
theorem stepRunsFront : Obligations.StepRunsFront := by
  intro i rest s h
  unfold step
  rw [h]

/-! ### O2: the gates' timed edges touch the engines alone -/

@[simp] theorem Card.modPhase_tim (c : Card) (n k : Nat) (f : Phase → Phase) : (c.modPhase n k f).tim = c.tim := rfl

@[simp] theorem Card.ripple_tim (c : Card) (n k t : Nat) : (c.ripple n k t).tim = c.tim := rfl

@[simp] theorem Card.swap_tim (c : Card) (n k : Nat) (high : Bool) (t : Nat) : (c.swap n k high t).tim = c.tim := rfl

@[simp] theorem Card.ghRise_tim (c : Card) (n k t : Nat) : (c.ghRise n k t).tim = c.tim := by
  unfold Card.ghRise
  dsimp only
  rw [Card.modPhase_tim, apply_ite Card.tim, Card.stick_tim, ite_self]

/-- The end of an on-time, then the switch that waited out DEAD. -/
theorem phaseTick_tim (c : Card) (n k : Nat) : (c.phaseTick n k).tim = c.tim := by
  unfold Card.phaseTick
  extract_lets d
  have hd : d.tim = c.tim := by
    unfold d
    split
    · split <;> rfl
    · rfl
  split
  · split
    · exact hd
    · split
      · rw [Card.ghRise_tim, Card.ripple_tim, hd]
      · exact hd
  · exact hd

theorem gateTick_tim (c : Card) (n : Nat) : (c.gateTick n).tim = c.tim := by
  unfold Card.gateTick
  split
  · exact each_keeps (P := fun d => d.tim = c.tim) _ (fun d k _ hd => (phaseTick_tim d n k).trans hd) c rfl
  · rfl

/-! ### O2: the recorder takes a record -/

theorem hostOnly_lastGasp (c : Card) (r : Record) : HostOnly c (c.lastGasp r) := by
  have hstick : HostOnly c (c.stick REC_STICKY.LAST_GASP) := .setFld c _ _ (Or.inr (by decide))
  unfold Card.lastGasp
  dsimp only
  split
  · exact hstick.trans (.inside _ _ _)
  · exact hstick.trans (hostOnly_countDrop _ _)

theorem hostOnly_storeRecord (c : Card) (r : Record) : HostOnly c (c.storeRecord r false) := by
  unfold Card.storeRecord
  split
  · exact hostOnly_lastGasp c r
  · split
    · exact hostOnly_countDrop c _
    · exact .inside c _ _

theorem hostOnly_mirrorRecord (c : Card) (r : Record) : HostOnly c (c.mirrorRecord r) := by
  unfold Card.mirrorRecord
  split
  · exact .refl c
  · split
    · exact .inside c _ _
    · exact (HostOnly.setFld c REC_MIRROR_STAT.DROP _ (Or.inr (by decide))).trans (.setFld _ _ _ (Or.inr (by decide)))

theorem hostOnly_numbered (c : Card) (rest : List Record) : HostOnly c (c.numbered rest) :=
  (HostOnly.inside c c.hst _).trans (.setFld _ REC_SEQ_NEXT.SEQ_NEXT _ (Or.inr (by decide)))

/-- Taking a record from the intake is the recorder's own work. -/
theorem hostOnly_recordStore (c : Card) : HostOnly c (c.recordStore false) := by
  cases hintake : c.rcd.intake with
  | nil =>
    rw [Card.recordStore, hintake]
    exact .refl c
  | cons r rest =>
    have htaken := (hostOnly_numbered c rest).trans
      ((hostOnly_storeRecord _ (c.withSeq r)).trans (hostOnly_mirrorRecord _ (c.withSeq r)))
    rw [recordStore_cons c hintake]
    dsimp only
    split
    · exact htaken.trans (hostOnly_fire _ _)
    · exact htaken

/-- What an idle cycle leaves in the time unit: the gates before it and the recorder after it do not touch it. -/
theorem idle_tim (c : Card) : ((c.each strings fun c n => c.gateTick n).cycle.recordStore false).tim
    = (c.each strings fun c n => c.gateTick n).cycle.tim ∧ (c.each strings fun c n => c.gateTick n).tim = c.tim :=
  ⟨(hostOnly_recordStore _).tim,
    each_keeps (P := fun d => d.tim = c.tim) strings (fun d n _ hd => (gateTick_tim d n).trans hd) c rfl⟩

theorem step_of_empty {s : State} (h : s.pending = []) : step s = idle s := by
  unfold step
  rw [h]

/-- Settles O2: of an idle cycle only `Card.cycle` touches the time unit (`idle_tim`), and it lets 4 ns pass. -/
theorem idleTick : Obligations.IdleTick := by
  intro s hempty hl
  obtain ⟨hcycle, hgates⟩ := idle_tim s.card
  refine ⟨_, (step_of_empty hempty).trans (State.on_powered s _ hl), hempty, ?_⟩
  dsimp only
  rw [settle_tim, hcycle]
  simp only [Card.cycle, hgates, and_self]

/-! ### O4 -/

/-- Every live register shows its cold value at reset: each compares two words that compute. -/
theorem reset_shown : Card.reset.Shown := by
  unfold Card.Shown
  decide +kernel

/-- The register file and host memory of the reset card list no entry. -/
theorem reset_canonical : Card.reset.Canonical := ⟨rfl, rfl⟩

/-- Settles O4: the cold values of the live registers are the words that an empty card shows, and empty stores are
canonical. -/
theorem resetIsSafe : Obligations.ResetIsSafe := ⟨reset_shown, reset_canonical⟩

end Sys2Proof.Machine

/-! The checks of a debug command (O51). -/

namespace Sys2Proof.Machine

open Sys2Proof.Claims

/-- Every debug command is `Card.debug` with its row's role, range and states. -/
theorem exec_of_mem_debugCmds : ∀ k ∈ debugCmds, ∀ x, ∃ f, ∀ s,
    exec (k.1 x) s = s.on fun c => c.debug x k.2.1 (k.2.2.1 x) k.2.2.2 f := by
  intro k hk x
  simp only [debugCmds, List.mem_cons, List.not_mem_nil, or_false] at hk
  rcases hk with rfl | rfl | rfl | rfl | rfl | rfl | rfl | rfl | rfl | rfl | rfl <;> exact ⟨_, fun _ => rfl⟩

section

variable {c : Card} {x : DbgCmd} {role : Nat} {range : Bool} {states : List Nat} {f : Card → Card}

theorem debug_of_noSession (h : (addressed x c).j9Session = none) :
    c.debug x role range states f = (addressed x c).debugError 1 := by
  have hsession : ({ c.tap 10 with sec.dbg.data := x.data } : Card).j9Session = none := h
  unfold Card.debug
  dsimp only
  rw [hsession]
  rfl

/-- With a J9 session a debug command meets the checks of R427 one after the other. -/
theorem debug_of_session {y : Session} (h : (addressed x c).j9Session = some y) : c.debug x role range states f =
    let d := addressed x c
    if y.role < role then d.debugError 2
    else if x.zero ≠ 0 then d.debugError 3
    else if !range then d.debugError 6
    else if !states.contains d.sec.dbg.state then d.debugError 7
    else if d.sec.dbg.busy.isSome then d.debugError 8
    else f (begun x c) := by
  have hsession : ({ c.tap 10 with sec.dbg.data := x.data } : Card).j9Session = some y := h
  unfold Card.debug
  dsimp only
  rw [hsession]
  rfl

end

/-- Settles O51: without a J9 session a debug command is refused at once, and with one the first check that fails picks
the error (`debug_of_session`). -/
theorem debugRefusals : Obligations.DebugRefusals := by
  intro k hk s x hl
  obtain ⟨f, hf⟩ := exec_of_mem_debugCmds k hk x
  have hb := becomes_of_on hl (hf s)
  refine ⟨fun hnone => ?_, fun y hy => ?_⟩
  · rwa [debug_of_noSession hnone] at hb
  rw [debug_of_session hy] at hb
  dsimp only at hb
  refine ⟨fun hrole => ?_, fun hrole hzero => ?_, fun hrole hzero hrange => ?_, fun hrole hzero hrange hstate => ?_,
    fun hrole hzero hrange hstate hbusy => ?_⟩
  · rwa [if_pos hrole] at hb
  · rwa [if_neg (Nat.not_lt.mpr hrole), if_pos hzero] at hb
  · rwa [if_neg (Nat.not_lt.mpr hrole), if_neg (not_not.mpr hzero), if_pos (by simp [hrange])] at hb
  · rwa [if_neg (Nat.not_lt.mpr hrole), if_neg (not_not.mpr hzero), if_neg (by simp [hrange]),
      if_pos (by simpa using hstate)] at hb
  · rwa [if_neg (Nat.not_lt.mpr hrole), if_neg (not_not.mpr hzero), if_neg (by simp [hrange]),
      if_neg (by simpa using hstate), if_pos hbusy] at hb

end Sys2Proof.Machine

/-! Feeds, hold-up and removal of the card (O50). -/

namespace Sys2Proof.Machine

open Sys2Proof.Claims

/-- A command that also reaches a card without power makes its effect on any card. -/
theorem becomes_of_always {i : Instr} {s : State} {f : Card → Card} (h : exec i s = s.always f) : Becomes i s (f s.card) := h

/-- A bit whose field reads as before reads as before. -/
theorem Card.bit_of_fld {c c' : Card} {f : Fld} (h : c'.fld f = c.fld f) : c'.bit f = c.bit f := by
  rw [Card.bit, Card.bit, h]

/-- A bit of the twelve blocks without live registers, HST and REC is as the command left it. -/
theorem bit_settle_block (old new : Card) (f : Fld)
    (h : f.off / 0x1000 ≠ 1 ∧ f.off / 0x1000 ≠ 10 ∧ f.off / 0x1000 ≠ 12 ∧ f.off / 0x1000 ≠ 15) :
    (settle old new).bit f = new.bit f :=
  Card.bit_of_fld (fld_settle_block old new f h)

/-! ### The commands -/

theorem exec_feedLost (k v b : Nat) (s : State) : exec (.feedLost k v b) s = execFeedLost k v b s := rfl
theorem exec_feedInRange (k v : Nat) (s : State) : exec (.feedInRange k v) s = execFeedInRange k v s := rfl
theorem exec_feedReturn (s : State) : exec .feedReturn s = execFeedReturn s := rfl
theorem exec_holdupSpent (s : State) : exec .holdupSpent s = execHoldupSpent s := rfl
theorem exec_ejectorLatchOpen (s : State) : exec .ejectorLatchOpen s = execEjectorLatchOpen s := rfl
theorem exec_ejectorLatchClose (s : State) : exec .ejectorLatchClose s = execEjectorLatchClose s := rfl
theorem exec_cardUnseated (s : State) : exec .cardUnseated s = execCardUnseated s := rfl
theorem exec_drainComplete (s : State) : exec .drainComplete s = execDrainComplete s := rfl

/-! ### Feeds that are lost (R435, R437) -/

/-- The card once the loss of feed `k` shows, is recorded and has committed the accounts. -/
def Card.feedGone (c : Card) (k v : Nat) : Card :=
  let d := (({ c with sys.lostFeeds := c.sys.lostFeeds ++ [k] } : Card).showFeeds.setFld (feedV k) v).stick
    (if k = 0 then SYS_STICKY.A_LOST else SYS_STICKY.B_LOST)
  (d.record 0x0001 [pN k, pN v]).commitAccounts

/-- The effect of that loss: of both feeds it begins hold-up; of one it moves the card to the other. -/
def Card.afterFeedGone (c : Card) (k v b : Nat) : Card :=
  let d := c.feedGone k v
  if c.sys.lostFeeds ≠ [] then d.holdUp b
  else if k = 0 then
    let d := d.setFld SYS_FEED_STAT.RETURN_PEND 0
    if d.fld SYS_FEED_STAT.ACTIVE = 1 then d else d.toFeedB
  else if d.fld SYS_FEED_STAT.ACTIVE = 1 then d.toFeedA
  else d

/-- A feed that was in range is noted as lost; a card with power acts on it. -/
theorem becomes_feedLost_new {s : State} {k : Nat} (v b : Nat) (hk : k < 2) (hhad : s.card.sys.lostFeeds.contains k = false) :
    Becomes (.feedLost k v b) s (if !s.card.sys.powered then { s.card with sys.lostFeeds := s.card.sys.lostFeeds ++ [k] }
      else s.card.afterFeedGone k v b) := by
  have hb := becomes_of_always (exec_feedLost k v b s)
  have hnew : ¬(1 < k ∨ s.card.sys.lostFeeds.contains k = true) := by
    simp only [hhad, Bool.false_eq_true, or_false]
    omega
  rw [if_neg hnew] at hb
  exact hb

theorem becomes_feedLost {s : State} {k : Nat} (v b : Nat) (hl : Live s) (hk : k < 2)
    (hhad : s.card.sys.lostFeeds.contains k = false) : Becomes (.feedLost k v b) s (s.card.afterFeedGone k v b) := by
  have hpowered : s.card.sys.powered = true := hl
  have hb := becomes_feedLost_new v b hk hhad
  rwa [hpowered, if_neg (by decide)] at hb

theorem becomes_feedLost_unpowered {s : State} {k : Nat} (v b : Nat) (hp : s.card.sys.powered = false) (hk : k < 2)
    (hhad : s.card.sys.lostFeeds.contains k = false) :
    Becomes (.feedLost k v b) s { s.card with sys.lostFeeds := s.card.sys.lostFeeds ++ [k] } := by
  have hb := becomes_feedLost_new v b hk hhad
  rwa [hp, if_pos (by decide)] at hb

/-! ### Feeds that return (R436) -/

/-- The card once feed `k` in range shows with its voltage. -/
def Card.feedBack (c : Card) (k v : Nat) : Card :=
  ({ c with sys.lostFeeds := c.sys.lostFeeds.filter (· ≠ k) } : Card).showFeeds.setFld (feedV k) v

/-- A feed in range: one that was there only shows; one that was lost ends hold-up on itself, or, being feed A while
the card runs on feed B, waits for its return. -/
theorem becomes_feedInRange {s : State} {k : Nat} (v : Nat) (hl : Live s) (hk : k < 2) : Becomes (.feedInRange k v) s
    (let c := s.card.feedBack k v
     if !s.card.sys.lostFeeds.contains k then c
     else
       let c := c.record 0x0002 [pN k]
       let held := c.bit SYS_FEED_STAT.HOLDUP
       let c := c.setFld SYS_FEED_STAT.HOLDUP 0
       if held then
         if k = 1 ∧ c.fld SYS_FEED_STAT.ACTIVE = 0 then c.toFeedB
         else if k = 0 ∧ c.fld SYS_FEED_STAT.ACTIVE = 1 then c.toFeedA
         else c
       else if k = 0 ∧ c.fld SYS_FEED_STAT.ACTIVE = 1 then c.setFld SYS_FEED_STAT.RETURN_PEND 1
       else c) := by
  have hb := becomes_of_always (exec_feedInRange k v s)
  have hpowered : ¬((!s.card.sys.powered) = true) := by
    have hon : s.card.sys.powered = true := hl
    simp [hon]
  rw [if_neg (by omega : ¬1 < k), if_neg hpowered] at hb
  exact hb

/-- Feed A in range shows in A_OK. -/
theorem bit_feedBack_ok (c : Card) (v : Nat) : (c.feedBack 0 v).bit SYS_FEED_STAT.A_OK = true := by
  have hup : ((c.sys.lostFeeds.filter (· ≠ 0)).contains 0) = false := by simp
  have hback : (c.feedBack 0 v).bit SYS_FEED_STAT.A_OK = !(c.sys.lostFeeds.filter (· ≠ 0)).contains 0 := by
    refine (Card.bit_of_fld (Card.fld_setFld_beside _ SYS_FEED_STAT.A_V SYS_FEED_STAT.A_OK _ rfl (by decide)
      (by decide))).trans ?_
    refine (Card.bit_of_fld (Card.fld_setFld_beside _ SYS_FEED_STAT.B_OK SYS_FEED_STAT.A_OK _ rfl (by decide)
      (by decide))).trans ?_
    exact bit_setBit _ _ (by decide) rfl
  rw [hback, hup]
  rfl

/-- The return of feed A to a card on feed B that is not in hold-up: RETURN_PEND. -/
theorem becomes_feedA_back {s : State} (v : Nat) (hl : Live s) (hlost : s.card.sys.lostFeeds.contains 0 = true)
    (honB : (s.card.feedBack 0 v).fld SYS_FEED_STAT.ACTIVE = 1) (hheld : (s.card.feedBack 0 v).bit SYS_FEED_STAT.HOLDUP = false) :
    Becomes (.feedInRange 0 v) s ((((s.card.feedBack 0 v).record 0x0002 [pN 0]).setFld SYS_FEED_STAT.HOLDUP 0).setFld
      SYS_FEED_STAT.RETURN_PEND 1) := by
  have hb := becomes_feedInRange v hl (by decide : 0 < 2)
  have hrec : ((s.card.feedBack 0 v).record 0x0002 [pN 0]).bit SYS_FEED_STAT.HOLDUP = false :=
    (Card.bit_of_fld (Card.fld_record _ _ _ _ (by decide) (by decide))).trans hheld
  have hactive : (((s.card.feedBack 0 v).record 0x0002 [pN 0]).setFld SYS_FEED_STAT.HOLDUP 0).fld SYS_FEED_STAT.ACTIVE = 1 := by
    rw [Card.fld_setFld_beside _ SYS_FEED_STAT.HOLDUP SYS_FEED_STAT.ACTIVE _ rfl (by decide) (by decide),
      Card.fld_record _ _ _ _ (by decide) (by decide), honB]
  dsimp only at hb
  rwa [hlost, if_neg (by decide), hrec, if_neg (by decide), if_pos ⟨rfl, hactive⟩] at hb

theorem feedA_back_gives {s : State} (v : Nat) (hl : Live s) (hlost : s.card.sys.lostFeeds.contains 0 = true)
    (honB : (s.card.feedBack 0 v).fld SYS_FEED_STAT.ACTIVE = 1) (hheld : (s.card.feedBack 0 v).bit SYS_FEED_STAT.HOLDUP = false) :
    Gives (.feedInRange 0 v) s fun c' => c'.bit SYS_FEED_STAT.RETURN_PEND = true ∧ 0 ∉ c'.sys.lostFeeds
      ∧ c'.bit SYS_FEED_STAT.A_OK = true := by
  apply gives_of_becomes (becomes_feedA_back v hl hlost honB hheld)
  rw [bit_settle_block _ _ _ (by decide), bit_settle_block _ _ _ (by decide), settle_sys]
  refine ⟨bit_stick _ (by decide) rfl, ?_, ?_⟩
  · rw [Card.setFld_sys, Card.setFld_sys, Card.record_sys]
    exact fun hmem => absurd rfl (of_decide_eq_true (List.mem_filter.mp hmem).2)
  · rw [Card.bit_of_fld (Card.fld_setFld_beside _ SYS_FEED_STAT.RETURN_PEND SYS_FEED_STAT.A_OK _ rfl (by decide) (by decide)),
      Card.bit_of_fld (Card.fld_setFld_beside _ SYS_FEED_STAT.HOLDUP SYS_FEED_STAT.A_OK _ rfl (by decide) (by decide)),
      Card.bit_of_fld (Card.fld_record _ _ _ _ (by decide) (by decide)), bit_feedBack_ok]

/-- FEED_RETURN moves a card that waits for it back to feed A. -/
theorem becomes_feedReturn {s : State} (hl : Live s) :
    (s.card.bit SYS_FEED_STAT.RETURN_PEND = true → Becomes .feedReturn s s.card.toFeedA)
    ∧ (s.card.bit SYS_FEED_STAT.RETURN_PEND = false → Becomes .feedReturn s s.card) := by
  have hb := becomes_of_on hl (exec_feedReturn s)
  refine ⟨fun hpend => ?_, fun hpend => ?_⟩
  · rwa [if_pos hpend] at hb
  · rwa [if_neg (Bool.eq_false_iff.mp hpend)] at hb

/-- A spent bank ends hold-up without power. -/
theorem becomes_holdupSpent {s : State} (hl : Live s) :
    (s.card.bit SYS_FEED_STAT.HOLDUP = true → Becomes .holdupSpent s { s.card with sys.powered := false })
    ∧ (s.card.bit SYS_FEED_STAT.HOLDUP = false → Becomes .holdupSpent s s.card) := by
  have hb := becomes_of_on hl (exec_holdupSpent s)
  dsimp only at hb
  refine ⟨fun hheld => ?_, fun hheld => ?_⟩
  · rwa [if_pos hheld] at hb
  · rwa [if_neg (Bool.eq_false_iff.mp hheld)] at hb

/-! ### O50: the feeds -/

theorem feeds : Feeds := by
  refine ⟨fun s k v b hl hk hhad => ?_, fun s k v b hp hk => becomes_feedLost_unpowered v b hp hk, fun s k v hl hk => ?_,
    fun s hl => ?_⟩
  · have hb := becomes_feedLost v b hl hk hhad
    unfold Card.afterFeedGone at hb
    dsimp only at hb
    refine ⟨fun hboth => ?_, fun hfirst hA honB => ?_, fun hfirst hB honB => ?_⟩
    · rwa [if_pos hboth] at hb
    · have honA : ((s.card.feedGone k v).setFld SYS_FEED_STAT.RETURN_PEND 0).fld SYS_FEED_STAT.ACTIVE ≠ 1 := honB
      rwa [if_neg (not_not.mpr hfirst), if_pos hA, if_neg honA] at hb
    · have honA : (s.card.feedGone k v).fld SYS_FEED_STAT.ACTIVE ≠ 1 := honB
      rwa [if_neg (not_not.mpr hfirst), if_neg (by omega), if_neg honA] at hb
  · refine ⟨fun hthere => ?_, fun hlost hA honB hheld => ?_⟩
    · have hb := becomes_feedInRange v hl hk
      rwa [hthere] at hb
    · subst hA
      exact feedA_back_gives v hl hlost honB hheld
  · obtain ⟨hreturns, hstays⟩ := becomes_feedReturn hl
    exact ⟨hreturns, hstays, becomes_holdupSpent hl⟩

/-! ### Removal (R446 to R449) -/

/-- REMOVE stands beside LATCH. -/
theorem remove_setFld_latch (c : Card) (v : Nat) : (c.setFld SYS_SLOT.LATCH v).fld SYS_SLOT.REMOVE = c.fld SYS_SLOT.REMOVE :=
  Card.fld_setFld_beside c SYS_SLOT.LATCH SYS_SLOT.REMOVE v rfl (by decide) (by decide)

/-- The card once the end of its drain has committed the accounts and asked for the histories' commits. -/
def Card.drainCommitted (c : Card) : Card :=
  c.commitAccounts.each strings fun c n => c.modImp n fun x => { x with hist := if x.hist = 0 then 1 else x.hist }

/-- The card once a drain is complete shows and is recorded. -/
def Card.drained (c : Card) : Card :=
  let d := (c.drainCommitted.setFld SYS_SLOT.REMOVE 2).stick SYS_STICKY.DRAINED
  d.record 0x0012 [pN (framesSince d.frame d.sys.drainFrame)]

theorem becomes_drainComplete {s : State} (hl : Live s) (hdraining : s.card.fld SYS_SLOT.REMOVE = 1)
    (hpend : s.card.sys.drainPending = false)
    (hopen : ∀ n ∈ strings, (s.card.safState n = 0 ∨ s.card.safState n = 6) ∧ s.card.bit (SAF_STR_STATE.WELD_PEND n) = false) :
    Becomes .drainComplete s (({ s.card.drained with sys.drainOps := [] } : Card).each s.card.drained.sys.drainOps
      fun c slot => c.done slot) := by
  have hb := becomes_of_on hl (exec_drainComplete s)
  have hended : (strings.all fun n => decide (s.card.safState n = 0 ∨ s.card.safState n = 6)
      && !s.card.bit (SAF_STR_STATE.WELD_PEND n)) = true := by
    refine List.all_eq_true.mpr fun n hn => ?_
    obtain ⟨hstate, hweld⟩ := hopen n hn
    simp [hstate, hweld]
  dsimp only at hb
  rw [hended, if_neg (by simp [hdraining, hpend])] at hb
  exact hb

theorem drained_shows (c : Card) : c.drained.fld SYS_SLOT.REMOVE = 2 ∧ c.drained.bit SYS_STICKY.DRAINED = true := by
  unfold Card.drained
  dsimp only
  refine ⟨?_, ?_⟩
  · rw [Card.fld_record _ _ _ _ (by decide) (by decide), Card.stick, Card.fld_setFld_other _ _ _ _ (by decide)]
    exact Card.fld_setFld_same _ _ _ (by decide)
  · rw [Card.bit_of_fld (Card.fld_record _ _ _ _ (by decide) (by decide))]
    exact bit_stick _ (by decide) rfl

theorem drainComplete_gives {s : State} (hl : Live s) (hdraining : s.card.fld SYS_SLOT.REMOVE = 1)
    (hpend : s.card.sys.drainPending = false)
    (hopen : ∀ n ∈ strings, (s.card.safState n = 0 ∨ s.card.safState n = 6) ∧ s.card.bit (SAF_STR_STATE.WELD_PEND n) = false) :
    Gives .drainComplete s fun c' => c'.fld SYS_SLOT.REMOVE = 2 ∧ c'.bit SYS_STICKY.DRAINED = true ∧ c'.sys.drainOps = [] := by
  apply gives_of_becomes (becomes_drainComplete hl hdraining hpend hopen)
  have hdone := HostOnly.foldl s.card.drained.sys.drainOps (fun (c : Card) slot => c.done slot)
    (fun c slot => hostOnly_done c slot _) { s.card.drained with sys.drainOps := [] }
  have hslot := hdone.reg SYS_SLOT (by decide) (by decide)
  have hsticky := hdone.reg SYS_STICKY (by decide) (by decide)
  obtain ⟨hremove, hbit⟩ := drained_shows s.card
  rw [fld_settle_block _ _ _ (by decide), bit_settle_block _ _ _ (by decide), settle_sys]
  refine ⟨(congrArg SYS_SLOT.REMOVE.of hslot).trans hremove, ?_, congrArg Sys.drainOps hdone.sys⟩
  exact (Card.bit_of_fld (congrArg SYS_STICKY.DRAINED.of hsticky)).trans hbit

/-- An opened latch shows, and starts the drain of a card that is in service. -/
theorem becomes_ejectorLatchOpen {s : State} (hl : Live s) (hremove : s.card.fld SYS_SLOT.REMOVE = 0) :
    Becomes .ejectorLatchOpen s (((s.card.setFld SYS_SLOT.LATCH 0).stick SYS_STICKY.EJECT).startDrain 0) := by
  have hb := becomes_of_on hl (exec_ejectorLatchOpen s)
  dsimp only at hb
  rwa [remove_setFld_latch, if_neg (not_not.mpr hremove)] at hb

theorem becomes_ejectorLatchClose {s : State} (hl : Live s) :
    Becomes .ejectorLatchClose s (s.card.setFld SYS_SLOT.LATCH 1) := by
  have hb := becomes_of_on hl (exec_ejectorLatchClose s)
  exact hb

/-- A card that is pulled before it is DRAINED writes its power-loss record. -/
theorem becomes_cardUnseated {s : State} (hl : Live s) :
    (s.card.fld SYS_SLOT.REMOVE = 2 → Becomes .cardUnseated s { s.card with sys.seated := false })
    ∧ (s.card.fld SYS_SLOT.REMOVE ≠ 2 → Becomes .cardUnseated s { s.card with sys.seated := false }.writeLoss) := by
  have hb := becomes_of_on hl (exec_cardUnseated s)
  have hkept : ({ s.card with sys.seated := false } : Card).fld SYS_SLOT.REMOVE = s.card.fld SYS_SLOT.REMOVE :=
    Card.fld_of_regs rfl _
  dsimp only at hb
  rw [hkept] at hb
  refine ⟨fun hremove => ?_, fun hremove => ?_⟩
  · rwa [if_pos hremove] at hb
  · rwa [if_neg hremove] at hb

theorem becomes_drainComplete_idle {s : State} (hl : Live s) (hremove : s.card.fld SYS_SLOT.REMOVE ≠ 1) :
    Becomes .drainComplete s s.card := by
  have hb := becomes_of_on hl (exec_drainComplete s)
  dsimp only at hb
  rwa [if_pos (Or.inl hremove)] at hb

theorem removal : Removal := by
  refine ⟨fun s hl => ?_, fun s => drainComplete_gives, fun s => becomes_drainComplete_idle⟩
  exact ⟨becomes_ejectorLatchOpen hl, becomes_ejectorLatchClose hl, becomes_cardUnseated hl⟩

/-- Settles O50: each event of a feed is one branch of its effect (`becomes_feedLost`, `becomes_feedInRange`), and of a
complete drain only the host interface acts after it shows (`drained_shows`). -/
theorem feedsAndRemoval : Obligations.FeedsAndRemoval := ⟨feeds, removal⟩

end Sys2Proof.Machine

/-! Ends of sessions, the TAP and authentication through J9 (O53). -/

namespace Sys2Proof.Machine

open Sys2Proof.Claims

theorem exec_sessionExpiry (n : Nat) (s : State) : exec (.sessionExpiry n) s = execSessionExpiry n s := rfl
theorem exec_slotBlockExpiry (n : Nat) (s : State) : exec (.slotBlockExpiry n) s = execSlotBlockExpiry n s := rfl

/-! ### Ends of sessions (R421) -/

/-- The end of the J9 session leaves the sessions and the unlock to those who end it. -/
theorem endJ9_sec (c : Card) (cause : Nat) :
    (c.endJ9 cause).sec.sessions = c.sec.sessions ∧ (c.endJ9 cause).sec.unlock = c.sec.unlock := by
  unfold Card.endJ9
  dsimp only
  split
  · exact ⟨rfl, rfl⟩
  · exact ⟨rfl, rfl⟩

/-- A session that ends is no longer among the open ones, and the unlock that it held ends with it. -/
theorem endSession_sec {c : Card} {id : BitVec 16} {x : Session} (h : c.session id = some x) (cause : Nat) :
    (c.endSession id cause).sec.sessions = c.sec.sessions.filter (·.id != id)
    ∧ (c.endSession id cause).sec.unlock = if c.sec.unlock = some id then none else c.sec.unlock := by
  unfold Card.endSession
  rw [h]
  dsimp only
  split
  · obtain ⟨hsessions, hunlock⟩ := endJ9_sec (Card.record { c with
        sec.sessions := c.sec.sessions.filter (·.id != id)
        sec.unlock := if c.sec.unlock = some id then none else c.sec.unlock } 0xF002 [pN id.toNat, pN cause]) 1
    rw [hsessions, hunlock, Card.record_sec]
    exact ⟨rfl, rfl⟩
  · rw [Card.record_sec]
    exact ⟨rfl, rfl⟩

theorem mem_filter_id {l : List Session} {id : BitVec 16} {y : Session} : y ∈ l.filter (·.id != id) ↔ y ∈ l ∧ y.id ≠ id := by
  simp [List.mem_filter]

/-- What is left of the sessions once `id` has ended. -/
theorem ended_gives {i : Instr} {s : State} {id : BitVec 16} {x : Session} {cause : Nat} (hx : s.card.session id = some x)
    (hb : Becomes i s (s.card.endSession id cause)) : Gives i s fun c' => (∀ y ∈ c'.sec.sessions, y.id ≠ id)
      ∧ (∀ y ∈ s.card.sec.sessions, y.id ≠ id → y ∈ c'.sec.sessions) ∧ c'.sec.unlock ≠ some id := by
  obtain ⟨hsessions, hunlock⟩ := endSession_sec hx cause
  apply gives_of_becomes hb
  rw [settle_sec, hsessions, hunlock]
  refine ⟨fun y hy => (mem_filter_id.mp hy).2, fun y hy hne => mem_filter_id.mpr ⟨hy, hne⟩, ?_⟩
  split
  · exact (Option.some_ne_none id).symm
  · assumption

/-- The lifetime is looked at before the idle limit. -/
theorem becomes_sessionExpiry {s : State} {n : Nat} {x : Session} (hl : Live s)
    (hx : s.card.session (BitVec.ofNat 16 n) = some x) : Becomes (.sessionExpiry n) s
      (if x.opened + s.card.fld SEC_CFG.LIFE * 3600 * 1000000000 ≤ s.card.tim.clock then
        s.card.endSession (BitVec.ofNat 16 n) 2
      else if x.last + s.card.fld SEC_CFG.IDLE * 60 * 1000000000 ≤ s.card.tim.clock then
        s.card.endSession (BitVec.ofNat 16 n) 1
      else s.card) := by
  have hb := becomes_of_on hl (exec_sessionExpiry n s)
  dsimp only at hb
  rw [hx] at hb
  exact hb

theorem becomes_sessionExpiry_none {s : State} {n : Nat} (hl : Live s) (hx : s.card.session (BitVec.ofNat 16 n) = none) :
    Becomes (.sessionExpiry n) s s.card := by
  have hb := becomes_of_on hl (exec_sessionExpiry n s)
  dsimp only at hb
  rwa [hx] at hb

theorem slotBlockExpiry_gives {s : State} {n : Nat} (hl : Live s) (hn : n ≤ 8) (hblock : s.card.blocked n = false) :
    Gives (.slotBlockExpiry n) s fun c' => (c'.key n).blockEnd = 0 ∧ ∀ m, m ≠ n → c'.key m = s.card.key m := by
  have hb := becomes_of_on hl (exec_slotBlockExpiry n s)
  dsimp only at hb
  rw [if_pos ⟨hn, by rw [hblock]; rfl⟩] at hb
  apply gives_of_becomes hb
  refine ⟨?_, fun m hm => ?_⟩
  · rw [Card.key_of_sec (settle_sec _ _), Card.key_setKey_same]
  · rw [Card.key_of_sec (settle_sec _ _), Card.key_setKey_other _ _ hm]

theorem sessionEnds : SessionEnds := by
  refine ⟨fun s n x hl hx => ?_, fun s n => becomes_sessionExpiry_none, fun s n => slotBlockExpiry_gives⟩
  have hb := becomes_sessionExpiry hl hx
  refine ⟨fun hlife => ?_, fun hlife hidle => ?_, fun hlife hidle => ?_, fun hover => ?_⟩
  · rwa [if_pos hlife] at hb
  · rwa [if_neg hlife, if_pos hidle] at hb
  · rwa [if_neg hlife, if_neg hidle] at hb
  · by_cases hlife : x.opened + s.card.fld SEC_CFG.LIFE * 3600 * 1000000000 ≤ s.card.tim.clock
    · rw [if_pos hlife] at hb
      exact ended_gives hx hb
    · rw [if_neg hlife, if_pos (hover.resolve_left hlife)] at hb
      exact ended_gives hx hb

/-! ### The TAP (R425, R426) -/

/-- An access through the TAP is the debug port's: registers and the boundary cells stay. -/
theorem tap_boundary (c : Card) (ir : Nat) : (c.tap ir).sec.dbg.boundary = c.sec.dbg.boundary := by
  unfold Card.tap
  dsimp only
  split <;> rfl

/-- SEC_STICKY shows no live contents. -/
theorem bit_settle_secSticky (old new : Card) : (settle old new).bit SEC_STICKY.DBG_REFUSED = new.bit SEC_STICKY.DBG_REFUSED :=
  Card.bit_of_fld (fld_settle old new _ (by decide) (by decide) (by decide +kernel))

/-- EXTEST drives the pins, or acts as BYPASS and is refused. -/
theorem becomes_extest {s : State} (bits : BitVec 612) (hl : Live s) : Becomes (.extest bits) s
    (if (s.card.tap 0).j9Session.any (fun x => decide (x.role = 3)) && (s.card.tap 0).stringsDead then
      { s.card.tap 0 with sec.dbg.boundary := bits, sec.dbg.driving := true }
    else ((s.card.tap 0).shiftBypass (bits.getLsbD 611)).stick SEC_STICKY.DBG_REFUSED) := by
  have hb := becomes_of_on hl (exec_extest bits s)
  exact hb

theorem extest_refused {s : State} (bits : BitVec 612) (hl : Live s)
    (h : ((s.card.tap 0).j9Session.any fun x => decide (x.role = 3)) = false ∨ (s.card.tap 0).stringsDead = false) :
    Gives (.extest bits) s fun c' => c'.sec.dbg.driving = false ∧ c'.sec.dbg.boundary = s.card.sec.dbg.boundary
      ∧ c'.sec.dbg.bypass = bits.getLsbD 611 ∧ c'.bit SEC_STICKY.DBG_REFUSED = true := by
  have hb := becomes_extest bits hl
  rw [if_neg (by rcases h with h | h <;> simp [h])] at hb
  apply gives_of_becomes hb
  rw [bit_settle_secSticky, settle_sec]
  exact ⟨rfl, tap_boundary s.card 0, rfl, bit_stick _ (by decide) rfl⟩

theorem becomes_samplePreload {s : State} (bits : BitVec 612) (hl : Live s) :
    Becomes (.samplePreload bits) s { s.card.tap 2 with sec.dbg.boundary := bits } := by
  have hb := becomes_of_on hl (exec_samplePreload bits s)
  exact hb

theorem becomes_idcode {s : State} (hl : Live s) : Becomes .idcode s { s.card.tap 1 with sec.dbg.tdr := 0x32048F29 } := by
  have hb := becomes_of_on hl (exec_idcode s)
  exact hb

theorem becomes_bypass {s : State} (b : Bool) (hl : Live s) : Becomes (.bypass b) s ((s.card.tap 31).shiftBypass b) := by
  have hb := becomes_of_on hl (exec_bypass b s)
  exact hb

/-- The card once Test-Logic-Reset has selected IDCODE. -/
def Card.tapReset (c : Card) : Card := { c with sec.dbg.ir := 1, sec.dbg.driving := false }

theorem becomes_testLogicReset {s : State} (hl : Live s) (h : s.card.sec.dbg.j9 = none) :
    Becomes .testLogicReset s s.card.tapReset := by
  have hb := becomes_of_on hl (exec_testLogicReset s)
  dsimp only at hb
  split at hb
  case h_1 => exact hb
  case h_2 id hid => exact absurd (hid.symm.trans h) (Option.some_ne_none id)

/-- The J9 session ends with a cause that R421 does not list. -/
theorem becomes_testLogicReset_session {s : State} {id : BitVec 16} (hl : Live s) (h : s.card.sec.dbg.j9 = some id) :
    Becomes .testLogicReset s ((Card.record { s.card.tapReset.draw.2 with
        sec.sessions := s.card.sec.sessions.filter (·.id != id)
        sec.unlock := if s.card.sec.unlock = some id then none else s.card.sec.unlock } 0xF002
      [pN id.toNat, (Config.freeValue s.card.free).setWidth 32]).endJ9 2) := by
  have hb := becomes_of_on hl (exec_testLogicReset s)
  dsimp only at hb
  split at hb
  case h_1 hnone => exact absurd (h.symm.trans hnone) (Option.some_ne_none id)
  case h_2 id' hid =>
    obtain rfl := Option.some.inj (hid.symm.trans h)
    exact hb

/-- The end of the J9 session leaves the TAP alone. -/
theorem endJ9_tap (c : Card) (cause : Nat) :
    (c.endJ9 cause).sec.dbg.ir = c.sec.dbg.ir ∧ (c.endJ9 cause).sec.dbg.driving = c.sec.dbg.driving := by
  unfold Card.endJ9
  dsimp only
  split
  · exact ⟨rfl, rfl⟩
  · exact ⟨rfl, rfl⟩

theorem testLogicReset_gives {s : State} {id : BitVec 16} (hl : Live s) (h : s.card.sec.dbg.j9 = some id) :
    Gives .testLogicReset s fun c' => c'.sec.dbg.ir = 1 ∧ c'.sec.dbg.driving = false ∧ ∀ y ∈ c'.sec.sessions, y.id ≠ id := by
  apply gives_of_becomes (becomes_testLogicReset_session hl h)
  rw [settle_sec, (endJ9_tap _ _).1, (endJ9_tap _ _).2, (endJ9_sec _ _).1, Card.record_sec]
  exact ⟨rfl, rfl, fun y hy => (mem_filter_id.mp hy).2⟩

theorem tapInstructions : TapInstructions := by
  refine ⟨fun s bits hl => ⟨fun hrole hdead => ?_, extest_refused bits hl, becomes_samplePreload bits hl⟩, fun s hl =>
    ⟨becomes_idcode hl, fun b => becomes_bypass b hl, becomes_testLogicReset hl, fun id => testLogicReset_gives hl⟩⟩
  have hb := becomes_extest bits hl
  rwa [if_pos (by rw [hrole, hdead]; rfl)] at hb

/-! ### Challenges through J9 (R417) -/

/-- SEC_CHAL: the checks of a slot, in their order, and then a challenge. -/
theorem becomes_secChal {s : State} (dr : BitVec 264) (hl : Live s) : Becomes (.secChal dr) s
    (let c := s.card.tap 8
     let n := dr.toNat % 8
     if (c.key n).role < 2 then { c with sec.dbg.chalStatus := 2 }
     else if c.blocked n then { c with sec.dbg.chalStatus := 3 }
     else if 16 ≤ c.sec.sessions.length then { c with sec.dbg.chalStatus := 4 }
     else
       let x := Card.challenge { c with sec.challenges := c.sec.challenges.filter (·.path != 1) } n 1
       { x.2.2 with sec.dbg.chalNonce := x.2.1, sec.dbg.chalStatus := 0 }) := by
  have hb := becomes_of_on hl (exec_secChal dr s)
  exact hb

/-- A challenge is among the open ones, with its slot, its path and its nonce. -/
theorem challenge_open (c : Card) (slot path : Nat) : ∃ x ∈ (c.challenge slot path).2.2.sec.challenges,
    x.path = path ∧ x.slot = slot ∧ x.nonce = (c.challenge slot path).2.1 :=
  ⟨_, List.mem_append_right _ (List.mem_singleton_self _), rfl, rfl, rfl⟩

theorem secChal_clauses {s : State} (dr : BitVec 264) (hl : Live s) :
    let c := s.card.tap 8
    let n := dr.toNat % 8
    ((c.key n).role < 2 → Becomes (.secChal dr) s { c with sec.dbg.chalStatus := 2 })
    ∧ (2 ≤ (c.key n).role → c.blocked n = true → Becomes (.secChal dr) s { c with sec.dbg.chalStatus := 3 })
    ∧ (2 ≤ (c.key n).role → c.blocked n = false → 16 ≤ c.sec.sessions.length →
        Becomes (.secChal dr) s { c with sec.dbg.chalStatus := 4 })
    ∧ (2 ≤ (c.key n).role → c.blocked n = false → c.sec.sessions.length < 16 →
        Gives (.secChal dr) s fun c' => c'.sec.dbg.chalStatus = 0
          ∧ ∃ x ∈ c'.sec.challenges, x.path = 1 ∧ x.slot = n ∧ x.nonce = c'.sec.dbg.chalNonce) := by
  have hb := becomes_secChal dr hl
  dsimp only at hb
  refine ⟨fun hrole => ?_, fun hrole hblock => ?_, fun hrole hblock hfull => ?_, fun hrole hblock hroom => ?_⟩
  · rwa [if_pos hrole] at hb
  · rwa [if_neg (Nat.not_lt.mpr hrole), if_pos hblock] at hb
  · rwa [if_neg (Nat.not_lt.mpr hrole), if_neg (Bool.eq_false_iff.mp hblock), if_pos hfull] at hb
  · rw [if_neg (Nat.not_lt.mpr hrole), if_neg (Bool.eq_false_iff.mp hblock), if_neg (Nat.not_le.mpr hroom)] at hb
    apply gives_of_becomes hb
    rw [settle_sec]
    exact ⟨rfl, challenge_open _ _ _⟩

/-! ### Responses through J9 (R417, R419) -/

/-- The valid challenge of path 1. -/
def Card.j9Challenge (c : Card) : Option Challenge :=
  c.sec.challenges.find? fun x => x.path == 1 && decide (c.tim.clock ≤ x.issued + 10000000000)

theorem becomes_secResp_none {s : State} (dr : BitVec 264) (hl : Live s) (h : (s.card.tap 9).j9Challenge = none) :
    Becomes (.secResp dr) s { s.card.tap 9 with sec.dbg.respStatus := 6 } := by
  have hb := becomes_of_on hl (exec_secResp dr s)
  unfold Card.j9Challenge at h
  dsimp only at hb
  rwa [h] at hb

/-- A response to an open challenge: the checks of R417, then the comparison with what the key gives. -/
theorem becomes_secResp {s : State} {x : Challenge} (dr : BitVec 264) (hl : Live s) (h : (s.card.tap 9).j9Challenge = some x) :
    Becomes (.secResp dr) s
      (let c := (s.card.tap 9).useChallenge x.handle
       if c.blocked x.slot then { c with sec.dbg.respStatus := 3 }
       else if 16 ≤ c.sec.sessions.length then { c with sec.dbg.respStatus := 4 }
       else if le 32 dr.toNat = c.expected x then
         let p := (c.authPass x.slot).openSession (c.key x.slot).role x.slot 1
         p.2.replaceJ9 p.1
       else { c.authFail x.slot 1 with sec.dbg.respStatus := 5 }) := by
  have hb := becomes_of_on hl (exec_secResp dr s)
  unfold Card.j9Challenge at h
  dsimp only at hb
  rw [h] at hb
  exact hb

theorem j9Authentication : J9Authentication := by
  refine ⟨fun s dr => secChal_clauses dr, fun s dr hl => ⟨becomes_secResp_none dr hl, fun x hx hblock hroom => ?_⟩⟩
  have hb := becomes_secResp dr hl hx
  dsimp only at hb
  rw [if_neg (Bool.eq_false_iff.mp hblock), if_neg (Nat.not_le.mpr hroom)] at hb
  refine ⟨fun hright => ?_, fun hwrong => ?_⟩
  · rwa [if_pos hright] at hb
  · rwa [if_neg hwrong] at hb

/-- Settles O53: a session that ends leaves the others and takes its unlock (`endSession_sec`); an instruction of the TAP is
one branch of its effect; and a challenge or a response meets the checks of R417 in their order. -/
theorem sessionsAndTap : Obligations.SessionsAndTap := ⟨sessionEnds, tapInstructions, j9Authentication⟩

end Sys2Proof.Machine

/-! Traffic and states of the CAN controllers (O40). -/

namespace Sys2Proof.Machine

open Sys2Proof.Claims

/-! ### The registers of a controller -/

theorem canStatus_block {n : Nat} (hn : n < 2) : CAN_STATUS n / 0x1000 = 14 := by
  unfold CAN_STATUS
  omega

theorem canSticky_block {n : Nat} (hn : n < 2) : CAN_STICKY n / 0x1000 = 14 := by
  unfold CAN_STICKY
  omega

theorem canCtrl_block {n : Nat} (hn : n < 2) : CAN_CTRL n / 0x1000 = 14 := by
  unfold CAN_CTRL
  omega

theorem canStatus_ne_sticky (n : Nat) : CAN_STATUS n ≠ CAN_STICKY n := by
  unfold CAN_STATUS CAN_STICKY
  omega

/-- The state, TEC and REC stand side by side in CAN_STATUS. -/
theorem canStatus_fields (n : Nat) : (CAN_STATUS.STATE n).lo + (CAN_STATUS.STATE n).w ≤ (CAN_STATUS.TEC n).lo
    ∧ (CAN_STATUS.TEC n).lo + (CAN_STATUS.TEC n).w ≤ (CAN_STATUS.REC n).lo
    ∧ (CAN_STATUS.REC n).lo + (CAN_STATUS.REC n).w ≤ 32 := by
  change 0 + 3 ≤ 3 ∧ 3 + 8 ≤ 11 ∧ 11 + 8 ≤ 32
  decide

/-- A field of the CAN block is as the command left it. -/
theorem fld_settle_can (old new : Card) {f : Fld} (h : f.off / 0x1000 = 14) : (settle old new).fld f = new.fld f :=
  fld_settle_block old new f (by omega)

theorem bit_settle_can (old new : Card) {f : Fld} (h : f.off / 0x1000 = 14) : (settle old new).bit f = new.bit f :=
  bit_settle_block old new f (by omega)

/-- The host side leaves the CAN block's fields alone. -/
theorem fld_can_of_hostOnly {c c' : Card} (h : HostOnly c c') {f : Fld} (hf : f.off / 0x1000 = 14) : c'.fld f = c.fld f :=
  congrArg f.of (h.reg f.off (by omega) (by omega))

theorem canState_setFld (c : Card) (n : Nat) {v : Nat} (hv : v < 8) : (c.setFld (CAN_STATUS.STATE n) v).canState n = v := by
  obtain ⟨hstate, htec, hrec⟩ := canStatus_fields n
  exact (Card.fld_setFld_same c (CAN_STATUS.STATE n) v (by omega)).trans (Nat.mod_eq_of_lt hv)

theorem canState_of_hostOnly {c c' : Card} (h : HostOnly c c') {n : Nat} (hn : n < 2) : c'.canState n = c.canState n :=
  fld_can_of_hostOnly h (canStatus_block hn)

theorem canState_settle (old new : Card) {n : Nat} (hn : n < 2) : (settle old new).canState n = new.canState n :=
  fld_settle_can old new (canStatus_block hn)

/-- A sticky bit that the command set, whatever the host side did after it. -/
theorem bit_settle_canSticky (old : Card) {c c' : Card} {n i : Nat} (hn : n < 2) (hi : i < 32)
    (h : HostOnly (c.stick ⟨CAN_STICKY n, i, 1⟩) c') : (settle old c').bit ⟨CAN_STICKY n, i, 1⟩ = true := by
  rw [bit_settle_can old c' (canSticky_block hn), Card.bit_of_fld (fld_can_of_hostOnly h (canSticky_block hn))]
  exact bit_stick c hi rfl

/-- CAN_STATUS of controller `n` shows the counters and the state. -/
def CanShows (n tec rc st : Nat) (c : Card) : Prop :=
  c.fld (CAN_STATUS.TEC n) = tec ∧ c.fld (CAN_STATUS.REC n) = rc ∧ c.canState n = st

theorem CanShows.of_reg {n tec rc st : Nat} {c c' : Card} (h : CanShows n tec rc st c)
    (hreg : c'.reg (CAN_STATUS n) = c.reg (CAN_STATUS n)) : CanShows n tec rc st c' := by
  obtain ⟨htec, hrec, hstate⟩ := h
  exact ⟨(congrArg (CAN_STATUS.TEC n).of hreg).trans htec, (congrArg (CAN_STATUS.REC n).of hreg).trans hrec,
    (congrArg (CAN_STATUS.STATE n).of hreg).trans hstate⟩

theorem CanShows.of_hostOnly {n tec rc st : Nat} {c c' : Card} (h : CanShows n tec rc st c) (hn : n < 2)
    (hhost : HostOnly c c') : CanShows n tec rc st c' :=
  h.of_reg (hhost.reg _ (by rw [canStatus_block hn]; decide) (by rw [canStatus_block hn]; decide))

theorem CanShows.stick {n tec rc st : Nat} {c : Card} (h : CanShows n tec rc st c) (i : Nat) :
    CanShows n tec rc st (c.stick ⟨CAN_STICKY n, i, 1⟩) :=
  h.of_reg (Card.reg_setFld_other c _ _ (canStatus_ne_sticky n))

theorem CanShows.settle {n tec rc st : Nat} {c : Card} (h : CanShows n tec rc st c) (hn : n < 2) (old : Card) :
    CanShows n tec rc st (settle old c) :=
  h.of_reg (reg_settle_block old c (by rw [canStatus_block hn]; decide))

/-- The state stands beside the counters. -/
theorem CanShows.setState {n tec rc st : Nat} {c : Card} (h : CanShows n tec rc st c) {v : Nat} (hv : v < 8) :
    CanShows n tec rc v (c.setFld (CAN_STATUS.STATE n) v) := by
  obtain ⟨htec, hrec, _⟩ := h
  obtain ⟨hs, ht, hr⟩ := canStatus_fields n
  refine ⟨?_, ?_, canState_setFld c n hv⟩
  · rw [Card.fld_setFld_beside c (CAN_STATUS.STATE n) (CAN_STATUS.TEC n) v rfl (by omega) (by omega), htec]
  · rw [Card.fld_setFld_beside c (CAN_STATUS.STATE n) (CAN_STATUS.REC n) v rfl (by omega) (by omega), hrec]

/-- The counters are written beside the state. -/
theorem canShows_counters (c : Card) (n : Nat) {tec rc : Nat} (ht : tec < 256) (hr : rc < 256) :
    CanShows n tec rc (c.canState n) ((c.setFld (CAN_STATUS.TEC n) tec).setFld (CAN_STATUS.REC n) rc) := by
  obtain ⟨hs, htw, hrw⟩ := canStatus_fields n
  refine ⟨?_, ?_, ?_⟩
  · rw [Card.fld_setFld_beside _ (CAN_STATUS.REC n) (CAN_STATUS.TEC n) rc rfl (by omega) (by omega)]
    exact (Card.fld_setFld_same c (CAN_STATUS.TEC n) tec (by omega)).trans (Nat.mod_eq_of_lt ht)
  · exact (Card.fld_setFld_same _ (CAN_STATUS.REC n) rc (by omega)).trans (Nat.mod_eq_of_lt hr)
  · unfold Card.canState
    rw [Card.fld_setFld_beside _ (CAN_STATUS.REC n) (CAN_STATUS.STATE n) rc rfl (by omega) (by omega),
      Card.fld_setFld_beside c (CAN_STATUS.TEC n) (CAN_STATUS.STATE n) tec rfl (by omega) (by omega)]

theorem leaveActive_regs (c : Card) (n : Nat) : (c.leaveActive n).regs = c.regs := by
  unfold Card.leaveActive
  split <;> rfl

theorem CanShows.leaveActive {n tec rc st : Nat} {c : Card} (h : CanShows n tec rc st c) (m : Nat) :
    CanShows n tec rc st (c.leaveActive m) :=
  h.of_reg (Card.reg_of_regs (leaveActive_regs c m) _)

theorem CanShows.errorActive {n tec rc st : Nat} {c : Card} (h : CanShows n tec rc st c) (hn : n < 2) :
    CanShows n tec rc 2 (c.errorActive n) := by
  have hkept : CanShows n tec rc st { c with can.wasOff := c.can.wasOff.filter (· ≠ n) } :=
    h.of_reg (Card.reg_of_regs rfl _)
  exact (hkept.setState (by decide : 2 < 8)).of_hostOnly hn (hostOnly_record _ _ _)

/-! ### Error states (R407, R409) -/

/-- The card once the error counters of a controller show, each up to 255. -/
def Card.canCounted (c : Card) (n tec rc : Nat) : Card :=
  (c.setFld (CAN_STATUS.TEC n) (min tec 255)).setFld (CAN_STATUS.REC n) (min rc 255)

theorem canShows_counted (c : Card) (n tec rc : Nat) :
    CanShows n (min tec 255) (min rc 255) (c.canState n) (c.canCounted n tec rc) :=
  canShows_counters c n (by omega) (by omega)

/-- New counters of a controller on the bus, and the state that they lead to. -/
theorem becomes_canError {s : State} {n : Nat} (tec rc : Nat) (hl : Live s) (hn : n < 2)
    (hst : s.card.canState n = 2 ∨ s.card.canState n = 3) : Becomes (.canError n tec rc) s
    (let c := s.card.canCounted n tec rc
     if 255 < tec then
       (((c.leaveActive n).setFld (CAN_STATUS.STATE n) 4).stick (CAN_STICKY.BUS_OFF n)).record 0xE002 [pN n]
     else if 127 < tec ∨ 127 < rc then
       if s.card.canState n = 3 then c
       else (((c.leaveActive n).setFld (CAN_STATUS.STATE n) 3).stick (CAN_STICKY.ERR_PASSIVE n)).record 0xE001
         [pN n, pN (min tec 255), pN (min rc 255)]
     else if s.card.canState n = 3 then c.errorActive n
     else c) := by
  have hb := becomes_of_on hl (exec_canError n tec rc s)
  dsimp only at hb
  rw [if_neg (by omega)] at hb
  exact hb

theorem canError_active {s : State} {n tec rc : Nat} (hl : Live s) (hn : n < 2)
    (hst : s.card.canState n = 2 ∨ s.card.canState n = 3) (ht : tec ≤ 127) (hr : rc ≤ 127) :
    Gives (.canError n tec rc) s (CanShows n tec rc 2) := by
  have hb := becomes_canError tec rc hl hn hst
  have hshows := canShows_counted s.card n tec rc
  rw [min_eq_left (by omega), min_eq_left (by omega)] at hshows
  dsimp only at hb
  rw [if_neg (by omega), if_neg (by omega)] at hb
  rcases hst with h2 | h3
  · rw [if_neg (by omega)] at hb
    exact gives_of_becomes hb ((h2 ▸ hshows).settle hn _)
  · rw [if_pos h3] at hb
    exact gives_of_becomes hb ((hshows.errorActive hn).settle hn _)

theorem canError_passive {s : State} {n tec rc : Nat} (hl : Live s) (hn : n < 2)
    (hst : s.card.canState n = 2 ∨ s.card.canState n = 3) (ht : tec ≤ 255) (hover : 127 < tec ∨ 127 < rc) :
    Gives (.canError n tec rc) s fun c' => CanShows n tec (min rc 255) 3 c'
      ∧ (s.card.canState n = 2 → c'.bit (CAN_STICKY.ERR_PASSIVE n) = true) := by
  have hb := becomes_canError tec rc hl hn hst
  have hshows := canShows_counted s.card n tec rc
  rw [min_eq_left ht] at hshows
  dsimp only at hb
  rw [if_neg (by omega), if_pos hover] at hb
  rcases hst with h2 | h3
  · rw [if_neg (by omega)] at hb
    have hpassive := (((hshows.leaveActive n).setState (by decide : 3 < 8)).stick 2).of_hostOnly hn
      (hostOnly_record _ 0xE001 [pN n, pN (min tec 255), pN (min rc 255)])
    exact gives_of_becomes hb ⟨hpassive.settle hn _, fun _ =>
      bit_settle_canSticky s.card hn (by decide) (hostOnly_record _ _ _)⟩
  · rw [if_pos h3] at hb
    exact gives_of_becomes hb ⟨(h3 ▸ hshows).settle hn _, fun h2 => absurd (h2.symm.trans h3) (by decide)⟩

theorem canError_busOff {s : State} {n tec rc : Nat} (hl : Live s) (hn : n < 2)
    (hst : s.card.canState n = 2 ∨ s.card.canState n = 3) (hover : 255 < tec) :
    Gives (.canError n tec rc) s fun c' => c'.canState n = 4 ∧ c'.bit (CAN_STICKY.BUS_OFF n) = true := by
  have hb := becomes_canError tec rc hl hn hst
  dsimp only at hb
  rw [if_pos hover] at hb
  have hoff := ((((canShows_counted s.card n tec rc).leaveActive n).setState (by decide : 4 < 8)).stick 3).of_hostOnly hn
    (hostOnly_record _ 0xE002 [pN n])
  obtain ⟨_, _, hstate⟩ := hoff.settle hn s.card
  exact gives_of_becomes hb ⟨hstate, bit_settle_canSticky s.card hn (by decide) (hostOnly_record _ _ _)⟩

/-- Error active again, with cleared counters. -/
theorem canShows_recovered (c : Card) {n : Nat} (hn : n < 2) :
    CanShows n 0 0 2 (((c.setFld (CAN_STATUS.TEC n) 0).setFld (CAN_STATUS.REC n) 0).errorActive n) :=
  (canShows_counters c n (by decide) (by decide)).errorActive hn

theorem canBusOffRecovery_gives {s : State} {n : Nat} (hl : Live s) (hn : n < 2) (hst : s.card.canState n = 4)
    (hauto : s.card.bit (CAN_CTRL.AUTO_RECOVER n) = true) : Gives (.canBusOffRecovery n) s fun c' =>
      c'.canState n = 2 ∧ c'.fld (CAN_STATUS.TEC n) = 0 ∧ c'.fld (CAN_STATUS.REC n) = 0 := by
  have hb := becomes_of_on hl (exec_canBusOffRecovery n s)
  rw [if_neg (by simp [hst, hauto]; omega)] at hb
  obtain ⟨htec, hrec, hstate⟩ := (canShows_recovered s.card hn).settle hn s.card
  exact gives_of_becomes hb ⟨hstate, htec, hrec⟩

theorem becomes_canBusOffRecovery_held {s : State} {n : Nat} (hl : Live s)
    (hauto : s.card.bit (CAN_CTRL.AUTO_RECOVER n) = false) : Becomes (.canBusOffRecovery n) s s.card := by
  have hb := becomes_of_on hl (exec_canBusOffRecovery n s)
  rwa [if_pos (by simp [hauto])] at hb

theorem canIntegrationEnd_gives {s : State} {n : Nat} (hl : Live s) (hn : n < 2) (hst : s.card.canState n = 1) :
    Gives (.canIntegrationEnd n) s fun c' => c'.canState n = 2 := by
  have hb := becomes_of_on hl (exec_canIntegrationEnd n s)
  rw [if_neg (by omega)] at hb
  by_cases hoff : s.card.can.wasOff.contains n = true
  · rw [if_pos hoff] at hb
    obtain ⟨_, _, hstate⟩ := (canShows_recovered s.card hn).settle hn s.card
    exact gives_of_becomes hb hstate
  · rw [if_neg hoff] at hb
    exact gives_of_becomes hb ((canState_settle _ _ hn).trans (canState_setFld s.card n (by decide)))

/-! ### Sleep (R408) -/

theorem hostOnly_eachDone (c : Card) (ops : List (Nat × Op)) :
    HostOnly c (c.each ops fun c x => (c.commit x.1).done x.1) :=
  HostOnly.foldl ops _ (fun d x => (hostOnly_commit d x.1).trans (hostOnly_done _ x.1 _)) c

theorem canSleepEntry_gives {s : State} {n : Nat} (hl : Live s) (hn : n < 2) (hops : s.card.sleepOps n 0 ≠ [])
    (hst : s.card.canState n = 2) : Gives (.canSleepEntry n) s fun c' => c'.canState n = 5 := by
  have hb := becomes_of_on hl (exec_canSleepEntry n s)
  dsimp only at hb
  rw [if_neg (by simp [hops, hst]; omega)] at hb
  have hhost := (hostOnly_record (({ s.card with can.asks := s.card.can.asks.filter (· ≠ n) } : Card).setFld
    (CAN_STATUS.STATE n) 5) 0xE005 [pN n]).trans (hostOnly_eachDone _ (s.card.sleepOps n 0))
  exact gives_of_becomes hb ((canState_settle _ _ hn).trans ((canState_of_hostOnly hhost hn).trans
    (canState_setFld _ n (by decide))))

theorem canWake_gives {s : State} {n cause : Nat} (hl : Live s) (hn : n < 2) (hst : s.card.canState n = 5)
    (hwakes : s.card.wakes n cause = true) : Gives (.canWake n cause) s fun c' =>
      c'.canState n = 1 ∧ c'.bit (CAN_STICKY.WAKE n) = true := by
  have hb := becomes_of_on hl (exec_canWake n cause s)
  dsimp only at hb
  rw [if_neg (by simp [hst, hwakes]; omega)] at hb
  have hhost := (hostOnly_record ((s.card.setFld (CAN_STATUS.STATE n) 1).stick (CAN_STICKY.WAKE n)) 0xE006
    [pN n, pN cause]).trans (hostOnly_eachDone _ (s.card.sleepOps n 1))
  have hstate : ((s.card.setFld (CAN_STATUS.STATE n) 1).stick (CAN_STICKY.WAKE n)).canState n = 1 :=
    (Card.fld_setFld_other _ (CAN_STICKY.WAKE n) (CAN_STATUS.STATE n) 1 (canStatus_ne_sticky n)).trans
      (canState_setFld s.card n (by decide))
  exact gives_of_becomes hb ⟨(canState_settle _ _ hn).trans ((canState_of_hostOnly hhost hn).trans hstate),
    bit_settle_canSticky s.card hn (by decide) hhost⟩

theorem canStates : CanStates := fun s n hl hn =>
  ⟨fun _ _ hst => ⟨canError_active hl hn hst,
      fun ht hover => by simpa only [CanShows, and_assoc] using canError_passive hl hn hst ht hover,
      canError_busOff hl hn hst⟩,
    canBusOffRecovery_gives hl hn, fun _ => becomes_canBusOffRecovery_held hl, canIntegrationEnd_gives hl hn,
    canSleepEntry_gives hl hn, fun _ => canWake_gives hl hn⟩

/-! ### Received frames (R403) -/

/-- A frame that its controller can take, while the link is up. -/
theorem becomes_canFrameReceived {s : State} {n : Nat} {f : CanFrame} (hl : Live s) (hn : n < 2)
    (hlink : s.card.bit FIO_STATUS.LINK_OK = true) (hpower : s.card.fio.powered = true)
    (hfd : f.fdf = true → s.card.bit (CAN_CTRL.FD_EN n) = true) (hmode : s.card.fld (CAN_CTRL.MODE n) ≠ 2) :
    Becomes (.canFrameReceived n f) s
      (if s.card.canState n = 2 ∨ s.card.canState n = 3 ∨ (s.card.canState n = 5 ∧ s.card.wakeMatch n f) then
        (s.card.jrnField (35 + n) f.id.toNat f.data).storeFrame n f
      else s.card) := by
  have hb := becomes_of_on hl (exec_canFrameReceived n f s)
  dsimp only at hb
  have hreaches : ¬(2 ≤ n ∨ (!s.card.bit FIO_STATUS.LINK_OK) = true ∨ (!s.card.fio.powered) = true) := by
    simp only [hlink, hpower, Bool.not_true, Bool.false_eq_true, or_false]
    omega
  have hfits : ¬((f.fdf = true ∧ (!s.card.bit (CAN_CTRL.FD_EN n)) = true) ∨ s.card.fld (CAN_CTRL.MODE n) = 2) := by
    rintro (⟨hfdf, hno⟩ | h2)
    · rw [hfd hfdf] at hno
      cases hno
    · exact hmode h2
  rwa [if_neg hreaches, if_neg hfits] at hb

/-! ### Sent frames (R404) -/

theorem askSend_regs (c : Card) (n h slot : Nat) (at' : BitVec 32) : (c.askSend n h slot at').regs = c.regs := by
  unfold Card.askSend Card.askHole
  dsimp only
  split <;> rfl

theorem endSend_regs (c : Card) (n h : Nat) : (c.endSend n h).regs = c.regs := by
  unfold Card.endSend
  dsimp only
  split
  · rw [askSend_regs]
    rfl
  · rfl

/-- The frame of a CAN_SEND is on the bus: its operation is done. -/
theorem becomes_canFrameSent {s : State} {n h slot : Nat} (hl : Live s) (hn : n < 2) (hsends : s.card.canSends n = true)
    (hhole : s.card.sendHole n = some h) (hmode : s.card.fld (CAN_CTRL.MODE n) ≠ 2) (hop : (s.card.hole n h).op = some slot) :
    Becomes (.canFrameSent n) s
      ((({ s.card with can.lastFrames := s.card.can.lastFrames.filter (· ≠ n) }.endSend n h).commit slot).done slot) := by
  have hb := becomes_of_on hl (exec_canFrameSent n s)
  dsimp only at hb
  have hkept : ((({ s.card with can.lastFrames := s.card.can.lastFrames.filter (· ≠ n) }.endSend n h).commit slot).done
      slot).fld (CAN_CTRL.MODE n) ≠ 2 := by
    rw [fld_can_of_hostOnly ((hostOnly_commit _ slot).trans (hostOnly_done _ slot _)) (canCtrl_block hn),
      Card.fld_of_regs (endSend_regs _ n h)]
    exact hmode
  rw [if_neg (by simp [hsends]; omega), hhole] at hb
  dsimp only at hb
  rw [hop] at hb
  dsimp only at hb
  rwa [if_pos hkept] at hb

/-- A send that is not acknowledged within TX_TO frames of its trigger stops. -/
theorem becomes_canSendTimeout {s : State} {n h slot : Nat} (hl : Live s) (hn : n < 2) (hh : h < 128)
    (hasked : (s.card.hole n h).asked = true)
    (hlate : s.card.fld (CAN_CTRL.TX_TO n) ≤ framesSince s.card.frame (s.card.hole n h).at')
    (hop : (s.card.hole n h).op = some slot) : Becomes (.canSendTimeout n h) s
      (((((s.card.endSend n h).stick (CAN_STICKY.TX_TIMEOUT n)).record 0xE007 [pN n, pN h]).commit slot).complete slot
        0x0C 0xE006) := by
  have hb := becomes_of_on hl (exec_canSendTimeout n h s)
  dsimp only at hb
  rw [if_neg (by simp [hasked]; omega), hop] at hb
  exact hb

/-! ### The time snapshot (R406) -/

/-- The four words of the snapshot lie apart. -/
theorem canTsSnapshot_gives {s : State} (hl : Live s) : Gives .canTsSnapshot s fun c' =>
    c'.fld CAN_TS_PM_LO.PM = s.card.can.cap.2 % 2 ^ 32 ∧ c'.fld CAN_TS_PM_HI.PM = s.card.can.cap.2 / 2 ^ 32 % 2 ^ 32
      ∧ c'.fld CAN_TS_CNT.CNT = s.card.can.cap.1.toNat ∧ c'.fld CAN_TS_FRAME.FRAME = s.card.can.capFrame.toNat := by
  have hb := becomes_of_on hl (exec_canTsSnapshot s)
  dsimp only at hb
  apply gives_of_becomes hb
  simp only [Card.setFld_can, Card.jrnFree_can]
  obtain ⟨hlo, hhi⟩ := fld_two_words (s.card.jrnFree 0x06) (a := CAN_TS_PM_LO) (b := CAN_TS_PM_HI) s.card.can.cap.2
    (s.card.can.cap.2 / 2 ^ 32) (by decide)
  refine ⟨?_, ?_, ?_, ?_⟩
  · rw [fld_settle_can _ _ (by decide), Card.fld_setFld_other _ CAN_TS_FRAME.FRAME _ _ (by decide),
      Card.fld_setFld_other _ CAN_TS_CNT.CNT _ _ (by decide)]
    exact hlo
  · rw [fld_settle_can _ _ (by decide), Card.fld_setFld_other _ CAN_TS_FRAME.FRAME _ _ (by decide),
      Card.fld_setFld_other _ CAN_TS_CNT.CNT _ _ (by decide)]
    exact hhi
  · rw [fld_settle_can _ _ (by decide), Card.fld_setFld_other _ CAN_TS_FRAME.FRAME _ _ (by decide),
      Card.fld_setFld_same _ _ _ (by decide)]
    exact Nat.mod_eq_of_lt s.card.can.cap.1.isLt
  · rw [fld_settle_can _ _ (by decide), Card.fld_setFld_same _ _ _ (by decide)]
    exact Nat.mod_eq_of_lt s.card.can.capFrame.isLt

theorem canTraffic : CanTraffic := by
  refine ⟨fun s n f hl hn hlink hpower hfd hmode => ?_, fun s n h slot => becomes_canFrameSent,
    fun s n h slot => becomes_canSendTimeout, fun s => canTsSnapshot_gives⟩
  have hb := becomes_canFrameReceived hl hn hlink hpower hfd hmode
  refine ⟨fun hon => ?_, fun hoff => ?_⟩
  · rwa [if_pos hon] at hb
  · rwa [if_neg (by omega)] at hb

/-- Settles O40: a frame and a time-out pass the guards of their command and are the branch that the clause states; of a
change of state only the host side acts after CAN_STATUS shows it (`CanShows.of_hostOnly`). -/
theorem canController : Obligations.CanController := ⟨canTraffic, canStates⟩

end Sys2Proof.Machine

/-! Field points and the link to the field side (O39). -/

namespace Sys2Proof.Machine

open Sys2Proof.Claims

/-! ### One bit of a word -/

/-- The bit stands between the bits above it and the bits below. -/
theorem putBit_eq (w i : Nat) (b : Bool) : putBit w i b = 2 ^ i * (2 * (w / 2 ^ i / 2) + b.toNat) + w % 2 ^ i := by
  have hw := Nat.div_add_mod w (2 ^ i)
  have hh := Nat.div_add_mod (w / 2 ^ i) 2
  unfold putBit
  rw [Nat.testBit_eq_decide_div_mod_eq]
  generalize w % 2 ^ i = low at *
  generalize w / 2 ^ i = high at *
  generalize high / 2 = top at *
  generalize 2 ^ i = p at *
  subst hw
  rcases Nat.mod_two_eq_zero_or_one high with h | h <;> rw [h] at hh ⊢ <;> subst hh <;> cases b
    <;> simp [Nat.mul_add] <;> omega

theorem testBit_putBit (w i j : Nat) (b : Bool) : (putBit w i b).testBit j = if j = i then b else w.testBit j := by
  rw [putBit_eq, Nat.testBit_two_pow_mul_add _ (Nat.mod_lt w (Nat.two_pow_pos i))]
  rcases Nat.lt_trichotomy j i with hlt | rfl | hgt
  · rw [if_pos hlt, if_neg (by omega), Nat.testBit_mod_two_pow, decide_eq_true hlt, Bool.true_and]
  · rw [if_neg (by omega), if_pos rfl, Nat.sub_self]
    cases b <;> simp
  · obtain ⟨k, rfl⟩ := Nat.exists_eq_add_of_lt hgt
    have hhigh : (2 * (w / 2 ^ i / 2) + b.toNat) / 2 = w / 2 ^ i / 2 := by cases b <;> simp; omega
    rw [if_neg (by omega), if_neg (by omega), show i + k + 1 - i = k + 1 by omega, Nat.testBit_add_one, hhigh,
      ← Nat.testBit_add_one, Nat.testBit_div_two_pow, show k + 1 + i = i + k + 1 by omega]

/-- The bits put in one after the other, from a word without bits. -/
theorem testBit_foldl_putBit (level : Nat → Bool) (n i : Nat) :
    ((List.range n).foldl (fun (w i : Nat) => putBit w i (level i)) 0).testBit i = (decide (i < n) && level i) := by
  induction n with
  | zero => simp
  | succ n ih =>
    rw [List.range_succ, List.foldl_append, List.foldl_cons, List.foldl_nil, testBit_putBit, ih]
    by_cases heq : i = n
    · subst heq
      simp
    · have hlt : i < n + 1 ↔ i < n := by omega
      simp [heq, hlt]

/-! ### The field's registers -/

/-- A register of the field's block is as the command left it. -/
theorem fld_settle_fio (old new : Card) {f : Fld} (h : f.off / 0x1000 = 13) : (settle old new).fld f = new.fld f :=
  fld_settle_block old new f (by omega)

theorem bit_settle_fio (old new : Card) {f : Fld} (h : f.off / 0x1000 = 13) : (settle old new).bit f = new.bit f :=
  bit_settle_block old new f (by omega)

/-- A record leaves the field's block alone. -/
theorem reg_record_fio (c : Card) (ev : Nat) (ps : List Word) {off : Nat} (h : off / 0x1000 = 13) :
    (c.record ev ps).reg off = c.reg off :=
  Card.reg_record c ev ps (by omega) (by omega)

theorem bit_record_fio (c : Card) (ev : Nat) (ps : List Word) {f : Fld} (h : f.off / 0x1000 = 13) :
    (c.record ev ps).bit f = c.bit f :=
  Card.bit_of_fld (Card.fld_record c ev ps f (by omega) (by omega))

/-- Of another register of the field's block a field reads as before a write. -/
theorem bit_setFld_other (c : Card) {f g : Fld} (v : Nat) (h : g.off ≠ f.off) : (c.setFld f v).bit g = c.bit g :=
  Card.bit_of_fld (Card.fld_setFld_other c f g v h)

/-! ### Broken wires (R394 to R396) -/

theorem diBroken_of_reg {c c' : Card} (h : c'.reg FIO_DI_STATE = c.reg FIO_DI_STATE) (i : Nat) : c'.diBroken i = c.diBroken i :=
  congrArg (fun w => (FIO_DI_STATE.BROKEN.of w).testBit i) h

theorem diLevel_of_levels {c c' : Card} (h : c'.fio.levels = c.fio.levels) (i : Nat) : c'.diLevel i = c.diLevel i :=
  congrArg (·.getLsbD i) h

/-- The card once an input shows broken or intact. -/
def Card.markBroken (c : Card) (i : Nat) (broken : Bool) : Card :=
  c.setFld FIO_DI_STATE.BROKEN (putBit (c.fld FIO_DI_STATE.BROKEN) i broken)

theorem diBroken_markBroken (c : Card) (i : Nat) (broken : Bool) {j : Nat} (hj : j < 16) :
    (c.markBroken i broken).diBroken j = if j = i then broken else c.diBroken j := by
  unfold Card.markBroken Card.diBroken
  rw [Card.fld_setFld_same _ _ _ (by decide), Nat.testBit_mod_two_pow, testBit_putBit]
  have hw : j < FIO_DI_STATE.BROKEN.w := hj
  simp [hw]

/-- A change-of-state entry keeps to its queue, FIO_COS, FIO_COS_STAT and COS_OVF. -/
structure CosKept (c c' : Card) : Prop where
  reg : ∀ off, off ∉ [FIO_COS, FIO_COS_STAT, FIO_STICKY] → c'.reg off = c.reg off
  broken : c'.bit FIO_STICKY.BROKEN = c.bit FIO_STICKY.BROKEN
  levels : c'.fio.levels = c.fio.levels
  report : c'.fio.report = c.fio.report

theorem CosKept.refl (c : Card) : CosKept c c := ⟨fun _ _ => rfl, rfl, rfl, rfl⟩

theorem CosKept.trans {x y z : Card} (h : CosKept x y) (k : CosKept y z) : CosKept x z :=
  ⟨fun off ho => (k.reg off ho).trans (h.reg off ho), k.broken.trans h.broken, k.levels.trans h.levels, k.report.trans h.report⟩

/-- A change of the queue alone. -/
theorem CosKept.queue (c : Card) (cos : List CosEntry) (lost : Nat) : CosKept c { c with fio.cos := cos, fio.lostNow := lost } :=
  ⟨fun _ _ => rfl, rfl, rfl, rfl⟩

theorem CosKept.setFld (c : Card) {f : Fld} (v : Nat) (h : f.off = FIO_COS ∨ f.off = FIO_COS_STAT) :
    CosKept c (c.setFld f v) := by
  refine ⟨fun off ho => Card.reg_setFld_other c f v ?_, bit_setFld_other c v ?_, rfl, rfl⟩
  · rintro rfl
    rcases h with h | h <;> rw [h] at ho <;> exact ho (by decide)
  · rcases h with h | h <;> rw [h] <;> decide

/-- COS_OVF stands beside BROKEN. -/
theorem CosKept.overflow (c : Card) : CosKept c (c.stick FIO_STICKY.COS_OVF) := by
  refine ⟨fun off ho => Card.reg_setFld_other c _ _ ?_, ?_, rfl, rfl⟩
  · rintro rfl
    exact ho (by decide)
  · exact Card.bit_of_fld (Card.fld_setFld_beside c FIO_STICKY.COS_OVF FIO_STICKY.BROKEN 1 rfl (by decide) (by decide))

theorem CosKept.cosEntry (c : Card) (e : CosEntry) : CosKept c (c.cosEntry e) := by
  have hpend : CosKept c (c.setFld FIO_COS.PEND (putBit (c.fld FIO_COS.PEND) e.input true)) := .setFld c _ (Or.inl rfl)
  unfold Card.cosEntry
  dsimp only
  split
  · exact hpend.trans ((CosKept.setFld _ (f := FIO_COS_STAT.LOST) _ (Or.inr rfl)).trans ((CosKept.overflow _).trans
      (.queue _ _ _)))
  · exact hpend.trans ((CosKept.queue _ _ _).trans (.setFld _ (f := FIO_COS_STAT.FILL) _ (Or.inr rfl)))

/-- The card once an input has its new filtered level. -/
def Card.levelSet (c : Card) (i : Nat) (level : Bool) : Card :=
  { c with
    fio.levels := BitVec.ofNat 16 (putBit c.fio.levels.toNat i level)
    fio.runs := c.fio.runs.set (fun _ => (0, 0)) i (0, 0) }.jrnField (19 + i) (if level then 1 else 0)

theorem cosKept_diChange (c : Card) (i : Nat) (level : Bool) (pm : Nat) : CosKept (c.levelSet i level) (c.diChange i level pm) := by
  unfold Card.diChange
  dsimp only
  exact iteInduction (motive := CosKept (c.levelSet i level)) (fun _ => .cosEntry _ _) fun _ => .refl _

theorem diLevel_levelSet (c : Card) {i : Nat} (level : Bool) (hi : i < 16) : (c.levelSet i level).diLevel i = level := by
  have hlevel : (BitVec.ofNat 16 (putBit c.fio.levels.toNat i level)).getLsbD i = level := by
    rw [BitVec.getLsbD_ofNat, testBit_putBit]
    simp [hi]
  exact hlevel

/-- The card once a broken wire shows and is recorded. -/
def Card.toldBroken (c : Card) (i : Nat) : Card := ((c.markBroken i true).stick FIO_STICKY.BROKEN).record 0xD001 [pN i]

theorem toldBroken_shows (c : Card) {i : Nat} (hi : i < 16) :
    (c.toldBroken i).diBroken i = true ∧ (c.toldBroken i).bit FIO_STICKY.BROKEN = true := by
  unfold Card.toldBroken
  refine ⟨?_, (bit_record_fio _ _ _ (by decide)).trans (bit_stick _ (by decide) rfl)⟩
  rw [diBroken_of_reg (reg_record_fio _ _ _ (by decide)), Card.stick,
    diBroken_of_reg (Card.reg_setFld_other _ FIO_STICKY.BROKEN 1 (by decide)), diBroken_markBroken c i true hi, if_pos rfl]

/-- A change of an input's state: it shows and is recorded, and a broken input reads OFF. -/
theorem wireBreak_new {c : Card} {i : Nat} {broken : Bool} (hi : i < 16) (hen : c.bit (FIO_DI_CFG.WB_EN i) = true)
    (hnew : c.diBroken i ≠ broken) : c.wireBreak i broken =
      if broken then (if (c.toldBroken i).diLevel i then (c.toldBroken i).diChange i false (c.toldBroken i).pm else c.toldBroken i)
      else (c.markBroken i false).record 0xD002 [pN i] := by
  unfold Card.wireBreak
  rw [if_neg (by simp [hen, hnew]; omega)]
  cases broken with
  | false => rw [if_neg (by decide), if_neg (by decide), Card.markBroken]
  | true => rw [if_pos rfl, if_pos rfl, Card.toldBroken, Card.markBroken]

theorem becomes_wireBreak {s : State} (i : Nat) (broken : Bool) (hl : Live s) (hlink : s.card.bit FIO_STATUS.LINK_OK = true) :
    Becomes (.wireBreak i broken) s (s.card.wireBreak i broken) := by
  have hb := becomes_of_on hl (exec_wireBreak i broken s)
  dsimp only at hb
  rwa [if_pos hlink] at hb

theorem wireBreak_breaks {s : State} {i : Nat} (hl : Live s) (hi : i < 16) (hen : s.card.bit (FIO_DI_CFG.WB_EN i) = true)
    (hlink : s.card.bit FIO_STATUS.LINK_OK = true) (hintact : s.card.diBroken i = false) :
    Gives (.wireBreak i true) s fun c' => c'.diBroken i = true ∧ c'.bit FIO_STICKY.BROKEN = true ∧ c'.diLevel i = false := by
  have hb := becomes_wireBreak i true hl hlink
  rw [wireBreak_new hi hen (by simp [hintact]), if_pos rfl] at hb
  apply gives_of_becomes hb
  obtain ⟨hbroken, hbit⟩ := toldBroken_shows s.card hi
  rw [diBroken_of_reg (reg_settle_block _ _ (by decide)), bit_settle_fio _ _ (by decide),
    diLevel_of_levels (congrArg Fio.levels (settle_fio _ _))]
  by_cases hon : (s.card.toldBroken i).diLevel i = true
  · have hkept := cosKept_diChange (s.card.toldBroken i) i false (s.card.toldBroken i).pm
    rw [if_pos hon, diBroken_of_reg (hkept.reg _ (by decide)), hkept.broken, diLevel_of_levels hkept.levels]
    exact ⟨hbroken, hbit, diLevel_levelSet _ false hi⟩
  · rw [if_neg hon]
    exact ⟨hbroken, hbit, Bool.eq_false_iff.mpr hon⟩

theorem wireBreak_mends {s : State} {i : Nat} (hl : Live s) (hi : i < 16) (hen : s.card.bit (FIO_DI_CFG.WB_EN i) = true)
    (hlink : s.card.bit FIO_STATUS.LINK_OK = true) (hbroken : s.card.diBroken i = true) :
    Gives (.wireBreak i false) s fun c' => c'.diBroken i = false ∧ ∀ j < 16, j ≠ i → c'.diBroken j = s.card.diBroken j := by
  have hb := becomes_wireBreak i false hl hlink
  rw [wireBreak_new hi hen (by simp [hbroken]), if_neg (by decide)] at hb
  apply gives_of_becomes hb
  have hshows : ∀ j < 16, (settle s.card ((s.card.markBroken i false).record 0xD002 [pN i])).diBroken j
      = if j = i then false else s.card.diBroken j := fun j hj => by
    rw [diBroken_of_reg (reg_settle_block _ _ (by decide)), diBroken_of_reg (reg_record_fio _ _ _ (by decide)),
      diBroken_markBroken _ _ _ hj]
  exact ⟨(hshows i hi).trans (if_pos rfl), fun j hj hne => (hshows j hj).trans (if_neg hne)⟩

/-! ### Samples, outputs and the supply (R394, R397, R398, R296) -/

theorem becomes_diSample {s : State} (l : BitVec 16) (hl : Live s) :
    (s.card.bit FIO_STATUS.LINK_OK = true → s.card.fio.powered = true →
      Becomes (.diSample l) s (s.card.each (List.range 16) fun c i => c.diSample i (l.getLsbD i)))
    ∧ (s.card.bit FIO_STATUS.LINK_OK = false ∨ s.card.fio.powered = false → Becomes (.diSample l) s s.card) := by
  have hb := becomes_of_on hl (exec_diSample l s)
  refine ⟨fun hlink hpower => ?_, fun hoff => ?_⟩
  · rwa [if_neg (by simp [hlink, hpower])] at hb
  · rwa [if_pos (by rcases hoff with h | h <;> simp [h])] at hb

/-- The card once an output that was on is off in fault. -/
def Card.outputTripped (c : Card) (k : Nat) : Card :=
  { c.setFld FIO_DO_STATE.FAULT (putBit (c.fld FIO_DO_STATE.FAULT) k true) with
    fio.drive := c.fio.drive &&& ~~~BitVec.ofNat 8 (2 ^ k), fio.tripped := c.fio.tripped ||| BitVec.ofNat 8 (2 ^ k) }

theorem becomes_doFault {s : State} {k : Nat} (th : Bool) (hl : Live s) (hk : k < 8) (hon : s.card.fio.drive.getLsbD k = true) :
    Becomes (.doFault k th) s (((s.card.outputTripped k).stick FIO_STICKY.DO_FAULT).record 0xD010
      [pN k, pN (if th then 1 else 0)]) := by
  have hb := becomes_of_on hl (exec_doFault k th s)
  dsimp only at hb
  rw [if_neg (by simp [hon]; omega)] at hb
  exact hb

theorem becomes_doFault_off {s : State} {k : Nat} (th : Bool) (hl : Live s) (hoff : s.card.fio.drive.getLsbD k = false) :
    Becomes (.doFault k th) s s.card := by
  have hb := becomes_of_on hl (exec_doFault k th s)
  rwa [if_pos (by simp [hoff])] at hb

theorem doFault_gives {s : State} {k : Nat} (th : Bool) (hl : Live s) (hk : k < 8) (hon : s.card.fio.drive.getLsbD k = true) :
    Gives (.doFault k th) s fun c' => c'.fio.drive = s.card.fio.drive &&& ~~~BitVec.ofNat 8 (2 ^ k)
      ∧ c'.bit FIO_STICKY.DO_FAULT = true ∧ (c'.fld FIO_DO_STATE.FAULT).testBit k = true
      ∧ c'.fio.tripped = s.card.fio.tripped ||| BitVec.ofNat 8 (2 ^ k) := by
  apply gives_of_becomes (becomes_doFault th hl hk hon)
  rw [settle_fio, Card.record_fio, Card.stick_fio, bit_settle_fio _ _ (by decide), bit_record_fio _ _ _ (by decide),
    fld_settle_fio _ _ (by decide), Card.fld_record _ _ _ _ (by decide) (by decide), Card.stick,
    Card.fld_setFld_other _ _ _ _ (by decide)]
  refine ⟨rfl, bit_stick _ (by decide) rfl, ?_, rfl⟩
  have hfault : (s.card.outputTripped k).fld FIO_DO_STATE.FAULT = putBit (s.card.fld FIO_DO_STATE.FAULT) k true % 2 ^ 8 :=
    Card.fld_setFld_same s.card FIO_DO_STATE.FAULT _ (by decide)
  rw [hfault, Nat.testBit_mod_two_pow, testBit_putBit]
  simp [hk]

theorem doSupChange_gives {s : State} (ok : Bool) (v : Nat) (hl : Live s) :
    Gives (.doSupChange ok v) s fun c' => c'.bit FIO_STATUS.SUP_OK = ok ∧ (ok = false → c'.bit FIO_STICKY.SUP_LOW = true) := by
  have hb := becomes_of_on hl (exec_doSupChange ok v s)
  dsimp only at hb
  have hshows : (s.card.setBit FIO_STATUS.SUP_OK ok).bit FIO_STATUS.SUP_OK = ok := bit_setBit _ _ (by decide) rfl
  apply gives_of_becomes hb
  rw [bit_settle_fio _ _ (by decide), bit_settle_fio _ _ (by decide)]
  cases ok with
  | true => exact ⟨hshows, nofun⟩
  | false =>
    rw [if_pos (by decide), bit_record_fio _ _ _ (by decide), bit_record_fio _ _ _ (by decide)]
    exact ⟨(bit_setFld_other _ _ (by decide)).trans hshows, fun _ => bit_stick _ (by decide) rfl⟩

theorem becomes_aoRangeSequence {s : State} {k : Nat} (hl : Live s) (hk : k < 4) :
    Becomes (.aoRangeSequence k) s (((s.card.aoStep k).aoStep k).aoStep k) := by
  have hb := becomes_of_on hl (exec_aoRangeSequence k s)
  rwa [if_neg (by omega)] at hb

theorem fieldPoints : FieldPoints :=
  ⟨fun _ l hl => becomes_diSample l hl,
    fun _ _ hl hi hen hlink => ⟨wireBreak_breaks hl hi hen hlink, wireBreak_mends hl hi hen hlink⟩,
    fun _ _ th hl hk => ⟨doFault_gives th hl hk, becomes_doFault_off th hl⟩,
    fun _ ok v hl => doSupChange_gives ok v hl, fun _ _ hl hk => becomes_aoRangeSequence hl hk⟩

/-! ### The link (R391 to R393) -/

theorem becomes_fieldLinkFrame {s : State} (up ok : Bool) (rb : BitVec 8) (n : BitVec 32) (hl : Live s)
    (hpower : s.card.fio.powered = true) : Becomes (.fieldLinkFrame up true ok rb n) s
      (if up then s.card.frameToField else s.card.frameFromField ok rb n) := by
  have hb := becomes_of_on hl (exec_fieldLinkFrame up true ok rb n s)
  rwa [hpower, if_pos (by decide)] at hb

theorem becomes_fieldLinkFrame_invalid {s : State} (up ok : Bool) (rb : BitVec 8) (n : BitVec 32) (hl : Live s) :
    Becomes (.fieldLinkFrame up false ok rb n) s (if up then s.card.tableSent else s.card) := by
  have hb := becomes_of_on hl (exec_fieldLinkFrame up false ok rb n s)
  rwa [Bool.false_and, if_neg (by decide)] at hb

theorem fieldSideSilent_gives {s : State} (hl : Live s) (hlink : s.card.bit FIO_STATUS.LINK_OK = true) :
    Gives .fieldSideSilent s fun c' => c'.bit FIO_STATUS.LINK_OK = false ∧ c'.bit FIO_STICKY.LINK_LOST = true
      ∧ c'.fio.lostAt = s.card.frame ∧ c'.fio.drive = s.card.fio.drive := by
  have hb := becomes_of_on hl (exec_fieldSideSilent s)
  dsimp only at hb
  rw [if_pos hlink] at hb
  apply gives_of_becomes hb
  rw [bit_settle_fio _ _ (by decide), bit_settle_fio _ _ (by decide), bit_record_fio _ _ _ (by decide),
    bit_record_fio _ _ _ (by decide), settle_fio, Card.record_fio]
  refine ⟨?_, bit_stick (s.card.setFld FIO_STATUS.LINK_OK 0) (by decide) rfl, rfl, rfl⟩
  exact (bit_setFld_other (s.card.setFld FIO_STATUS.LINK_OK 0) (f := FIO_STICKY.LINK_LOST) 1 (by decide)).trans
    (bit_setBit s.card false (by decide) rfl)

/-- LINK_OK is shown and no safe state waits for its report. -/
def LinkBack (c : Card) : Prop := c.bit FIO_STATUS.LINK_OK = true ∧ c.fio.report = none

theorem LinkBack.of_kept {c c' : Card} (h : LinkBack c) (hlink : c'.bit FIO_STATUS.LINK_OK = c.bit FIO_STATUS.LINK_OK)
    (hreport : c'.fio.report = c.fio.report) : LinkBack c' :=
  ⟨hlink.trans h.1, hreport.trans h.2⟩

theorem LinkBack.setFld {c : Card} (h : LinkBack c) {f : Fld} (v : Nat) (hf : FIO_STATUS ≠ f.off) : LinkBack (c.setFld f v) :=
  h.of_kept (bit_setFld_other c v hf) rfl

theorem LinkBack.record {c : Card} (h : LinkBack c) (ev : Nat) (ps : List Word) : LinkBack (c.record ev ps) :=
  h.of_kept (bit_record_fio c ev ps (by decide)) (by rw [Card.record_fio])

theorem LinkBack.diChange {c : Card} (h : LinkBack c) (i : Nat) (level : Bool) (pm : Nat) : LinkBack (c.diChange i level pm) :=
  have hkept := cosKept_diChange c i level pm
  h.of_kept (Card.bit_of_fld (congrArg FIO_STATUS.LINK_OK.of (hkept.reg FIO_STATUS (by decide)))) hkept.report

/-- A wire break that is told late. -/
theorem LinkBack.wireBreak {c : Card} (h : LinkBack c) (i : Nat) (broken : Bool) : LinkBack (c.wireBreak i broken) := by
  unfold Card.wireBreak
  split
  · exact h
  · have hmarked := h.setFld (f := FIO_DI_STATE.BROKEN) (putBit (c.fld FIO_DI_STATE.BROKEN) i broken) (by decide)
    dsimp only
    split
    · have htold := (hmarked.setFld (f := FIO_STICKY.BROKEN) 1 (by decide)).record 0xD001 [pN i]
      split
      · exact htold.diChange i false _
      · exact htold
    · exact hmarked.record 0xD002 [pN i]

/-- Once the link is back and the logic side is heard, the report of a safe state is made. -/
theorem linkBack_reportSafe {c : Card} (hlink : c.bit FIO_STATUS.LINK_OK = true) (hheard : c.fio.silent = false) :
    LinkBack c.reportSafe := by
  unfold Card.reportSafe
  rw [if_neg (by simp [hheard])]
  split
  case h_1 hnone => exact ⟨hlink, hnone⟩
  case h_2 cause _ =>
    have hactive : LinkBack (({ c with fio.report := none } : Card).setFld FIO_STATUS.SAFE_ACTIVE 1) :=
      ⟨(Card.bit_of_fld (Card.fld_setFld_beside _ FIO_STATUS.SAFE_ACTIVE FIO_STATUS.LINK_OK 1 rfl (by decide)
        (by decide))).trans hlink, rfl⟩
    refine each_keeps (P := LinkBack) _ (fun d n _ hd => ?_) _
      ((hactive.setFld (f := FIO_STICKY.SAFE_ENTERED) 1 (by decide)).record 0xD022 [pN cause])
    split
    · exact (hd.setFld (f := THM_STICKY.AO_SAFE) 1 (by decide)).record _ _
    · exact hd

/-- The card once the link shows again and its return is recorded. -/
def Card.linkShown (c : Card) : Card :=
  (c.setFld FIO_STATUS.LINK_OK 1).record 0xD021 [pN (framesSince c.frame c.fio.lostAt)]

theorem linkRestored_gives {s : State} (hl : Live s) (hlink : s.card.bit FIO_STATUS.LINK_OK = false)
    (hpower : s.card.fio.powered = true) (hheard : s.card.fio.silent = false) : Gives .linkRestored s LinkBack := by
  have hb := becomes_of_on hl (exec_linkRestored s)
  dsimp only at hb
  rw [if_neg (by simp [hlink, hpower])] at hb
  have hup : (s.card.setFld FIO_STATUS.LINK_OK 1).bit FIO_STATUS.LINK_OK = true := bit_stick s.card (by decide) rfl
  have hreported := linkBack_reportSafe (c := s.card.linkShown) ((bit_record_fio _ _ _ (by decide)).trans hup)
    (by rw [Card.linkShown, Card.record_fio]; exact hheard)
  have hback := each_keeps (P := LinkBack) (step := fun (c : Card) (x : Nat × Bool) => c.wireBreak x.1 x.2)
    s.card.linkShown.reportSafe.fio.late (fun _ x _ hd => hd.wireBreak x.1 x.2)
    { s.card.linkShown.reportSafe with fio.late := [] } (hreported.of_kept rfl rfl)
  exact gives_of_becomes hb (hback.of_kept (bit_settle_fio _ _ (by decide)) (congrArg Fio.report (settle_fio _ _)))

/-! ### The safe state and the field's power (R391, R399, R400) -/

/-- What an analog output does leaves the digital side alone. -/
theorem each_fio {α : Type} (l : List α) {step : Card → α → Card} (h : ∀ c x, (step c x).fio = c.fio) (c : Card) :
    (c.each l step).fio = c.fio :=
  each_keeps (P := fun d => d.fio = c.fio) l (fun d x _ hd => (h d x).trans hd) c rfl

theorem safeState_gives {s : State} {t : SafeTable} (hl : Live s) (hheard : s.card.fio.silent = false)
    (hpower : s.card.fio.powered = true) (htable : s.card.fio.table = some t) :
    Gives .safeState s fun c' => c'.fio.silent = true ∧ c'.fio.safeDo = 0xFF
      ∧ ∀ i < 8, c'.fio.drive.getLsbD i = (!s.card.fio.tripped.getLsbD i
          && (if t.actions / 4 ^ i % 4 = 0 then false else if t.actions / 4 ^ i % 4 = 1 then true
              else s.card.fio.drive.getLsbD i)) := by
  have hb := becomes_of_on hl (exec_safeState s)
  dsimp only at hb
  rw [if_neg (by simp [hheard, hpower])] at hb
  apply gives_of_becomes hb
  rw [settle_fio, each_fio _ fun c n => by split <;> rfl]
  refine ⟨rfl, rfl, fun i hi => ?_⟩
  rw [BitVec.getLsbD_and, BitVec.getLsbD_not, BitVec.getLsbD_ofNat, testBit_foldl_putBit, htable]
  simp only [hi, decide_true, Bool.true_and, Option.isSome_some, Bool.not_true, Bool.false_eq_true, if_false, Option.map_some,
    Option.getD_some]
  rw [Bool.and_comm]
  congr 1
  split
  case h_1 h => rw [h]; rfl
  case h_2 h => rw [h]; rfl
  case h_3 h0 h1 => rw [if_neg h0, if_neg h1]

theorem becomes_fieldPowerLost {s : State} (hl : Live s) :
    Becomes .fieldPowerLost s { s.card with fio.powered := false, fio.drive := 0, fio.table := none } := by
  have hb := becomes_of_on hl (exec_fieldPowerLost s)
  exact hb

theorem becomes_fieldPowerUp {s : State} (hl : Live s) (hpower : s.card.fio.powered = false) :
    Becomes .fieldPowerUp s { s.card with fio.powered := true, fio.silent := false } := by
  have hb := becomes_of_on hl (exec_fieldPowerUp s)
  dsimp only at hb
  rwa [if_neg (by simp [hpower])] at hb

theorem fieldLink : FieldLink :=
  ⟨fun _ up ok rb n hl => ⟨becomes_fieldLinkFrame up ok rb n hl, becomes_fieldLinkFrame_invalid up ok rb n hl⟩,
    fun _ => fieldSideSilent_gives, fun _ => linkRestored_gives, fun _ _ => safeState_gives, fun _ => becomes_fieldPowerLost,
    fun _ => becomes_fieldPowerUp⟩

/-- Settles O39: a broken wire shows through the change of level that it brings (`cosKept_diChange`), a safe state's levels
are the bits put one by one (`testBit_foldl_putBit`), and a returned link lasts through what is told then (`LinkBack`). -/
theorem fieldPointsAndLink : Obligations.FieldPointsAndLink := ⟨fieldPoints, fieldLink⟩

end Sys2Proof.Machine
